-- ==== Sys2Proof/Word.lean ====
section
/-! DEFINITION. The byte of the plant line and the index types of the part's tables.

Quantities of the part are integers held in `Nat` or `Int` (spec/00_scope.md, "Numbers and units": every quantity
the part holds or exchanges is an integer, and intermediate products are held exactly). Only what travels on the line
as bits is a bit vector. -/

namespace Sys2Proof

/-- One byte of a frame (spec/11_frame_and_record_formats.md). -/
abbrev Byte := BitVec 8

/-- The six own-node or controller-node straps, read as a number (spec/00_scope.md, "Terminals"). -/
abbrev Strap := Fin 64

/-- Index of a point record, 0 to 255 (R24). -/
abbrev PointIx := Fin 256

/-- Index of a consumer record, c0 to c7 (R55). -/
abbrev ConsumerIx := Fin 8

/-- Index of a zone record, z0 to z23 (R100). -/
abbrev ZoneIx := Fin 24

/-- Index of a group record, g0 to g31 (R143). -/
abbrev GroupIx := Fin 32

/-- Index of a buffer record, b0 to b63, and of a Scene Store slot, 0 to 63 (R118, R119). -/
abbrev BufferIx := Fin 64

/-- Index of a buffer pair, 0 to 31: buffers 2n and 2n+1 (R119). -/
abbrev PairIx := Fin 32

/-- One of the two slots of the Request Stage (R174). -/
abbrev SlotIx := Fin 2

end Sys2Proof
end

