-- ==== Sys2Proof/Config.lean ====
section
/-! DEFINITION. The constants the spec fixes for every part: identity, capacities and periods.

There is no free value here: every result this model computes is stated by a rule of spec/ or named in a log entry
(INVENTORY.md, "What the manual leaves open", goes through the candidates one by one). -/

namespace Sys2Proof.Config

/-- Model code returned by READ_STATUS (R182). -/
def modelCode : Nat := 3480

/-- Revision returned by READ_STATUS (R182). -/
def revision : Nat := 1

/-- Frames the Forward Buffer holds (R9). -/
def forwardCapacity : Nat := 4

/-- Notices the Notice Queue holds (R188). -/
def noticeCapacity : Nat := 32

/-- BUSY replies that may be pending in the Command Queue (R21). -/
def busyCapacity : Nat := 6

/-- Greatest run count of the Line Out arbiter (R15). -/
def runLimit : Nat := 4

/-- Silence timer, in ms (R7). -/
def silenceMs : Nat := 100

/-- Wake timer period, in ms (R8). -/
def wakeMs : Nat := 10

/-- STATUS period, in ms (R16). -/
def statusMs : Nat := 1000

/-- Step period after power-on reset, in ms (R141). -/
def powerOnStepMs : Nat := 1000

/-- Broadcast node number (chapter 1.1). -/
def broadcast : Nat := 63

/-- Greatest node number of a station (chapter 1.1). -/
def lastNode : Nat := 62

/-- Own-node straps of `Machine.State.reset`. DESIGN CHOICE (log entry 1): the straps are inputs of the board and the
spec gives them no value. -/
def resetOwnStrap : Strap := 1

/-- Controller-node straps of `Machine.State.reset`. DESIGN CHOICE (log entry 1): node 2 is the building controller
of the spec's own worked examples. -/
def resetControllerStrap : Strap := 2

end Sys2Proof.Config
end

