-- ==== Sys2Proof/Syntax.lean ====
section
/-! DEFINITION. The commands of the block: one constructor for each row of spec/opcode_table.json.

A command is one of the part's steps, "each whole and indivisible" (spec/95_what_each_step_holds.md): a frame arriving
at Line In, the expiry of a timer, the completion of an operation in flight, the taking of something one block has
handed another, or the taking of a management request by its owner. A request's own operands are the argument bytes of
its MANAGE frame, which stand in the Request Stage (R174); the command names the slot. -/

namespace Sys2Proof

/-- An ice surface: 1, the main bowl; 2, the practice sheet. -/
inductive Sheet where
  | one
  | two
deriving DecidableEq, Repr

/-- The three zone caps of a sheet, per mille, one for each ring (R96). -/
structure Caps where
  iceEdge : Nat
  mid : Nat
  upper : Nat
deriving DecidableEq, Repr

/-- The thirteen notice kinds (chapter 10.1). -/
inductive NoticeKind where
  | lineDown
  | lineUp
  | pointStale
  | substituteOn
  | pointRecovered
  | heatInputLost
  | overDemandOn
  | overDemandOff
  | fogState
  | mode
  | transferred
  | searchLate
  | forwardOverrun
deriving DecidableEq, Repr

/-- The commands: one constructor per row of spec/opcode_table.json, in the table's order. -/
inductive Instr where
  /-- POWER_ON_RESET (R22): the own-node and controller-node straps as read, each 0 to 63. -/
  | powerOnReset (own controller : Strap)
  /-- FRAME_ARRIVAL (R1): the bytes received for one delimited frame, header first, check sum last, as many as arrived. -/
  | frameArrival (bytes : List Byte)
  /-- VALUE_REPORT (R166): the point that reports and its new presented value. -/
  | valueReport (point : PointIx) (value : Int)
  /-- SILENCE_TIMER_EXPIRY (R7). -/
  | silenceTimerExpiry
  /-- WAKE_TIMER_EXPIRY (R8). -/
  | wakeTimerExpiry
  /-- STATUS_PERIOD_EXPIRY (R16). -/
  | statusPeriodExpiry
  /-- LINE_OUT_SEND_COMPLETE (R15). -/
  | lineOutSendComplete
  /-- STALE_TIMER_EXPIRY (R40). -/
  | staleTimerExpiry (point : PointIx)
  /-- SETTLE_TIMER_EXPIRY (R46). -/
  | settleTimerExpiry (point : PointIx)
  /-- ALLOCATION_PERIOD_EXPIRY (R64). -/
  | allocationPeriodExpiry
  /-- REALLOCATION_REQUEST (R65). -/
  | reallocationRequest
  /-- ALLOCATION_COMPLETION (R70). -/
  | allocationCompletion
  /-- ELECTRIC_RECOMPUTE (R75). -/
  | electricRecompute
  /-- LIGHTING_LOAD_UPDATE (R75): the lighting load reported by the Scene Unit, 0.1 kW. -/
  | lightingLoadUpdate (load : Nat)
  /-- FOG_PERIOD_EXPIRY (R85). -/
  | fogPeriodExpiry (sheet : Sheet)
  /-- RECOVER_TIMER_EXPIRY (R92). -/
  | recoverTimerExpiry (sheet : Sheet)
  /-- CAP_HANDING (R106): the sheet and the three caps handed for it. -/
  | capHanding (sheet : Sheet) (caps : Caps)
  /-- HAZE_CUT (R155). -/
  | hazeCut (sheet : Sheet)
  /-- STEP_START (R141). -/
  | stepStart
  /-- SEARCH_COMPLETION (R150). -/
  | searchCompletion
  /-- TRANSFER_COMPLETION (R132). -/
  | transferCompletion
  /-- NOTICE_OFFER (R188): the kind, the subject and the value of the offered notice. -/
  | noticeOffer (kind : NoticeKind) (subject : Nat) (value : Int)
  /-- SECONDS_TICK (R185). -/
  | secondsTick
  /-- WRITE_POINT (R26): the owner takes the request in this Request Stage slot. -/
  | writePoint (slot : SlotIx)
  /-- ENABLE_POINT (R27): the owner takes the request in this Request Stage slot. -/
  | enablePoint (slot : SlotIx)
  /-- DISABLE_POINT (R28): the owner takes the request in this Request Stage slot. -/
  | disablePoint (slot : SlotIx)
  /-- CLEAR_SUBSTITUTE (R29): the owner takes the request in this Request Stage slot. -/
  | clearSubstitute (slot : SlotIx)
  /-- READ_POINT (R30): the owner takes the request in this Request Stage slot. -/
  | readPoint (slot : SlotIx)
  /-- WRITE_RECOVERY (R50): the owner takes the request in this Request Stage slot. -/
  | writeRecovery (slot : SlotIx)
  /-- WRITE_CONSUMER (R56): the owner takes the request in this Request Stage slot. -/
  | writeConsumer (slot : SlotIx)
  /-- ENABLE_CONSUMER (R57): the owner takes the request in this Request Stage slot. -/
  | enableConsumer (slot : SlotIx)
  /-- DISABLE_CONSUMER (R58): the owner takes the request in this Request Stage slot. -/
  | disableConsumer (slot : SlotIx)
  /-- READ_BUDGET (R59): the owner takes the request in this Request Stage slot. -/
  | readBudget (slot : SlotIx)
  /-- LOAD_DEW_TABLE (R79): the owner takes the request in this Request Stage slot. -/
  | loadDewTable (slot : SlotIx)
  /-- WRITE_SHEET (R81): the owner takes the request in this Request Stage slot. -/
  | writeSheet (slot : SlotIx)
  /-- ENABLE_FOG (R82): the owner takes the request in this Request Stage slot. -/
  | enableFog (slot : SlotIx)
  /-- DISABLE_FOG (R83): the owner takes the request in this Request Stage slot. -/
  | disableFog (slot : SlotIx)
  /-- WRITE_FOG_CAPS (R96): the owner takes the request in this Request Stage slot. -/
  | writeFogCaps (slot : SlotIx)
  /-- READ_SHEET (R84): the owner takes the request in this Request Stage slot. -/
  | readSheet (slot : SlotIx)
  /-- WRITE_ZONE (R101): the owner takes the request in this Request Stage slot. -/
  | writeZone (slot : SlotIx)
  /-- ENABLE_ZONE (R102): the owner takes the request in this Request Stage slot. -/
  | enableZone (slot : SlotIx)
  /-- DISABLE_ZONE (R103): the owner takes the request in this Request Stage slot. -/
  | disableZone (slot : SlotIx)
  /-- READ_ZONE (R104): the owner takes the request in this Request Stage slot. -/
  | readZone (slot : SlotIx)
  /-- CONFIGURE_BUFFER (R121): the owner takes the request in this Request Stage slot. -/
  | configureBuffer (slot : SlotIx)
  /-- LOCK_BUFFER (R123): the owner takes the request in this Request Stage slot. -/
  | lockBuffer (slot : SlotIx)
  /-- UNLOCK_BUFFER (R124): the owner takes the request in this Request Stage slot. -/
  | unlockBuffer (slot : SlotIx)
  /-- WRITE_SCENE (R125): the owner takes the request in this Request Stage slot. -/
  | writeScene (slot : SlotIx)
  /-- COMMIT (R126): the owner takes the request in this Request Stage slot. -/
  | commit (slot : SlotIx)
  /-- ENABLE_BUFFER (R127): the owner takes the request in this Request Stage slot. -/
  | enableBuffer (slot : SlotIx)
  /-- DISABLE_BUFFER (R128): the owner takes the request in this Request Stage slot. -/
  | disableBuffer (slot : SlotIx)
  /-- READ_BUFFER (R129): the owner takes the request in this Request Stage slot. -/
  | readBuffer (slot : SlotIx)
  /-- SET_STEP_PERIOD (R142): the owner takes the request in this Request Stage slot. -/
  | setStepPeriod (slot : SlotIx)
  /-- WRITE_GROUP (R144): the owner takes the request in this Request Stage slot. -/
  | writeGroup (slot : SlotIx)
  /-- ENABLE_GROUP (R145): the owner takes the request in this Request Stage slot. -/
  | enableGroup (slot : SlotIx)
  /-- DISABLE_GROUP (R146): the owner takes the request in this Request Stage slot. -/
  | disableGroup (slot : SlotIx)
  /-- READ_GROUP (R147): the owner takes the request in this Request Stage slot. -/
  | readGroup (slot : SlotIx)
  /-- WRITE_PROFILE (R163): the owner takes the request in this Request Stage slot. -/
  | writeProfile (slot : SlotIx)
  /-- SET_MODE (R164): the owner takes the request in this Request Stage slot. -/
  | setMode (slot : SlotIx)
  /-- COVER_SHEET (R169): the owner takes the request in this Request Stage slot. -/
  | coverSheet (slot : SlotIx)
  /-- UNCOVER_SHEET (R170): the owner takes the request in this Request Stage slot. -/
  | uncoverSheet (slot : SlotIx)
  /-- READ_PROFILE (R172): the owner takes the request in this Request Stage slot. -/
  | readProfile (slot : SlotIx)
  /-- READ_STATUS (R182): the owner takes the request in this Request Stage slot. -/
  | readStatus (slot : SlotIx)
  /-- READ_NODE (R181): the owner takes the request in this Request Stage slot. -/
  | readNode (slot : SlotIx)
  /-- WRITE_RIGHTS (R179): the owner takes the request in this Request Stage slot. -/
  | writeRights (slot : SlotIx)
  /-- FREEZE_RIGHTS (R180): the owner takes the request in this Request Stage slot. -/
  | freezeRights (slot : SlotIx)
  /-- RESTART (R183): the owner takes the request in this Request Stage slot. -/
  | restart (slot : SlotIx)
  /-- WRITE_NOTICE_MASK (R187): the owner takes the request in this Request Stage slot. -/
  | writeNoticeMask (slot : SlotIx)
  /-- RESET_ASSERTED (R22). -/
  | resetAsserted
deriving DecidableEq, Repr

end Sys2Proof
end

