-- ==== Sys2Proof/Decode.lean ====
section
/-! DEFINITION. The command that a word spells by the table's bits.

No row of spec/opcode_table.json gives any bits (each row's "fields" is empty and no row has a match and a mask): the
block has no encoding of its commands, so no word spells one. The bytes of a MANAGE frame are decoded where the part
itself decodes them, in Machine/Requests.lean and Machine/Operands.lean. -/

namespace Sys2Proof

/-- The command a word spells by the table's bits: none, since the table gives no row bits. -/
def decodeTableWord (_nbits _w : Nat) : Option Instr :=
  none

end Sys2Proof
end

