-- ==== Sys2Proof/Machine/Records.lean ====
section
/-! DEFINITION. The records of the nine blocks, as the spec's state tables give them. Plain data throughout.

A timer is `none` while stopped and `some r` while running with r ms to its expiry. -/

namespace Sys2Proof.Machine

/-! ### Line Interface (spec/01_the_plant_line.md) -/

/-- The rights a Node Table record may hold (R178). -/
structure Rights where
  read : Bool
  plant : Bool
  lighting : Bool
  admin : Bool
deriving DecidableEq, Repr

/-- One right, as a request requires it (chapter 9.4). -/
inductive Right where
  | read
  | plant
  | lighting
  | admin
deriving DecidableEq, Repr

/-- A Node Table record (chapter 1.2). -/
structure NodeRec where
  seen : Bool
  last : Nat
  missed : Nat
  dup : Nat
  rights : Rights
deriving DecidableEq, Repr

/-- An actuator address: the pair (node, channel) (chapter 1.8). -/
structure ActAddr where
  node : Nat
  channel : Nat
deriving DecidableEq, Repr

/-- An entry of the Command Queue (chapter 1.5). A request reply remembers the slot it frees (R12) and whether it is
the DONE reply of a RESTART (R183). -/
inductive QueueEntry where
  | actuator (addr : ActAddr) (value : Nat)
  | reply (slot : SlotIx) (dest : Nat) (payload : List Byte) (restart : Bool)
  | busy (dest : Nat) (payload : List Byte)
deriving DecidableEq, Repr

/-- Which source a frame being sent on Line Out came from (R15). -/
inductive SendSource where
  | forwarded
  | actuator
  | reply (slot : SlotIx) (restart : Bool)
  | busy
  | notice
  | status
  | wake
deriving DecidableEq, Repr

/-- The frame being sent on Line Out, whole, and its source (R15). -/
structure Sending where
  frame : List Byte
  source : SendSource
deriving DecidableEq, Repr

/-- The state of the Line Interface (the table at the head of spec/01_the_plant_line.md, with the relay drive, the
reset input and the strap numbers of R22). The Actuator Index is derived from the records (`ownerOf`). -/
structure LineInterface where
  /-- The external reset input is asserted, or the part is unpowered (R22). -/
  held : Bool
  /-- The bypass relay drive is energised (R22). -/
  relay : Bool
  own : Nat
  controller : Nat
  /-- Line In state: UP or DOWN (R7). -/
  up : Bool
  silenceTimer : Option Nat
  wakeTimer : Option Nat
  /-- Time base at the entry into DOWN, for the LINE_UP value (R7). -/
  downSince : Nat
  wakePending : Bool
  nodes : Vector NodeRec 64
  /-- Forward Buffer, head first: whole frames (R9). -/
  forward : List (List Byte)
  /-- Command Queue, head first (R11). -/
  queue : List QueueEntry
  runCount : Nat
  sending : Option Sending
  originSeq : Nat
  statusTimer : Option Nat
  lineErrors : Nat
  overruns : Nat
  drops : Nat
  overrunArmed : Bool
deriving DecidableEq, Repr

/-! ### Point Unit (spec/02_points_and_the_point_map.md) -/

/-- Point classes (chapter 2.1). -/
inductive PointClass where
  | temperature
  | humidity
  | flow
  | haze
  | power
  | count
  | position
deriving DecidableEq, Repr

/-- Point states (chapter 2). -/
inductive PointState where
  | unused
  | disabled
  | never
  | fresh
  | settling
  | staleHeld
  | staleSub
deriving DecidableEq, Repr

/-- Quality of a presented value (chapter 2). -/
inductive Quality where
  | none
  | good
  | held
  | substituted
deriving DecidableEq, Repr

/-- Side of a spike (R34). -/
inductive Side where
  | above
  | below
deriving DecidableEq, Repr

/-- Definition fields of a point (chapter 2.1). -/
structure PointDef where
  node : Nat
  channel : Nat
  cls : PointClass
  rawWidth : Nat
  gain : Int
  offset : Int
  lo : Int
  hi : Int
  staleLimit : Nat
  recoverCount : Nat
  maxStep : Nat
  substitute : Option PointIx
  settleTime : Nat
deriving DecidableEq, Repr

/-- A point record (chapter 2.1). `presented` is the point's own presented value; what a point in STALE_SUB presents
is its substitute's, computed by `presentedValue` (R42). -/
structure Point where
  defn : PointDef
  state : PointState
  presented : Int
  ownValue : Int
  clamped : Bool
  spikeCount : Nat
  spikeSide : Side
  recovery : Nat
  lastAccepted : Option Nat
  accepted : Nat
  rangeCount : Nat
  spikes : Nat
  faults : Nat
  staleTimer : Option Nat
  settleTimer : Option Nat
deriving DecidableEq, Repr

/-- What a block reads of a point: its presented value and quality (R25). -/
structure Reading where
  value : Int
  quality : Quality
deriving DecidableEq, Repr

/-! ### Budget Unit (spec/03_recovered_heat_and_electric_demand.md) -/

/-- Loaded recovery settings (R50). -/
structure Recovery where
  supply : PointIx
  ret : PointIx
  flow : PointIx
  fluid : Nat
  shift : Nat
deriving DecidableEq, Repr

/-- Consumer kinds (chapter 3.2). -/
inductive ConsumerKind where
  | subsoil
  | regen
  | spectator
  | preheat
  | general
deriving DecidableEq, Repr

/-- How the part handles a consumer's valve (chapter 3.2). -/
inductive Handling where
  | drive
  | govern
deriving DecidableEq, Repr

/-- State of a consumer, sheet, zone or group record (chapter 11.4); a sheet's UNLOADED is `unused`. -/
inductive RecordState where
  | unused
  | disabled
  | enabled
deriving DecidableEq, Repr

/-- Fog states (chapter 4.4). -/
inductive FogState where
  | clear
  | watch
  | fog
  | recover
deriving DecidableEq, Repr

/-- Definition fields of a consumer (chapter 3.2). -/
structure ConsumerDef where
  kind : ConsumerKind
  sheet : Option Sheet
  cls : Nat
  weight : Nat
  floor : Nat
  cap : Nat
  design : Nat
  addr : Option ActAddr
  handling : Option Handling
  settlePoint : Option PointIx
  tempPoint : PointIx
  setpoint : Int
  band : Nat
  demandClear : Nat
  demandWatch : Nat
  demandFog : Nat
  demandRecover : Nat
  fan : Nat
deriving DecidableEq, Repr

/-- A consumer record (chapter 3.2). -/
structure Consumer where
  defn : ConsumerDef
  state : RecordState
  demand : Nat
  effCap : Nat
  effDemand : Nat
  effClass : Nat
  grant : Nat
  allowed : Nat
  lastSent : Option Nat
  requested : Nat
  lastForwarded : Nat
  takingPart : Bool
deriving DecidableEq, Repr

/-- What an allocation captures of one ENABLED consumer (R66): its definition, the reading of its temperature point,
and its requested position. -/
structure ConsumerCapture where
  defn : ConsumerDef
  temp : Reading
  requested : Nat
deriving DecidableEq, Repr

/-- The inputs captured at an allocation start (R66). -/
structure Capture where
  settings : Option Recovery
  supply : Reading
  ret : Reading
  flow : Reading
  reserve : Nat
  capScale : Nat
  consumers : Vector (Option ConsumerCapture) 8
  fog1 : FogState
  fog2 : FogState
  zoneDemand : Nat
deriving DecidableEq, Repr

/-- The state of the Budget Unit (the table at the head of spec/03). The allocation state is IDLE while
`allocation` is `none`, and ALLOCATING while it holds a capture. -/
structure BudgetUnit where
  settings : Option Recovery
  rawHeat : Nat
  smoothed : Nat
  reserveUsed : Nat
  usable : Nat
  inputLost : Bool
  degraded : Bool
  consumers : Vector Consumer 8
  allocation : Option Capture
  pendingFlag : Bool
  periodTimer : Option Nat
  load : Nat
  fanPower : Nat
  allowance : Nat
  overDemand : Bool
deriving DecidableEq, Repr

/-! ### Fog Monitor (spec/04_fog_monitor.md) -/

/-- Definition fields of a sheet record (chapter 4.2). -/
structure SheetDef where
  ice : PointIx
  near : PointIx
  air : PointIx
  humidity : PointIx
  haze : Option PointIx
  k : Nat
  watchMargin : Int
  fogMargin : Int
  hysteresis : Nat
  hazeLimit : Nat
  hazeClear : Nat
  recoverTime : Nat
  fogPeriod : Nat
deriving DecidableEq, Repr

/-- A sheet record (chapter 4.2). -/
structure SheetRec where
  defn : SheetDef
  state : RecordState
  fog : FogState
  dewPoint : Int
  mixing : Int
  margin : Int
  hazeValue : Nat
  inputLost : Bool
  degraded : Bool
  airLimit : Bool
  dewLow : Bool
  dewHigh : Bool
  hazeValid : Bool
  fogTimer : Option Nat
  recoverTimer : Option Nat
deriving DecidableEq, Repr

/-- The zone fog cap table: the three caps of each fog state (R95). -/
structure CapTable where
  clear : Caps
  watch : Caps
  fog : Caps
  recover : Caps
deriving DecidableEq, Repr

/-- The state of the Fog Monitor (the table at the head of spec/04). Entry k of `dew` is E[k − 20]. -/
structure FogMonitor where
  dew : Vector Nat 64
  loaded : Vector Bool 4
  sheet1 : SheetRec
  sheet2 : SheetRec
  caps : CapTable
deriving DecidableEq, Repr

/-! ### Zone Controller (spec/05_spectator_heating_zones.md) -/

/-- Rings (chapter 5.1). -/
inductive Ring where
  | iceEdge
  | mid
  | upper
deriving DecidableEq, Repr

/-- Definition fields of a zone (chapter 5.1). -/
structure ZoneDef where
  sheet : Option Sheet
  ring : Ring
  valve : ActAddr
  design : Nat
  boost : Option ActAddr
  stageCount : Nat
  stagePower : Nat
deriving DecidableEq, Repr

/-- A zone record (chapter 5.1). -/
structure Zone where
  defn : ZoneDef
  state : RecordState
  reqPosition : Nat
  fogCap : Nat
  capped : Nat
  demand : Nat
  share : Nat
  allowed : Nat
  lastForwarded : Nat
  reqStages : Nat
  allowedStages : Nat
  lastStages : Nat
deriving DecidableEq, Repr

/-- The state of the Zone Controller (the table at the head of spec/05). The aggregate D_z is derived
(`zoneAggregate`): it "stands at every moment at the sum" of the zone demands (R108). -/
structure ZoneController where
  zones : Vector Zone 24
  capSet1 : Caps
  capSet2 : Caps
  grant : Option Nat
  taken : Nat
  left : Nat
deriving DecidableEq, Repr

/-! ### Scene Unit (spec/06_scene_buffers.md and spec/07_show_steps_and_group_output.md) -/

/-- An entry of a scene (R118). -/
structure SceneEntry where
  group : GroupIx
  level : Nat
  fade : Nat
deriving DecidableEq, Repr

/-- A scene: 0 to 8 entries in written order, and the FLASH attribute (R118). -/
structure Scene where
  entries : List SceneEntry
  flash : Bool
deriving DecidableEq, Repr

/-- Buffer types (chapter 6.2). -/
inductive BufferType where
  | single
  | paired
deriving DecidableEq, Repr

/-- Commit modes (chapter 6.2). -/
inductive CommitMode where
  | streaming
  | immediate
deriving DecidableEq, Repr

/-- Buffer states (R120). -/
inductive BufferState where
  | disabled
  | disabledLocked
  | idle
  | locked
  | selected
  | transfer
deriving DecidableEq, Repr

/-- A buffer record (chapter 6.2). LOCKED is derived from the state. -/
structure Buffer where
  type : BufferType
  commitMode : CommitMode
  filterValue : Nat
  filterMask : Nat
  priority : Bool
  state : BufferState
  committed : Bool
  played : Bool
  generation : Nat
  lastPlayed : Option Nat
  slot : BufferIx
deriving DecidableEq, Repr

/-- A candidate of the search view (R136). -/
structure Candidate where
  buffer : BufferIx
  generation : Nat
  priority : Bool
  filterValue : Nat
  filterMask : Nat
  scene : Scene
deriving DecidableEq, Repr

/-- Definition fields of a group (chapter 7.2). -/
structure GroupDef where
  dimmer : ActAddr
  rated : Nat
  sheet : Option Sheet
  hazeSource : Bool
  near1 : Bool
  near2 : Bool
deriving DecidableEq, Repr

/-- A running or finished fade (chapter 7.2). -/
structure Fade where
  start : Nat
  target : Nat
  length : Nat
  elapsed : Nat
deriving DecidableEq, Repr

/-- The driver of a group (chapter 7.2). -/
structure Driver where
  buffer : BufferIx
  generation : Nat
  priority : Bool
deriving DecidableEq, Repr

/-- A group record (chapter 7.2). -/
structure Group where
  defn : GroupDef
  state : RecordState
  level : Nat
  fade : Option Fade
  driver : Option Driver
  hazeBlocked : Bool
  lastSent : Option Nat
deriving DecidableEq, Repr

/-- The winner of a group in a search (R148): the buffer, its class (0 or 1), and what was captured of it. -/
structure Winner where
  buffer : BufferIx
  cls : Nat
  generation : Nat
  priority : Bool
  level : Nat
  fade : Nat
deriving DecidableEq, Repr

/-- The search result for one group index (R148). -/
inductive SearchResult where
  /-- A hold with no candidate; also the value after reset, "none". -/
  | none
  /-- A hold with a class-2 candidate. -/
  | hold
  | winner (w : Winner)
deriving DecidableEq, Repr

/-- The state of the Scene Unit (the tables at the heads of spec/06 and spec/07). The transfer engine is IDLE while
`engine` is `none` and BUSY with the pair it holds otherwise; the search state is IDLE while `search` is `none` and
SEARCHING with the step it holds otherwise. -/
structure SceneUnit where
  store : Vector Scene 64
  buffers : Vector Buffer 64
  engine : Option PairIx
  view : List Candidate
  stepPeriod : Nat
  stepTimer : Option Nat
  stepCounter : Nat
  groups : Vector Group 32
  search : Option Nat
  results : Vector SearchResult 32
  loadReported : Nat
deriving DecidableEq, Repr

/-! ### Mode Unit (spec/08_arena_modes.md) -/

/-- Arena modes (R160). -/
inductive Mode where
  | event
  | practice
  | convert
  | setback
deriving DecidableEq, Repr

/-- Exit targets of SETBACK (R161). -/
inductive ExitTarget where
  | previous
  | practice
  | event
deriving DecidableEq, Repr

/-- A Mode Profile (R161). -/
structure Profile where
  eMax : Nat
  reserve : Nat
  period : Nat
  ceiling : Nat
  capScale : Nat
  exitTarget : ExitTarget
  wakePoints : List PointIx
deriving DecidableEq, Repr

/-- The state of the Mode Unit (the table at the head of spec/08). -/
structure ModeUnit where
  mode : Mode
  previous : Mode
  eventProfile : Profile
  practiceProfile : Profile
  convertProfile : Profile
  setbackProfile : Profile
  cover1 : Bool
  cover2 : Bool
deriving DecidableEq, Repr

/-! ### Management Responder (spec/09_management_requests.md) -/

/-- A request in the Request Stage: its source node, its code and handle, and its argument bytes (R174). -/
structure Request where
  source : Nat
  code : Byte
  handle : Byte
  args : List Byte
deriving DecidableEq, Repr

/-- State of a Request Stage slot (chapter 9.1). -/
inductive SlotState where
  | free
  | checked (r : Request)
  | replying
deriving DecidableEq, Repr

/-- Reply statuses (R177). -/
inductive Status where
  | done
  | busy
  | badFormat
  | unknown
  | rights
  | state
  | range
  | conflict
  | ignored
  | collide
  | lockError
  | pairError
deriving DecidableEq, Repr

/-- The state of the Management Responder (the table at the head of spec/09). `first` is the slot whose request
arrived first while both are CHECKED: R176 takes requests of one owner in the order of their arrival. -/
structure Responder where
  slot0 : SlotState
  slot1 : SlotState
  first : SlotIx
  frozen : Bool
  restartPending : Bool
deriving DecidableEq, Repr

/-! ### Notice Unit (spec/10_notices_and_status_frames.md) -/

/-- A notice record (chapter 10.1). -/
structure Notice where
  kind : NoticeKind
  subject : Nat
  value : Int
  stamp : Nat
deriving DecidableEq, Repr

/-- The state of the Notice Unit (the table at the head of spec/10). Bit n − 1 of `mask` enables notice kind code n.
The status frame pending flag is set while `status` holds the payload of a STATUS frame (R16). -/
structure NoticeUnit where
  queue : List Notice
  mask : BitVec 13
  overflow : Nat
  seconds : Nat
  causePower : Bool
  causeRestart : Bool
  status : Option (List Byte)
deriving DecidableEq, Repr

end Sys2Proof.Machine
end

