-- ==== Sys2Proof/Machine/PowerOn.lean ====
section
/-! DEFINITION. The power-on values of each block, as the reset tables of the chapters give them. -/

namespace Sys2Proof.Machine

/-- R178: every record but the controller's holds READ alone after power-on reset. -/
def readOnlyRights : Rights := ⟨true, false, false, false⟩

/-- R178: the controller strap node holds all four rights after power-on reset. -/
def allRights : Rights := ⟨true, true, true, true⟩

/-- R4, R178: a Node Table record after power-on reset. -/
def powerOnNode (rights : Rights) : NodeRec := ⟨false, 0, 0, 0, rights⟩

/-- R4, R178: the Node Table after power-on reset, for the controller strap read. -/
def powerOnNodes (controller : Strap) : Vector NodeRec 64 :=
  (Vector.replicate 64 (powerOnNode readOnlyRights)).set controller (powerOnNode allRights)

/-- R22: the straps let the part enter the ring. -/
def strapsValid (own controller : Strap) : Bool :=
  own.val ≤ Config.lastNode && controller.val ≤ Config.lastNode && own != controller

/-- R22, R23: the Line Interface after power-on reset with these straps. -/
def powerOnLine (own controller : Strap) : LineInterface where
  held := false
  relay := strapsValid own controller
  own := own.val
  controller := controller.val
  up := false
  silenceTimer := none
  wakeTimer := some Config.wakeMs
  downSince := 0
  wakePending := false
  nodes := powerOnNodes controller
  forward := []
  queue := []
  runCount := 0
  sending := none
  originSeq := 0
  statusTimer := some Config.statusMs
  lineErrors := 0
  overruns := 0
  drops := 0
  overrunArmed := true

/-- R24: the definition of an UNUSED point: every field zero, the substitute absent. -/
def unusedPointDef : PointDef :=
  ⟨0, 0, .temperature, 0, 0, 0, 0, 0, 0, 0, 0, none, 0⟩

/-- R24, R26: a point record with this definition, in this state, with the runtime fields WRITE_POINT gives. The spike
side of a cleared streak is ABOVE, code 0: DEDUCED (log entry 7). -/
def clearedPoint (d : PointDef) (state : PointState) : Point where
  defn := d
  state := state
  presented := 0
  ownValue := 0
  clamped := false
  spikeCount := 0
  spikeSide := .above
  recovery := 0
  lastAccepted := none
  accepted := 0
  rangeCount := 0
  spikes := 0
  faults := 0
  staleTimer := none
  settleTimer := none

/-- R24: the Point Map after power-on reset. -/
def powerOnPoints : Vector Point 256 :=
  Vector.replicate 256 (clearedPoint unusedPointDef .unused)

/-- R55: the definition of an UNUSED consumer: every field zero or absent. -/
def unusedConsumerDef : ConsumerDef where
  kind := .subsoil
  sheet := none
  cls := 0
  weight := 0
  floor := 0
  cap := 0
  design := 0
  addr := none
  handling := none
  settlePoint := none
  tempPoint := 0
  setpoint := 0
  band := 0
  demandClear := 0
  demandWatch := 0
  demandFog := 0
  demandRecover := 0
  fan := 0

/-- R56: a consumer record with this definition, in this state, with the runtime fields WRITE_CONSUMER gives. -/
def clearedConsumer (d : ConsumerDef) (state : RecordState) : Consumer where
  defn := d
  state := state
  demand := 0
  effCap := 0
  effDemand := 0
  effClass := d.cls
  grant := 0
  allowed := 0
  lastSent := none
  requested := 0
  lastForwarded := 0
  takingPart := false

/-- R64, R77: the Budget Unit after power-on reset; the period timer starts with the 10 s of the PRACTICE profile. -/
def powerOnBudget : BudgetUnit where
  settings := none
  rawHeat := 0
  smoothed := 0
  reserveUsed := 0
  usable := 0
  inputLost := false
  degraded := false
  consumers := Vector.replicate 8 (clearedConsumer unusedConsumerDef .unused)
  allocation := none
  pendingFlag := false
  periodTimer := some 10000
  load := 0
  fanPower := 0
  allowance := 0
  overDemand := false

/-- R80: the definition of an UNLOADED sheet. -/
def unloadedSheetDef : SheetDef := ⟨0, 0, 0, 0, none, 0, 0, 0, 0, 0, 0, 0, 0⟩

/-- R80, R81: a sheet record with this definition, in this state, with fog state CLEAR, every figure 0, every flag clear
and both timers stopped. -/
def clearedSheet (d : SheetDef) (state : RecordState) : SheetRec where
  defn := d
  state := state
  fog := .clear
  dewPoint := 0
  mixing := 0
  margin := 0
  hazeValue := 0
  inputLost := false
  degraded := false
  airLimit := false
  dewLow := false
  dewHigh := false
  hazeValid := false
  fogTimer := none
  recoverTimer := none

/-- R95, R106: three caps of 1000. -/
def fullCaps : Caps := ⟨1000, 1000, 1000⟩

/-- R78, R80, R95, R99: the Fog Monitor after power-on reset. -/
def powerOnFog : FogMonitor where
  dew := Vector.replicate 64 0
  loaded := Vector.replicate 4 false
  sheet1 := clearedSheet unloadedSheetDef .unused
  sheet2 := clearedSheet unloadedSheetDef .unused
  caps := ⟨fullCaps, fullCaps, fullCaps, fullCaps⟩

/-- R100: the definition of an UNUSED zone. -/
def unusedZoneDef : ZoneDef := ⟨none, .iceEdge, ⟨0, 0⟩, 0, none, 0, 0⟩

/-- R101: a zone record with this definition and fog cap, in this state, with every other runtime field 0. -/
def clearedZone (d : ZoneDef) (state : RecordState) (fogCap : Nat) : Zone where
  defn := d
  state := state
  reqPosition := 0
  fogCap := fogCap
  capped := 0
  demand := 0
  share := 0
  allowed := 0
  lastForwarded := 0
  reqStages := 0
  allowedStages := 0
  lastStages := 0

/-- R100, R106, R117: the Zone Controller after power-on reset. -/
def powerOnZones : ZoneController where
  zones := Vector.replicate 24 (clearedZone unusedZoneDef .unused 1000)
  capSet1 := fullCaps
  capSet2 := fullCaps
  grant := none
  taken := 0
  left := 0

/-- R118: an empty scene with FLASH clear. -/
def emptyScene : Scene := ⟨[], false⟩

/-- R119: a buffer after power-on reset, mapped to this slot. -/
def powerOnBuffer (slot : BufferIx) : Buffer where
  type := .single
  commitMode := .immediate
  filterValue := 0
  filterMask := 0
  priority := false
  state := .disabled
  committed := false
  played := false
  generation := 0
  lastPlayed := none
  slot := slot

/-- R143: the definition of an UNUSED group. -/
def unusedGroupDef : GroupDef := ⟨⟨0, 0⟩, 0, none, false, false, false⟩

/-- R144: a group record with this definition, in this state, at level 0, with no fade and no driver. -/
def clearedGroup (d : GroupDef) (state : RecordState) : Group where
  defn := d
  state := state
  level := 0
  fade := none
  driver := none
  hazeBlocked := false
  lastSent := none

/-- R118, R119, R139, R141, R143, R159: the Scene Unit after power-on reset. -/
def powerOnScene : SceneUnit where
  store := Vector.replicate 64 emptyScene
  buffers := Vector.ofFn powerOnBuffer
  engine := none
  view := []
  stepPeriod := Config.powerOnStepMs
  stepTimer := some Config.powerOnStepMs
  stepCounter := 0
  groups := Vector.replicate 32 (clearedGroup unusedGroupDef .unused)
  search := none
  results := Vector.replicate 32 .none
  loadReported := 0

/-- R161: the default Mode Profile. -/
def defaultProfile : Profile := ⟨0, 0, 10, 1000, 1000, .previous, []⟩

/-- R160, R161, R173: the Mode Unit after power-on reset. -/
def powerOnMode : ModeUnit where
  mode := .practice
  previous := .practice
  eventProfile := defaultProfile
  practiceProfile := defaultProfile
  convertProfile := defaultProfile
  setbackProfile := defaultProfile
  cover1 := false
  cover2 := false

/-- R174, R180, R183: the Management Responder after power-on reset. -/
def powerOnResponder : Responder := ⟨.free, .free, 0, false, false⟩

/-- R192: the Notice Unit after power-on reset: every kind enabled, POWER set, RESTART clear. -/
def powerOnNotices : NoticeUnit := ⟨[], BitVec.allOnes 13, 0, 0, true, false, none⟩

end Sys2Proof.Machine
end

