-- ==== Sys2Proof/Machine/State.lean ====
section
/-! DEFINITION. The state of the part, the reasons a step could stop, and the state after power-on reset.

Beside the nine blocks of the spec, State holds the time base, the list of what one block has handed another and the
other has not yet taken, and the queue of commands that wait. -/

namespace Sys2Proof.Machine

/-- The state of the part. -/
structure State where
  line : LineInterface
  points : Vector Point 256
  budget : BudgetUnit
  fog : FogMonitor
  zones : ZoneController
  scene : SceneUnit
  mode : ModeUnit
  responder : Responder
  notices : NoticeUnit
  /-- The millisecond time base, from power-on (spec/00_scope.md, "Time"). -/
  timeBase : Nat
  /-- Events one block has handed another and the other has not yet taken, oldest first: each is taken "as an event of
  its own" (R93, R106, R155, R165, R166, R176, R185), by the command it is written as. -/
  handed : List Instr
  /-- The commands that wait, first in, first out. -/
  pending : List Instr
deriving DecidableEq, Repr

/-- Reasons the machine could stop with a fault. The spec gives every command an effect in every state, so no meaning
of this model raises one. -/
inductive Fault where
  /-- A stuck state. Raised by no meaning; safe. -/
  | stuck
deriving DecidableEq, Repr

/-- Reasons a command could be refused. -/
inductive Refusal where
  /-- A command that has no meaning yet; raised by `exec` alone, for a row of the table not reached; safe. No row is
  left so. -/
  | notModelled (mnemonic : String)
deriving DecidableEq, Repr

/-- Every block at its power-on values, for the straps read, with this queue of waiting commands (R22, R49, R77, R99,
R117, R139, R159, R173, R192). -/
def powerOnState (own controller : Strap) (pending : List Instr) : State where
  line := powerOnLine own controller
  points := powerOnPoints
  budget := powerOnBudget
  fog := powerOnFog
  zones := powerOnZones
  scene := powerOnScene
  mode := powerOnMode
  responder := powerOnResponder
  notices := powerOnNotices
  timeBase := 0
  handed := []
  pending := pending

/-- The part right after power-on reset, with the straps of Config (DESIGN CHOICE, log entry 1). -/
def State.reset : State :=
  powerOnState Config.resetOwnStrap Config.resetControllerStrap []

end Sys2Proof.Machine
end

