-- ==== Sys2Proof/Machine/Bytes.lean ====
section
/-! DEFINITION. Byte order, sign, the check sum, and the tables' whole-table updates.

Multi-byte fields are sent most significant byte first; signed fields are two's complement
(spec/11_frame_and_record_formats.md). -/

namespace Sys2Proof.Machine

/-! ### Numbers to bytes -/

/-- The n low bytes of a number, most significant first. -/
def bytesOf : Nat → Nat → List Byte
  | 0, _ => []
  | n + 1, v => BitVec.ofNat 8 (v / 256 ^ n) :: bytesOf n v

/-- One byte. -/
def u8 (v : Nat) : List Byte := bytesOf 1 v

/-- Two bytes, unsigned. -/
def u16 (v : Nat) : List Byte := bytesOf 2 v

/-- Three bytes, unsigned. -/
def u24 (v : Nat) : List Byte := bytesOf 3 v

/-- Four bytes, unsigned. -/
def u32 (v : Nat) : List Byte := bytesOf 4 v

/-- A signed number as n bytes of two's complement. -/
def signedBytes (n : Nat) (v : Int) : List Byte :=
  bytesOf n (v % (256 ^ n : Nat)).toNat

/-- Two bytes, signed. -/
def s16 (v : Int) : List Byte := signedBytes 2 v

/-- Three bytes, signed. -/
def s24 (v : Int) : List Byte := signedBytes 3 v

/-- Four bytes, signed. -/
def s32 (v : Int) : List Byte := signedBytes 4 v

/-- A flag as a bit of weight 2 ^ k. -/
def bit (k : Nat) (b : Bool) : Nat := if b then 2 ^ k else 0

/-- An absent value reads all ones (chapter 11.5, R195). -/
def absentOr (n : Nat) (v : Option Nat) : List Byte :=
  match v with
  | some x => bytesOf n x
  | none => bytesOf n (256 ^ n - 1)

/-! ### Bytes to numbers -/

/-- The byte at an offset, as a number; 0 beyond the end (no layout reads there). -/
def byteAt (bs : List Byte) (k : Nat) : Nat := (bs.getD k 0).toNat

/-- A two-byte field. -/
def wordAt (bs : List Byte) (k : Nat) : Nat := byteAt bs k * 256 + byteAt bs (k + 1)

/-- The signed reading of an n-byte number. -/
def signedOf (n v : Nat) : Int :=
  if v < 256 ^ n / 2 then (v : Int) else (v : Int) - (256 ^ n : Nat)

/-- A signed two-byte field. -/
def swordAt (bs : List Byte) (k : Nat) : Int := signedOf 2 (wordAt bs k)

/-- A signed three-byte field. -/
def s24At (bs : List Byte) (k : Nat) : Int :=
  signedOf 3 (byteAt bs k * 65536 + wordAt bs (k + 1))

/-- A point index field: every byte names a record (chapter 2.2). -/
def pointIxAt (bs : List Byte) (k : Nat) : PointIx := (bs.getD k 0).toFin

/-! ### The check sum (chapter 11.1) -/

/-- One bit of the CRC: the register is shifted left, and the generator 1021h is applied where the bit shifted out
differs from the bit taken. -/
def crcBit (crc : BitVec 16) (b : Bool) : BitVec 16 :=
  if crc.getLsbD 15 != b then (crc <<< 1) ^^^ 0x1021#16 else crc <<< 1

/-- One byte of the CRC, most significant bit first. -/
def crcByte (crc : BitVec 16) (b : Byte) : BitVec 16 :=
  [7, 6, 5, 4, 3, 2, 1, 0].foldl (fun c k => crcBit c (b.getLsbD k)) crc

/-- The CRC over header and payload, from FFFFh, sent without inversion. -/
def crc16 (bs : List Byte) : BitVec 16 := bs.foldl crcByte 0xFFFF#16

/-- Header and payload followed by their check sum. -/
def withCrc (bs : List Byte) : List Byte := bs ++ u16 (crc16 bs).toNat

/-! ### Whole-table updates -/

/-- Each element replaced by a function of its index and itself. -/
def mapFrom {α : Type} (f : Nat → α → α) : Nat → List α → List α
  | _, [] => []
  | k, a :: as => f k a :: mapFrom f (k + 1) as

theorem length_mapFrom {α : Type} (f : Nat → α → α) (k : Nat) (as : List α) :
    (mapFrom f k as).length = as.length := by
  induction as generalizing k with
  | nil => rfl
  | cons a as ih => simp [mapFrom, ih]

/-- Every record of a table replaced by a function of its index and itself. -/
def mapTable {α : Type} {n : Nat} (f : Nat → α → α) (v : Vector α n) : Vector α n :=
  ⟨⟨mapFrom f 0 v.toList⟩, by simp [length_mapFrom]⟩

/-- The indices, ascending, of the records that satisfy a test. -/
def indicesFrom {α : Type} (p : α → Bool) : Nat → List α → List Nat
  | _, [] => []
  | k, a :: as => if p a then k :: indicesFrom p (k + 1) as else indicesFrom p (k + 1) as

/-- The indices, ascending, of the records of a table that satisfy a test. -/
def indicesWhere {α : Type} {n : Nat} (p : α → Bool) (v : Vector α n) : List Nat :=
  indicesFrom p 0 v.toList

/-- The lowest index whose record satisfies a test. -/
def findIx {α : Type} {n : Nat} (p : α → Bool) (v : Vector α n) : Option (Fin n) :=
  match indicesWhere p v with
  | k :: _ => if h : k < n then some ⟨k, h⟩ else none
  | [] => none

/-- An index byte as an index of a table of n records; none when it is too large (R194). -/
def indexOf (n k : Nat) : Option (Fin n) :=
  if h : k < n then some ⟨k, h⟩ else none

end Sys2Proof.Machine
end

