-- ==== Sys2Proof/Machine/Flags.lean ====
section
/-! DEFINITION. Rounding, saturation and division of a shortage, and the flags computed from them: the arithmetic
that several rules share (spec/00_scope.md, "Rounding"). -/

namespace Sys2Proof.Machine

/-! ### Saturating counts -/

/-- A count 0 to 65535 increased by n, staying at 65535 once there. -/
def countUp (n c : Nat) : Nat := min (c + n) 65535

/-! ### Rounding -/

/-- Rounded to nearest, ties away from zero; the divisor is positive. -/
def divNearest (n : Int) (d : Nat) : Int :=
  if 0 ≤ n then ((2 * n.natAbs + d) / (2 * d) : Nat) else -((2 * n.natAbs + d) / (2 * d) : Nat)

/-- Rounded toward zero. -/
def divZero (n : Int) (d : Nat) : Int := Int.tdiv n d

/-- Rounded toward negative infinity. -/
def divFloor (n : Int) (d : Nat) : Int := Int.fdiv n d

/-- Saturated to lo … hi: replaced by the nearer limit when outside. -/
def saturate (lo hi v : Int) : Int := if v < lo then lo else if hi < v then hi else v

/-! ### Points (R33, R34) -/

/-- R33: the engineering value before saturation. -/
def engineering (d : PointDef) (raw : Nat) : Int := divNearest ((raw : Int) * d.gain) 1024 + d.offset

/-- R33: the candidate value. -/
def candidateValue (d : PointDef) (raw : Nat) : Int := saturate d.lo d.hi (engineering d raw)

/-- R33: CLAMPED is set when saturation changed the value. -/
def clampedFlag (d : PointDef) (raw : Nat) : Bool := candidateValue d raw != engineering d raw

/-- R32: the greatest raw value of a width. -/
def rawLimit (width : Nat) : Nat := 2 ^ width - 1

/-- R34: the distance of a candidate from the presented value. -/
def spikeDistance (candidate presented : Int) : Nat := (candidate - presented).natAbs

/-- R34: the side of a spike. -/
def spikeSideOf (candidate presented : Int) : Side := if presented < candidate then .above else .below

/-- R34: the streak count with this spike. -/
def spikeStreak (p : Point) (side : Side) : Nat :=
  if 0 < p.spikeCount ∧ p.spikeSide = side then p.spikeCount + 1 else 1

/-! ### Sharing a shortage (R68, R69, R109) -/

/-- Units left over given in order: each record takes the lesser of its room and the units still left. -/
def spread : Nat → List (Nat × Nat) → List Nat
  | _, [] => []
  | left, (given, room) :: rest => (given + min room left) :: spread (left - min room left) rest

/-- R68 (one class) and R109: every part in full when the remainder holds the sum; otherwise in proportion to the
parts, rounded down, and the units left over one each to the parts above 0, in ascending index. The second component
is the remainder afterwards. -/
def shareByPart (remainder : Nat) (parts : List Nat) : List Nat × Nat :=
  if parts.sum ≤ remainder then (parts, remainder - parts.sum)
  else
    let base := parts.map fun p => remainder * p / parts.sum
    (spread (remainder - base.sum) (base.zip (parts.map fun p => if 0 < p then 1 else 0)), 0)

/-- R69: the sum of the weights of the consumers whose need is above 0. -/
def weightSum (needs weights : List Nat) : Nat :=
  (List.zipWith (fun n w => if 0 < n then w else 0) needs weights).sum

/-- R69 (one class): every need in full when the remainder holds the sum; otherwise by weight, rounded down and
limited to the need, and the units left over to the unmet needs in ascending index. -/
def shareByWeight (remainder : Nat) (needs weights : List Nat) : List Nat × Nat :=
  if needs.sum ≤ remainder then (needs, remainder - needs.sum)
  else
    let w := weightSum needs weights
    let base := List.zipWith (fun n x => if 0 < n then min n (remainder * x / w) else 0) needs weights
    (spread (remainder - base.sum) (base.zip (List.zipWith (· - ·) needs base)), 0)

/-- The values of one class, 0 elsewhere. -/
def ofClass (k : Nat) (classes values : List Nat) : List Nat :=
  List.zipWith (fun c v => if c = k then v else 0) classes values

/-- The effective classes in the order they are served (R68). -/
def classOrder : List Nat := [0, 1, 2, 3]

/-- R68: the floor pass over the classes 0 to 3. -/
def floorPass (usable : Nat) (classes floorParts : List Nat) : List Nat × Nat :=
  classOrder.foldl (fun acc k =>
    let r := shareByPart acc.2 (ofClass k classes floorParts)
    (List.zipWith (· + ·) acc.1 r.1, r.2)) (floorParts.map fun _ => 0, usable)

/-- R69: the need pass over the classes 0 to 3. -/
def needPass (remainder : Nat) (classes needs weights : List Nat) : List Nat × Nat :=
  classOrder.foldl (fun acc k =>
    let r := shareByWeight acc.2 (ofClass k classes needs) weights
    (List.zipWith (· + ·) acc.1 r.1, r.2)) (needs.map fun _ => 0, remainder)

/-- R68 to R70: the grants of an allocation. -/
def divideHeat (usable : Nat) (classes weights floorParts effDemands : List Nat) : List Nat :=
  let f := floorPass usable classes floorParts
  let n := needPass f.2 classes (List.zipWith (· - ·) effDemands floorParts) weights
  List.zipWith (· + ·) f.1 n.1

/-! ### Recovered heat (R52, R53) -/

/-- R52: the recovered heat Q, 0.1 kW, from flow, fluid constant and temperature drop. -/
def recoveredHeat (flow : Int) (fluid : Nat) (supply ret : Int) : Nat :=
  let drop := supply - ret
  if drop ≤ 0 ∨ flow ≤ 0 then 0
  else min ((flow * fluid * drop).toNat / 1000000) 999999

/-- R53: one smoothing step. -/
def smoothStep (shift : Nat) (q qf : Nat) : Int :=
  let d : Int := (q : Int) - (qf : Int)
  let step := divFloor d (2 ^ shift)
  if d ≠ 0 ∧ step = 0 then (if 0 < d then 1 else -1) else step

/-- R53: the smoothed heat after one step. -/
def smoothHeat (shift : Nat) (q qf : Nat) : Nat := ((qf : Int) + smoothStep shift q qf).toNat

/-! ### Positions and caps (R71, R107, R108, R112) -/

/-- R71: the position of a grant under a design capacity. -/
def positionOf (grant design : Nat) : Nat := min (grant * 10000 / design) 10000

/-- R107: ten times the fog cap. -/
def capLimit (fogCap : Nat) : Nat := 10000 * fogCap / 1000

/-- R112: the stage limit. -/
def stageLimit (count fogCap : Nat) : Nat := count * fogCap / 1000

/-- R113: the greatest number of stages within the permitted ones that the allowance left can carry. -/
def stagesWithin (permitted power left : Nat) : Nat := if power = 0 then 0 else min permitted (left / power)

/-! ### Dew point (R87 to R89) -/

/-- R87: AIR_LIMIT is set when saturation to −2000 … 4300 changes the bowl air temperature. -/
def airLimitFlag (air : Int) : Bool := saturate (-2000) 4300 air != air

/-- Entry E[k − 20] of the Dew Table; k is 0 to 63. -/
def dewEntry (dew : Vector Nat 64) (k : Nat) : Nat := dew.toList.getD k 0

/-- R87: the saturation vapour pressure of the bowl air. -/
def saturationPressure (dew : Vector Nat 64) (air : Int) : Nat :=
  let t := saturate (-2000) 4300 air
  if t = 4300 then dewEntry dew 63
  else
    let i := divFloor t 100
    let f := (t - 100 * i).toNat
    let k := (i + 20).toNat
    dewEntry dew k + (dewEntry dew (k + 1) - dewEntry dew k) * f / 100

/-- R88: the vapour pressure of the bowl air. -/
def vapourPressure (dew : Vector Nat 64) (air humidity : Int) : Nat :=
  saturationPressure dew air * humidity.toNat / 10000

/-- R88: the table position, 0 to 62, of the greatest degree whose entry is at or below e. -/
def dewIndex (dew : Vector Nat 64) (e : Nat) : Nat :=
  (List.range 63).foldl (fun best k => if dewEntry dew k ≤ e then k else best) 0

/-- R88: DEW_LOW. -/
def dewLowFlag (dew : Vector Nat 64) (e : Nat) : Bool := e < dewEntry dew 0

/-- R88: DEW_HIGH. -/
def dewHighFlag (dew : Vector Nat 64) (e : Nat) : Bool := !dewLowFlag dew e && dewEntry dew 63 ≤ e

/-- R88: the dew point. -/
def dewPointOf (dew : Vector Nat 64) (e : Nat) : Int :=
  if dewLowFlag dew e then -2000
  else if dewHighFlag dew e then 4300
  else
    let j := dewIndex dew e
    100 * ((j : Int) - 20)
      + (100 * (e - dewEntry dew j) / (dewEntry dew (j + 1) - dewEntry dew j) : Nat)

/-- R89: the mixing temperature. -/
def mixingOf (k : Nat) (ice near : Int) : Int := ice + divZero ((near - ice) * k) 256

/-! ### Fades and load (R151, R158) -/

/-- R151: the level of a fade before the ceiling. -/
def fadeLevel (f : Fade) : Nat :=
  ((f.start : Int) + divZero (((f.target : Int) - f.start) * f.elapsed) f.length).toNat

/-- R158: the load of one group. -/
def groupLoad (g : Group) : Nat :=
  if g.state = .enabled then g.defn.rated * g.level / 1000 else 0

end Sys2Proof.Machine
end

