-- ==== Sys2Proof/Machine/Codes.lean ====
section
/-! DEFINITION. The codes of the enumerations (chapter 11.4), and the readings of the codes a request may carry. -/

namespace Sys2Proof.Machine

/-- Code of a PointClass (chapter 11.4). -/
def pointClassCode : PointClass → Nat
  | .temperature => 0
  | .humidity => 1
  | .flow => 2
  | .haze => 3
  | .power => 4
  | .count => 5
  | .position => 6

/-- The PointClass a code names, if any (chapter 11.4). -/
def pointClassOf (code : Nat) : Option PointClass :=
  match code with
  | 0 => some .temperature
  | 1 => some .humidity
  | 2 => some .flow
  | 3 => some .haze
  | 4 => some .power
  | 5 => some .count
  | 6 => some .position
  | _ => none

/-- Code of a PointState (chapter 11.4). -/
def pointStateCode : PointState → Nat
  | .unused => 0
  | .disabled => 1
  | .never => 2
  | .fresh => 3
  | .settling => 4
  | .staleHeld => 5
  | .staleSub => 6

/-- Code of a Quality (chapter 11.4). -/
def qualityCode : Quality → Nat
  | .none => 0
  | .good => 1
  | .held => 2
  | .substituted => 3

/-- Code of a Side (chapter 11.4). -/
def sideCode : Side → Nat
  | .above => 0
  | .below => 1

/-- Code of a ConsumerKind (chapter 11.4). -/
def consumerKindCode : ConsumerKind → Nat
  | .subsoil => 0
  | .regen => 1
  | .spectator => 2
  | .preheat => 3
  | .general => 4

/-- The ConsumerKind a code names, if any (chapter 11.4). -/
def consumerKindOf (code : Nat) : Option ConsumerKind :=
  match code with
  | 0 => some .subsoil
  | 1 => some .regen
  | 2 => some .spectator
  | 3 => some .preheat
  | 4 => some .general
  | _ => none

/-- Code of a RecordState (chapter 11.4). -/
def recordStateCode : RecordState → Nat
  | .unused => 0
  | .disabled => 1
  | .enabled => 2

/-- Code of a Ring (chapter 11.4). -/
def ringCode : Ring → Nat
  | .iceEdge => 0
  | .mid => 1
  | .upper => 2

/-- The Ring a code names, if any (chapter 11.4). -/
def ringOf (code : Nat) : Option Ring :=
  match code with
  | 0 => some .iceEdge
  | 1 => some .mid
  | 2 => some .upper
  | _ => none

/-- Code of a FogState (chapter 11.4). -/
def fogCode : FogState → Nat
  | .clear => 0
  | .watch => 1
  | .fog => 2
  | .recover => 3

/-- Code of a Mode (chapter 11.4). -/
def modeCode : Mode → Nat
  | .event => 0
  | .practice => 1
  | .convert => 2
  | .setback => 3

/-- The Mode a code names, if any (chapter 11.4). -/
def modeOf (code : Nat) : Option Mode :=
  match code with
  | 0 => some .event
  | 1 => some .practice
  | 2 => some .convert
  | 3 => some .setback
  | _ => none

/-- Code of a ExitTarget (chapter 11.4). -/
def exitTargetCode : ExitTarget → Nat
  | .previous => 0
  | .practice => 1
  | .event => 2

/-- The ExitTarget a code names, if any (chapter 11.4). -/
def exitTargetOf (code : Nat) : Option ExitTarget :=
  match code with
  | 0 => some .previous
  | 1 => some .practice
  | 2 => some .event
  | _ => none

/-- Code of a BufferType (chapter 11.4). -/
def bufferTypeCode : BufferType → Nat
  | .single => 0
  | .paired => 1

/-- The BufferType a code names, if any (chapter 11.4). -/
def bufferTypeOf (code : Nat) : Option BufferType :=
  match code with
  | 0 => some .single
  | 1 => some .paired
  | _ => none

/-- Code of a CommitMode (chapter 11.4). -/
def commitModeCode : CommitMode → Nat
  | .streaming => 0
  | .immediate => 1

/-- The CommitMode a code names, if any (chapter 11.4). -/
def commitModeOf (code : Nat) : Option CommitMode :=
  match code with
  | 0 => some .streaming
  | 1 => some .immediate
  | _ => none

/-- Code of a BufferState (chapter 11.4). -/
def bufferStateCode : BufferState → Nat
  | .disabled => 0
  | .disabledLocked => 1
  | .idle => 2
  | .locked => 3
  | .selected => 4
  | .transfer => 5

/-- Code of a NoticeKind (chapter 11.4). -/
def noticeCode : NoticeKind → Nat
  | .lineDown => 1
  | .lineUp => 2
  | .pointStale => 3
  | .substituteOn => 4
  | .pointRecovered => 5
  | .heatInputLost => 6
  | .overDemandOn => 7
  | .overDemandOff => 8
  | .fogState => 9
  | .mode => 10
  | .transferred => 11
  | .searchLate => 12
  | .forwardOverrun => 13

/-- Code of a sheet field: none 0, sheet 1 1, sheet 2 2 (chapter 11.4). -/
def sheetCode : Option Sheet → Nat
  | none => 0
  | some .one => 1
  | some .two => 2

/-- The sheet a sheet number names, 1 or 2 (chapter 11.4). -/
def sheetOf (code : Nat) : Option Sheet :=
  match code with
  | 1 => some .one
  | 2 => some .two
  | _ => none

/-- A sheet field that may be none (chapter 11.4): the outer option is absent for an unknown code. -/
def sheetFieldOf (code : Nat) : Option (Option Sheet) :=
  match code with
  | 0 => some none
  | 1 => some (some .one)
  | 2 => some (some .two)
  | _ => none

/-- Rights as bits: READ 0, PLANT 1, LIGHTING 2, ADMIN 3 (chapter 11.3). -/
def rightsCode (r : Rights) : Nat :=
  (if r.read then 1 else 0) + (if r.plant then 2 else 0) + (if r.lighting then 4 else 0) + (if r.admin then 8 else 0)

/-- Rights of a rights byte; bits above bit 3 are not read (R194). -/
def rightsOf (b : Byte) : Rights := ⟨b.getLsbD 0, b.getLsbD 1, b.getLsbD 2, b.getLsbD 3⟩

/-- Frame kind codes (chapter 11.1). -/
def kindSample : Nat := 1

/-- COMMAND. -/
def kindCommand : Nat := 2

/-- MANAGE. -/
def kindManage : Nat := 3

/-- REPLY. -/
def kindReply : Nat := 4

/-- NOTICE. -/
def kindNotice : Nat := 5

/-- STATUS. -/
def kindStatus : Nat := 6

/-- WAKE. -/
def kindWake : Nat := 7

/-- R1: one of the seven kinds. -/
def knownKind (k : Nat) : Bool := 1 ≤ k && k ≤ 7

end Sys2Proof.Machine
end

