-- ==== Sys2Proof/Machine/Requests.lean ====
section
/-! DEFINITION. The management requests: codes, rights, owners and argument lengths (chapter 9.4, R194), the format of a
request, and the bytes of a reply's status. -/

namespace Sys2Proof.Machine

/-- The forty-four requests of the part (chapter 9.4). -/
inductive Req where
  | writePoint
  | enablePoint
  | disablePoint
  | clearSubstitute
  | readPoint
  | writeRecovery
  | writeConsumer
  | enableConsumer
  | disableConsumer
  | readBudget
  | loadDewTable
  | writeSheet
  | enableFog
  | disableFog
  | writeFogCaps
  | readSheet
  | writeZone
  | enableZone
  | disableZone
  | readZone
  | configureBuffer
  | lockBuffer
  | unlockBuffer
  | writeScene
  | commit
  | enableBuffer
  | disableBuffer
  | readBuffer
  | setStepPeriod
  | writeGroup
  | enableGroup
  | disableGroup
  | readGroup
  | writeProfile
  | setMode
  | coverSheet
  | uncoverSheet
  | readProfile
  | readStatus
  | readNode
  | writeRights
  | freezeRights
  | restart
  | writeNoticeMask
deriving DecidableEq, Repr

/-- The blocks that own requests (chapter 9.4). -/
inductive Owner where
  | points
  | budget
  | fog
  | zones
  | scene
  | mode
  | responder
  | notices
deriving DecidableEq, Repr

/-- The request a code names, if any (R194, the table of codes). -/
def reqOfCode (code : Byte) : Option Req :=
  match code.toNat with
  | 0x01 => some .writePoint
  | 0x02 => some .enablePoint
  | 0x03 => some .disablePoint
  | 0x05 => some .clearSubstitute
  | 0x04 => some .readPoint
  | 0x10 => some .writeRecovery
  | 0x11 => some .writeConsumer
  | 0x12 => some .enableConsumer
  | 0x13 => some .disableConsumer
  | 0x14 => some .readBudget
  | 0x20 => some .loadDewTable
  | 0x21 => some .writeSheet
  | 0x22 => some .enableFog
  | 0x23 => some .disableFog
  | 0x24 => some .writeFogCaps
  | 0x25 => some .readSheet
  | 0x30 => some .writeZone
  | 0x31 => some .enableZone
  | 0x32 => some .disableZone
  | 0x33 => some .readZone
  | 0x40 => some .configureBuffer
  | 0x41 => some .lockBuffer
  | 0x42 => some .unlockBuffer
  | 0x43 => some .writeScene
  | 0x44 => some .commit
  | 0x45 => some .enableBuffer
  | 0x46 => some .disableBuffer
  | 0x47 => some .readBuffer
  | 0x48 => some .setStepPeriod
  | 0x49 => some .writeGroup
  | 0x4A => some .enableGroup
  | 0x4B => some .disableGroup
  | 0x4C => some .readGroup
  | 0x50 => some .writeProfile
  | 0x51 => some .setMode
  | 0x52 => some .coverSheet
  | 0x53 => some .uncoverSheet
  | 0x54 => some .readProfile
  | 0x60 => some .readStatus
  | 0x61 => some .readNode
  | 0x62 => some .writeRights
  | 0x63 => some .freezeRights
  | 0x64 => some .restart
  | 0x68 => some .writeNoticeMask
  | _ => none

/-- The code of a request (R194). -/
def codeOf : Req → Byte
  | .writePoint => 0x01#8
  | .enablePoint => 0x02#8
  | .disablePoint => 0x03#8
  | .clearSubstitute => 0x05#8
  | .readPoint => 0x04#8
  | .writeRecovery => 0x10#8
  | .writeConsumer => 0x11#8
  | .enableConsumer => 0x12#8
  | .disableConsumer => 0x13#8
  | .readBudget => 0x14#8
  | .loadDewTable => 0x20#8
  | .writeSheet => 0x21#8
  | .enableFog => 0x22#8
  | .disableFog => 0x23#8
  | .writeFogCaps => 0x24#8
  | .readSheet => 0x25#8
  | .writeZone => 0x30#8
  | .enableZone => 0x31#8
  | .disableZone => 0x32#8
  | .readZone => 0x33#8
  | .configureBuffer => 0x40#8
  | .lockBuffer => 0x41#8
  | .unlockBuffer => 0x42#8
  | .writeScene => 0x43#8
  | .commit => 0x44#8
  | .enableBuffer => 0x45#8
  | .disableBuffer => 0x46#8
  | .readBuffer => 0x47#8
  | .setStepPeriod => 0x48#8
  | .writeGroup => 0x49#8
  | .enableGroup => 0x4A#8
  | .disableGroup => 0x4B#8
  | .readGroup => 0x4C#8
  | .writeProfile => 0x50#8
  | .setMode => 0x51#8
  | .coverSheet => 0x52#8
  | .uncoverSheet => 0x53#8
  | .readProfile => 0x54#8
  | .readStatus => 0x60#8
  | .readNode => 0x61#8
  | .writeRights => 0x62#8
  | .freezeRights => 0x63#8
  | .restart => 0x64#8
  | .writeNoticeMask => 0x68#8

/-- The right a request needs (chapter 9.4). -/
def rightOf : Req → Right
  | .writePoint => .plant
  | .enablePoint => .plant
  | .disablePoint => .plant
  | .clearSubstitute => .plant
  | .readPoint => .read
  | .writeRecovery => .plant
  | .writeConsumer => .plant
  | .enableConsumer => .plant
  | .disableConsumer => .plant
  | .readBudget => .read
  | .loadDewTable => .plant
  | .writeSheet => .plant
  | .enableFog => .plant
  | .disableFog => .plant
  | .writeFogCaps => .plant
  | .readSheet => .read
  | .writeZone => .plant
  | .enableZone => .plant
  | .disableZone => .plant
  | .readZone => .read
  | .configureBuffer => .lighting
  | .lockBuffer => .lighting
  | .unlockBuffer => .lighting
  | .writeScene => .lighting
  | .commit => .lighting
  | .enableBuffer => .lighting
  | .disableBuffer => .lighting
  | .readBuffer => .read
  | .setStepPeriod => .lighting
  | .writeGroup => .lighting
  | .enableGroup => .lighting
  | .disableGroup => .lighting
  | .readGroup => .read
  | .writeProfile => .plant
  | .setMode => .plant
  | .coverSheet => .plant
  | .uncoverSheet => .plant
  | .readProfile => .read
  | .readStatus => .read
  | .readNode => .read
  | .writeRights => .admin
  | .freezeRights => .admin
  | .restart => .admin
  | .writeNoticeMask => .admin

/-- The block that owns a request (chapter 9.4). -/
def ownerOfReq : Req → Owner
  | .writePoint => .points
  | .enablePoint => .points
  | .disablePoint => .points
  | .clearSubstitute => .points
  | .readPoint => .points
  | .writeRecovery => .budget
  | .writeConsumer => .budget
  | .enableConsumer => .budget
  | .disableConsumer => .budget
  | .readBudget => .budget
  | .loadDewTable => .fog
  | .writeSheet => .fog
  | .enableFog => .fog
  | .disableFog => .fog
  | .writeFogCaps => .fog
  | .readSheet => .fog
  | .writeZone => .zones
  | .enableZone => .zones
  | .disableZone => .zones
  | .readZone => .zones
  | .configureBuffer => .scene
  | .lockBuffer => .scene
  | .unlockBuffer => .scene
  | .writeScene => .scene
  | .commit => .scene
  | .enableBuffer => .scene
  | .disableBuffer => .scene
  | .readBuffer => .scene
  | .setStepPeriod => .scene
  | .writeGroup => .scene
  | .enableGroup => .scene
  | .disableGroup => .scene
  | .readGroup => .scene
  | .writeProfile => .mode
  | .setMode => .mode
  | .coverSheet => .mode
  | .uncoverSheet => .mode
  | .readProfile => .mode
  | .readStatus => .responder
  | .readNode => .responder
  | .writeRights => .responder
  | .freezeRights => .responder
  | .restart => .responder
  | .writeNoticeMask => .notices

/-- R175, R194: the argument bytes have a length the request's layout allows, and a count field inside them agrees. -/
def argsFit (r : Req) (args : List Byte) : Bool :=
  let len := args.length
  match r with
  | .writePoint => len = 25
  | .enablePoint => len = 1
  | .disablePoint => len = 1
  | .clearSubstitute => len = 1
  | .readPoint => len = 1
  | .writeRecovery => len = 6
  | .writeConsumer => len = 30
  | .enableConsumer => len = 1
  | .disableConsumer => len = 1
  | .readBudget => len ≤ 1
  | .loadDewTable => len = 34
  | .writeSheet => len = 22
  | .enableFog => len = 1
  | .disableFog => len = 1
  | .writeFogCaps => len = 24
  | .readSheet => len = 1
  | .writeZone => len = 13
  | .enableZone => len = 1
  | .disableZone => len = 1
  | .readZone => len ≤ 1
  | .configureBuffer => len = 6
  | .lockBuffer => len = 1
  | .unlockBuffer => len = 1
  | .writeScene => 1 ≤ byteAt args 2 && byteAt args 2 ≤ 8 && len = 3 + 4 * byteAt args 2
  | .commit => len = 1
  | .enableBuffer => len = 1
  | .disableBuffer => len = 1
  | .readBuffer => len = 1
  | .setStepPeriod => len = 2
  | .writeGroup => len = 7
  | .enableGroup => len = 1
  | .disableGroup => len = 1
  | .readGroup => len ≤ 1
  | .writeProfile => 12 ≤ len && byteAt args 11 ≤ 4 && len = 12 + byteAt args 11
  | .setMode => len = 1
  | .coverSheet => len = 1
  | .uncoverSheet => len = 1
  | .readProfile => len = 1
  | .readStatus => len = 1
  | .readNode => len = 1
  | .writeRights => len = 2
  | .freezeRights => len = 0
  | .restart => len = 0
  | .writeNoticeMask => len = 2

/-- The command by which the owner takes the request in a slot (R176). -/
def takeCommand (r : Req) (slot : SlotIx) : Instr :=
  match r with
  | .writePoint => .writePoint slot
  | .enablePoint => .enablePoint slot
  | .disablePoint => .disablePoint slot
  | .clearSubstitute => .clearSubstitute slot
  | .readPoint => .readPoint slot
  | .writeRecovery => .writeRecovery slot
  | .writeConsumer => .writeConsumer slot
  | .enableConsumer => .enableConsumer slot
  | .disableConsumer => .disableConsumer slot
  | .readBudget => .readBudget slot
  | .loadDewTable => .loadDewTable slot
  | .writeSheet => .writeSheet slot
  | .enableFog => .enableFog slot
  | .disableFog => .disableFog slot
  | .writeFogCaps => .writeFogCaps slot
  | .readSheet => .readSheet slot
  | .writeZone => .writeZone slot
  | .enableZone => .enableZone slot
  | .disableZone => .disableZone slot
  | .readZone => .readZone slot
  | .configureBuffer => .configureBuffer slot
  | .lockBuffer => .lockBuffer slot
  | .unlockBuffer => .unlockBuffer slot
  | .writeScene => .writeScene slot
  | .commit => .commit slot
  | .enableBuffer => .enableBuffer slot
  | .disableBuffer => .disableBuffer slot
  | .readBuffer => .readBuffer slot
  | .setStepPeriod => .setStepPeriod slot
  | .writeGroup => .writeGroup slot
  | .enableGroup => .enableGroup slot
  | .disableGroup => .disableGroup slot
  | .readGroup => .readGroup slot
  | .writeProfile => .writeProfile slot
  | .setMode => .setMode slot
  | .coverSheet => .coverSheet slot
  | .uncoverSheet => .uncoverSheet slot
  | .readProfile => .readProfile slot
  | .readStatus => .readStatus slot
  | .readNode => .readNode slot
  | .writeRights => .writeRights slot
  | .freezeRights => .freezeRights slot
  | .restart => .restart slot
  | .writeNoticeMask => .writeNoticeMask slot

/-- A rights field holds a right (R175: each right stands alone). -/
def holdsRight (rights : Rights) : Right → Bool
  | .read => rights.read
  | .plant => rights.plant
  | .lighting => rights.lighting
  | .admin => rights.admin

/-- Status codes (chapter 11.3). -/
def statusCode : Status → Nat
  | .done => 0
  | .busy => 1
  | .badFormat => 2
  | .unknown => 3
  | .rights => 4
  | .state => 5
  | .range => 6
  | .conflict => 7
  | .ignored => 8
  | .collide => 9
  | .lockError => 10
  | .pairError => 11

/-- The payload of a REPLY: code and handle echoed, status, results (chapter 11.3). -/
def replyPayload (code handle : Byte) (status : Status) (results : List Byte) : List Byte :=
  [code, handle] ++ u8 (statusCode status) ++ results

/-- What the Responder makes of a MANAGE payload at its arrival (R175). -/
inductive Verdict where
  /-- Refused by a check, with this status. -/
  | refuse (status : Status)
  /-- Passed: handed to the owner. -/
  | pass (r : Req)
deriving DecidableEq, Repr

/-- R175: format, code and rights, in this order. -/
def checkRequest (rights : Rights) (payload : List Byte) : Verdict :=
  match payload with
  | code :: _ :: args =>
    match reqOfCode code with
    | some r =>
      if !argsFit r args then .refuse .badFormat
      else if !holdsRight rights (rightOf r) then .refuse .rights
      else .pass r
    | none => .refuse .unknown
  | _ => .refuse .badFormat

end Sys2Proof.Machine
end

