-- ==== Sys2Proof/WellFormed.lean ====
section
/-! DEFINITION. Which operands of a command the spec allows.

A byte list is a well-formed operand of FRAME_ARRIVAL whatever it holds: R1 itself tests the frame. The straps, the
point indices, the sheets and the slots are held by types that admit their legal values alone. -/

namespace Sys2Proof

/-- Every cap is 0 to 1000 per mille (R95). -/
def Caps.wf (c : Caps) : Bool :=
  c.iceEdge ≤ 1000 && c.mid ≤ 1000 && c.upper ≤ 1000

/-- The commands whose operands lie in the ranges of the spec: a reported value in the union of the class ranges
(chapter 2.1), a lighting load up to 32 × 9999 (R158), caps up to 1000 (R95), and a notice with a one-byte subject and
a signed 32-bit value (chapter 10.1). -/
def Instr.wf : Instr → Bool
  | .valueReport _ value => -5000 ≤ value && value ≤ 65535
  | .lightingLoadUpdate load => load ≤ 319968
  | .capHanding _ caps => caps.wf
  | .noticeOffer _ subject value => subject ≤ 255 && -2147483648 ≤ value && value ≤ 2147483647
  | _ => true

end Sys2Proof
end

