-- ==== Sys2Proof/Machine/Operands.lean ====
section
/-! DEFINITION. The arguments of the write requests, field by field (chapter 11.5, R194). A reading is `none` where the
owner refuses the arguments with RANGE: a value outside the field's range, an unknown enumeration code, an undefined
flag bit, or a field the record does not use holding other than 0. -/

namespace Sys2Proof.Machine

/-- The class range (chapter 2.1). -/
def classRange : PointClass → Int × Int
  | .temperature => (-5000, 8000)
  | .humidity => (0, 10000)
  | .flow => (0, 20000)
  | .haze => (0, 65535)
  | .power => (0, 9999)
  | .count => (0, 65535)
  | .position => (0, 10000)

/-- An optional index guarded by a presence flag: an absent one holds 0 (R194; log entry 9). -/
def guardedIx (present : Bool) (ix : PointIx) : Option (Option PointIx) :=
  if present then some (some ix) else if ix = 0 then some none else none

/-- The guard of a reading. -/
def require (c : Bool) : Option Unit := if c then some () else none

/-- WRITE_POINT arguments: the definition, in range (R26, second check). -/
def pointArgs (own : Nat) (a : List Byte) : Option PointDef := do
  let cls ← pointClassOf (byteAt a 3)
  let sub ← guardedIx (byteAt a 21 = 1) (pointIxAt a 22)
  let d : PointDef :=
    { node := byteAt a 1, channel := byteAt a 2, cls := cls, rawWidth := byteAt a 4, gain := swordAt a 5,
      offset := s24At a 7, lo := s24At a 10, hi := s24At a 13, staleLimit := wordAt a 16, recoverCount := byteAt a 18,
      maxStep := wordAt a 19, substitute := sub, settleTime := wordAt a 23 }
  require (d.node ≤ 62 && d.node != own && d.channel ≤ 15)
  require (9 ≤ d.rawWidth && d.rawWidth ≤ 16)
  require (-65535 ≤ d.offset && d.offset ≤ 65535)
  require ((classRange cls).1 ≤ d.lo && d.hi ≤ (classRange cls).2 && d.lo ≤ d.hi)
  require (1 ≤ d.staleLimit && d.staleLimit ≤ 6000 && 1 ≤ d.recoverCount && d.recoverCount ≤ 8)
  require (byteAt a 21 ≤ 1 && d.settleTime ≤ 600)
  some d

/-- WRITE_RECOVERY arguments in range (R50), before the test of the points. -/
def recoveryArgs (a : List Byte) : Option Recovery := do
  let r : Recovery :=
    { supply := pointIxAt a 0, ret := pointIxAt a 1, flow := pointIxAt a 2, fluid := wordAt a 3, shift := byteAt a 5 }
  require (3000 ≤ r.fluid && r.fluid ≤ 4300 && r.shift ≤ 6)
  some r

/-- The handling a consumer kind requires (chapter 3.2). -/
def handlingOf : ConsumerKind → Option Handling
  | .subsoil | .regen => some .drive
  | .spectator => none
  | .preheat | .general => some .govern

/-- The kind has a sheet: SUBSOIL and REGEN (chapter 3.2). -/
def kindHasSheet : ConsumerKind → Bool
  | .subsoil | .regen => true
  | .spectator | .preheat | .general => false

/-- An actuator field in range: the node a node number, the channel 0 to 15. The node's own refusals are R17's.
DEDUCED for a byte of 64 or more (log entry 17). -/
def addrInRange (node channel : Nat) : Bool := node ≤ Config.broadcast && channel ≤ 15

/-- WRITE_CONSUMER arguments: the definition, every field in its range and present or absent as the kind requires
(R56, second check). -/
def consumerArgs (a : List Byte) : Option ConsumerDef := do
  let kind ← consumerKindOf (byteAt a 1)
  let sheet ← sheetFieldOf (byteAt a 2)
  let flags := byteAt a 11
  let present := flags % 2 = 1
  let govern := flags / 2 % 2 = 1
  let settle ← guardedIx (flags / 4 % 2 = 1) (pointIxAt a 14)
  let d : ConsumerDef :=
    { kind := kind, sheet := sheet, cls := byteAt a 3, weight := byteAt a 4, floor := wordAt a 5, cap := wordAt a 7,
      design := wordAt a 9, addr := if present then some ⟨byteAt a 12, byteAt a 13⟩ else none,
      handling := handlingOf kind, settlePoint := settle, tempPoint := pointIxAt a 15, setpoint := swordAt a 16,
      band := wordAt a 18, demandClear := wordAt a 20, demandWatch := wordAt a 22, demandFog := wordAt a 24,
      demandRecover := wordAt a 26, fan := wordAt a 28 }
  require (flags ≤ 7 && sheet.isSome = kindHasSheet kind)
  require (d.cls ≤ 3 && 1 ≤ d.weight && d.weight ≤ 15)
  require (d.cap ≤ 9999 && d.floor ≤ d.cap)
  if kind = .spectator then
    require (!present && !govern && byteAt a 12 = 0 && byteAt a 13 = 0 && d.design = 0)
  else
    require (present && addrInRange (byteAt a 12) (byteAt a 13) && 1 ≤ d.design && d.design ≤ 9999)
    require (govern = (handlingOf kind = some .govern))
  require (settle.isNone || handlingOf kind = some .drive)
  if kind = .subsoil then
    require (-5000 ≤ d.setpoint && d.setpoint ≤ 8000 && 1 ≤ d.band && d.band ≤ 2000)
  else
    require (d.tempPoint = 0 && d.setpoint = 0 && d.band = 0)
  if kind = .regen then
    require (d.demandClear ≤ 9999 && d.demandWatch ≤ 9999 && d.demandFog ≤ 9999 && d.demandRecover ≤ 9999)
    require (d.fan ≤ 9999)
  else
    require (d.demandClear = 0 && d.demandWatch = 0 && d.demandFog = 0 && d.demandRecover = 0 && d.fan = 0)
  some d

/-- The sixteen entries of LOAD_DEW_TABLE. -/
def dewArgs (a : List Byte) : List Nat := (List.range 16).map fun k => wordAt a (2 + 2 * k)

/-- Each entry greater than the one before it. -/
def strictlyRising : List Nat → Bool
  | [] => true
  | [_] => true
  | x :: y :: rest => x < y && strictlyRising (y :: rest)

/-- WRITE_SHEET arguments after the sheet number, in range (R81, third check). -/
def sheetArgs (a : List Byte) : Option SheetDef := do
  let haze ← guardedIx (byteAt a 5 = 1) (pointIxAt a 6)
  let d : SheetDef :=
    { ice := pointIxAt a 1, near := pointIxAt a 2, air := pointIxAt a 3, humidity := pointIxAt a 4, haze := haze,
      k := wordAt a 7, watchMargin := swordAt a 9, fogMargin := swordAt a 11, hysteresis := wordAt a 13,
      hazeLimit := wordAt a 15, hazeClear := wordAt a 17, recoverTime := wordAt a 19, fogPeriod := byteAt a 21 }
  require (byteAt a 5 ≤ 1 && d.k ≤ 256)
  require (-2000 ≤ d.watchMargin && d.watchMargin ≤ 5000 && -2000 ≤ d.fogMargin && d.fogMargin ≤ 5000)
  require (d.fogMargin < d.watchMargin && d.hysteresis ≤ 2000)
  require (1 ≤ d.hazeLimit && d.hazeClear < d.hazeLimit)
  require (10 ≤ d.recoverTime && d.recoverTime ≤ 3600 && 1 ≤ d.fogPeriod && d.fogPeriod ≤ 60)
  some d

/-- Three caps at an offset: ICE_EDGE, MID, UPPER (chapter 11.5). -/
def capsAt (a : List Byte) (k : Nat) : Caps := ⟨wordAt a k, wordAt a (k + 2), wordAt a (k + 4)⟩

/-- WRITE_FOG_CAPS arguments: twelve caps, none above 1000 (R96). -/
def capTableArgs (a : List Byte) : Option CapTable := do
  let t : CapTable := ⟨capsAt a 0, capsAt a 6, capsAt a 12, capsAt a 18⟩
  require (t.clear.wf && t.watch.wf && t.fog.wf && t.recover.wf)
  some t

/-- WRITE_ZONE arguments after the index, in range (R101, third check). -/
def zoneArgs (a : List Byte) : Option ZoneDef := do
  let sheet ← sheetFieldOf (byteAt a 1)
  let ring ← ringOf (byteAt a 2)
  let present := byteAt a 7 = 1
  let d : ZoneDef :=
    { sheet := sheet, ring := ring, valve := ⟨byteAt a 3, byteAt a 4⟩, design := wordAt a 5,
      boost := if present then some ⟨byteAt a 8, byteAt a 9⟩ else none, stageCount := byteAt a 10,
      stagePower := wordAt a 11 }
  require (addrInRange (byteAt a 3) (byteAt a 4) && 1 ≤ d.design && d.design ≤ 9999 && byteAt a 7 ≤ 1)
  if present then
    require (addrInRange (byteAt a 8) (byteAt a 9) && 1 ≤ d.stageCount && d.stageCount ≤ 3)
    require (1 ≤ d.stagePower && d.stagePower ≤ 9999)
  else
    require (byteAt a 8 = 0 && byteAt a 9 = 0 && d.stageCount = 0 && d.stagePower = 0)
  some d

/-- WRITE_GROUP arguments after the index, in range (R144, third check). -/
def groupArgs (a : List Byte) : Option GroupDef := do
  let sheet ← sheetFieldOf (byteAt a 5)
  let flags := byteAt a 6
  let d : GroupDef :=
    { dimmer := ⟨byteAt a 1, byteAt a 2⟩, rated := wordAt a 3, sheet := sheet, hazeSource := flags % 2 = 1,
      near1 := flags / 2 % 2 = 1, near2 := flags / 4 % 2 = 1 }
  require (addrInRange (byteAt a 1) (byteAt a 2) && d.rated ≤ 9999 && flags ≤ 7)
  require (sheet.isSome || !d.hazeSource)
  some d

/-- The fields CONFIGURE_BUFFER carries after the buffer (R121). -/
structure BufferConfig where
  type : BufferType
  commitMode : CommitMode
  filterValue : Nat
  filterMask : Nat
  priority : Bool
deriving DecidableEq, Repr

/-- CONFIGURE_BUFFER arguments after the buffer, in range (R121, first check). -/
def bufferArgs (a : List Byte) : Option BufferConfig := do
  let type ← bufferTypeOf (byteAt a 1)
  let commitMode ← commitModeOf (byteAt a 2)
  require (byteAt a 3 ≤ 63 && byteAt a 4 ≤ 63 && byteAt a 5 ≤ 1)
  some ⟨type, commitMode, byteAt a 3, byteAt a 4, byteAt a 5 = 1⟩

/-- One scene entry at an offset, in range (R125, fourth check). -/
def sceneEntryAt (a : List Byte) (k : Nat) : Option SceneEntry := do
  let g ← indexOf 32 (byteAt a k)
  require (wordAt a (k + 1) ≤ 1000)
  some ⟨g, wordAt a (k + 1), byteAt a (k + 3)⟩

/-- The scene entries, all in range. -/
def sceneEntries (a : List Byte) (count : Nat) : Option (List SceneEntry) :=
  (List.range count).foldr (fun k acc => do
    let rest ← acc
    let e ← sceneEntryAt a (3 + 4 * k)
    some (e :: rest)) (some [])

/-- WRITE_SCENE arguments after the buffer, in range: no group appears twice (R125, fourth check). -/
def sceneArgs (a : List Byte) : Option Scene := do
  let entries ← sceneEntries a (byteAt a 2)
  require (byteAt a 1 ≤ 1 && decide (entries.map (·.group)).Nodup)
  some ⟨entries, byteAt a 1 = 1⟩

/-- WRITE_PROFILE arguments after the mode, in range for the mode named (R163, second check). -/
def profileArgs (m : Mode) (a : List Byte) : Option Profile := do
  let exit ← exitTargetOf (byteAt a 10)
  let p : Profile :=
    { eMax := wordAt a 1, reserve := wordAt a 3, period := byteAt a 5, ceiling := wordAt a 6, capScale := wordAt a 8,
      exitTarget := exit, wakePoints := (List.range (byteAt a 11)).map fun k => pointIxAt a (12 + k) }
  require (p.eMax ≤ 9999 && p.reserve ≤ 9999 && 1 ≤ p.period && p.period ≤ 60)
  require (p.ceiling ≤ 1000 && p.capScale ≤ 1000)
  require (m = .setback || (exit = .previous && p.wakePoints.isEmpty))
  some p

end Sys2Proof.Machine
end

