-- ==== Sys2Proof/Machine/Ops.lean ====
section
/-! DEFINITION. The operations the meanings share: handing an event to another block, the Command Queue, the Line Out
arbiter, reading points, the mode in force, the sheets, the lookup of an actuator's owner, and the shape of every
command's effect. -/

namespace Sys2Proof.Machine

/-! ### Handing -/

/-- An event handed to another block, which takes it as an event of its own. -/
def hand (e : Instr) (s : State) : State := { s with handed := s.handed ++ [e] }

/-- Several events handed in order. -/
def handAll (es : List Instr) (s : State) : State := { s with handed := s.handed ++ es }

/-- A notice offered to the Notice Unit (R185). -/
def offer (kind : NoticeKind) (subject : Nat) (value : Int) (s : State) : State :=
  hand (.noticeOffer kind subject value) s

/-- An event is taken: the oldest equal entry leaves the list of what has been handed. A command that comes from
outside without having been handed leaves the list as it is (log entry 3). -/
def takeHanded (e : Instr) (s : State) : State := { s with handed := s.handed.erase e }

/-! ### Command Queue (R11, R12, R21) -/

/-- An entry is the actuator command for this address. -/
def isCommandFor (addr : ActAddr) : QueueEntry → Bool
  | .actuator a _ => a = addr
  | .reply _ _ _ _ => false
  | .busy _ _ => false

/-- The value of the pending command for an address replaced in place (R11). -/
def replaceCommand (addr : ActAddr) (value : Nat) (q : List QueueEntry) : List QueueEntry :=
  q.map fun e => if isCommandFor addr e then .actuator addr value else e

/-- R11: a new command enters at the tail; one already pending for the address has its value replaced in place. -/
def enqueueCommand (addr : ActAddr) (value : Nat) (q : List QueueEntry) : List QueueEntry :=
  if q.any (isCommandFor addr) then replaceCommand addr value q else q ++ [.actuator addr value]

/-- R11: an owning block queues an actuator command. -/
def queueCommand (addr : ActAddr) (value : Nat) (s : State) : State :=
  { s with line.queue := enqueueCommand addr value s.line.queue }

/-- An entry at the tail of the Command Queue. -/
def queueEntry (e : QueueEntry) (s : State) : State := { s with line.queue := s.line.queue ++ [e] }

/-- R17: commands pending for addresses that leave the index are removed unsent. -/
def dropCommands (gone : List ActAddr) (s : State) : State :=
  { s with line.queue := s.line.queue.filter fun e => !gone.any fun a => isCommandFor a e }

/-! ### Frames the part originates (R14) -/

/-- A frame of the part: header, payload and check sum (chapter 11.1, R14). -/
def frameOf (dest src kind seq : Nat) (payload : List Byte) : List Byte :=
  withCrc (u8 dest ++ u8 src ++ u8 kind ++ u8 seq ++ u8 payload.length ++ payload)

/-- R14: the payload of an actuator command: the channel with GOVERNED set, then the value. -/
def commandPayload (addr : ActAddr) (value : Nat) : List Byte := u8 (128 + addr.channel) ++ u16 value

/-- The payload of a NOTICE (chapter 11.6). -/
def noticePayload (n : Notice) : List Byte := u8 (noticeCode n.kind) ++ u8 n.subject ++ s32 n.value ++ u32 n.stamp

/-- The sending of a frame of the part begins: it takes the next origin sequence (R14). -/
def beginOwn (source : SendSource) (dest kind : Nat) (payload : List Byte) (s : State) : State :=
  { s with
    line.sending := some ⟨frameOf dest s.line.own kind s.line.originSeq payload, source⟩
    line.originSeq := (s.line.originSeq + 1) % 16 }

/-! ### The Line Out arbiter (R15) -/

/-- A source other than the Forward Buffer holds a frame (R15). -/
def otherWaiting (s : State) : Bool :=
  !s.line.queue.isEmpty || !s.notices.queue.isEmpty || s.notices.status.isSome

/-- The sending of the head of the Command Queue begins (R15, R11). -/
def sendEntry (e : QueueEntry) (rest : List QueueEntry) (s : State) : State :=
  let s := { s with line.queue := rest }
  match e with
  | .actuator addr value => beginOwn .actuator addr.node kindCommand (commandPayload addr value) s
  | .reply slot dest payload restart => beginOwn (.reply slot restart) dest kindReply payload s
  | .busy dest payload => beginOwn .busy dest kindReply payload s

/-- One frame from the other sources: Command Queue, then Notice Queue, then STATUS (R15, R189). The pending flag of
the STATUS frame is cleared when its sending begins (R16). -/
def sendOther (s : State) : State :=
  match s.line.queue with
  | e :: rest => sendEntry e rest s
  | [] =>
    match s.notices.queue with
    | n :: rest =>
      beginOwn .notice s.line.controller kindNotice (noticePayload n) { s with notices.queue := rest }
    | [] =>
      match s.notices.status with
      | some payload => beginOwn .status Config.broadcast kindStatus payload { s with notices.status := none }
      | none => s

/-- The head of the Forward Buffer is sent as it stands (R9). -/
def sendForwarded (frame : List Byte) (rest : List (List Byte)) (run : Nat) (s : State) : State :=
  { s with line.forward := rest, line.sending := some ⟨frame, .forwarded⟩, line.runCount := run }

/-- The pending WAKE frame is sent (R8). -/
def sendWake (s : State) : State :=
  beginOwn .wake Config.broadcast kindWake [] { s with line.wakePending := false, line.runCount := 0 }

/-- R15: the arbiter's choice, made when Line Out is free. -/
def chooseFrame (s : State) : State :=
  match s.line.forward with
  | f :: rest =>
    if !otherWaiting s then sendForwarded f rest 0 s
    else if s.line.runCount < Config.runLimit then sendForwarded f rest (s.line.runCount + 1) s
    else sendOther { s with line.runCount := 0 }
  | [] =>
    if otherWaiting s then sendOther { s with line.runCount := 0 }
    else if s.line.wakePending then sendWake s
    else s

/-- R15: the arbiter makes a choice whenever Line Out is free and a source holds a frame. -/
def arbitrate (s : State) : State :=
  match s.line.sending with
  | some _ => s
  | none => chooseFrame s

/-- The shape of every command's effect. While the reset input is asserted or the part is unpowered nothing acts
(R22); otherwise the effect is made, and an idle Line Out then takes a frame that has become available (R15).
DEDUCED: one choice at the end of each event (log entry 21). -/
def perform (effect : State → State) (s : State) : Host.Outcome State Fault Refusal :=
  .next (if s.line.held then s else arbitrate (effect s))

/-! ### Points as other blocks read them (R25) -/

/-- Quality presented in a state (chapter 2). -/
def qualityOf : PointState → Quality
  | .unused => .none
  | .disabled => .none
  | .never => .none
  | .fresh => .good
  | .settling => .held
  | .staleHeld => .held
  | .staleSub => .substituted

/-- The value a point presents at this moment (chapter 2, R42): a point in STALE_SUB presents its substitute's. -/
def presentedValue (s : State) (i : PointIx) : Int :=
  let p := s.points[i]
  match p.state with
  | .unused => 0
  | .disabled => 0
  | .never => 0
  | .fresh => p.presented
  | .settling => p.presented
  | .staleHeld => p.presented
  | .staleSub =>
    match p.defn.substitute with
    | some j => s.points[j].presented
    | none => p.presented

/-- R25: a read of a point: presented value and quality. -/
def readPoint (s : State) (i : PointIx) : Reading := ⟨presentedValue s i, qualityOf s.points[i].state⟩

/-- R51, R60, R86: a read of a point required to be of a class; another class counts as quality NONE. -/
def readAs (s : State) (cls : PointClass) (i : PointIx) : Reading :=
  if s.points[i].defn.cls = cls then readPoint s i else ⟨0, .none⟩

/-- The record is a non-UNUSED point of the class (R50, R81, R163). -/
def namesPoint (s : State) (cls : PointClass) (i : PointIx) : Bool :=
  s.points[i].state != .unused && s.points[i].defn.cls = cls

/-- A point record replaced. -/
def setPoint (i : PointIx) (p : Point) (s : State) : State := { s with points := s.points.set i p }

/-- R45: a settling start on a point. -/
def settleStart (i : PointIx) (s : State) : State :=
  let p := s.points[i]
  if p.defn.settleTime = 0 then s
  else
    match p.state with
    | .fresh => setPoint i { p with state := .settling, settleTimer := some (p.defn.settleTime * 100) } s
    | .settling => setPoint i { p with settleTimer := some (p.defn.settleTime * 100) } s
    | .unused => s
    | .disabled => s
    | .never => s
    | .staleHeld => s
    | .staleSub => s

/-! ### The mode in force (R160, R162) -/

/-- The profile of a mode. -/
def profileOf (u : ModeUnit) : Mode → Profile
  | .event => u.eventProfile
  | .practice => u.practiceProfile
  | .convert => u.convertProfile
  | .setback => u.setbackProfile

/-- The profile of the mode in force. -/
def profileInForce (s : State) : Profile := profileOf s.mode s.mode.mode

/-- A profile replaced. -/
def setProfile (m : Mode) (p : Profile) (u : ModeUnit) : ModeUnit :=
  match m with
  | .event => { u with eventProfile := p }
  | .practice => { u with practiceProfile := p }
  | .convert => { u with convertProfile := p }
  | .setback => { u with setbackProfile := p }

/-! ### Sheets -/

/-- The record of a sheet. -/
def sheetRec (u : FogMonitor) : Sheet → SheetRec
  | .one => u.sheet1
  | .two => u.sheet2

/-- A sheet record replaced. -/
def setSheet (sh : Sheet) (r : SheetRec) (s : State) : State :=
  match sh with
  | .one => { s with fog.sheet1 := r }
  | .two => { s with fog.sheet2 := r }

/-- The fog state of a sheet, as every other block reads it (R93). -/
def fogOf (s : State) (sh : Sheet) : FogState := (sheetRec s.fog sh).fog

/-- The cover flag of a sheet (R171). -/
def covered (s : State) : Sheet → Bool
  | .one => s.mode.cover1
  | .two => s.mode.cover2

/-- The number of a sheet. -/
def sheetNumber : Sheet → Nat
  | .one => 1
  | .two => 2

/-- The caps of a fog state (R95). -/
def capsOf (t : CapTable) : FogState → Caps
  | .clear => t.clear
  | .watch => t.watch
  | .fog => t.fog
  | .recover => t.recover

/-- R96: the caps of a sheet in its fog state now. -/
def capsInForce (s : State) (sh : Sheet) : Caps := capsOf s.fog.caps (fogOf s sh)

/-! ### Zones -/

/-- The cap of a ring. -/
def capOf (c : Caps) : Ring → Nat
  | .iceEdge => c.iceEdge
  | .mid => c.mid
  | .upper => c.upper

/-- R106: the fog cap a zone reads from the sheet cap sets; 1000 when its sheet is none. -/
def fogCapOf (u : ZoneController) (d : ZoneDef) : Nat :=
  match d.sheet with
  | none => 1000
  | some .one => capOf u.capSet1 d.ring
  | some .two => capOf u.capSet2 d.ring

/-- The zone demand of an ENABLED zone, 0 of any other (R108). -/
def zoneDemand (z : Zone) : Nat := if z.state = .enabled then z.demand else 0

/-- R108: the aggregate D_z, the sum of the zone demands of the ENABLED zones. -/
def zoneAggregate (s : State) : Nat := (s.zones.zones.toList.map zoneDemand).sum

/-! ### Actuator Index (R17, R18) -/

/-- The record that owns an actuator address. -/
inductive ActOwner where
  | consumer (i : ConsumerIx)
  | zoneValve (i : ZoneIx)
  | zoneBoost (i : ZoneIx)
  | group (i : GroupIx)
deriving DecidableEq, Repr

/-- A loaded consumer record holds the address. -/
def consumerHolds (a : ActAddr) (c : Consumer) : Bool := c.state != .unused && c.defn.addr = some a

/-- A loaded zone record holds the address as its valve. -/
def valveHolds (a : ActAddr) (z : Zone) : Bool := z.state != .unused && z.defn.valve = a

/-- A loaded zone record holds the address as its boost actuator. -/
def boostHolds (a : ActAddr) (z : Zone) : Bool := z.state != .unused && z.defn.boost = some a

/-- A loaded group record holds the address. -/
def groupHolds (a : ActAddr) (g : Group) : Bool := g.state != .unused && g.defn.dimmer = a

/-- The Actuator Index: the owner of an address, derived from the loaded records (chapter 1.8). DEDUCED: worked
out, not stored (log entry 20). -/
def ownerOf (s : State) (a : ActAddr) : Option ActOwner :=
  match findIx (consumerHolds a) s.budget.consumers with
  | some i => some (.consumer i)
  | none =>
    match findIx (valveHolds a) s.zones.zones with
    | some i => some (.zoneValve i)
    | none =>
      match findIx (boostHolds a) s.zones.zones with
      | some i => some (.zoneBoost i)
      | none => (findIx (groupHolds a) s.scene.groups).map .group

/-- The owner is another record than the one being written. -/
def ownedByOther (s : State) (mine : ActOwner → Bool) (a : ActAddr) : Bool :=
  match ownerOf s a with
  | some o => !mine o
  | none => false

/-- R17: the check of one address before a write. -/
def checkAddr (s : State) (mine : ActOwner → Bool) (a : ActAddr) : Option Status :=
  if a.node = s.line.own ∨ a.node = Config.broadcast then some .range
  else if ownedByOther s mine a then some .conflict
  else none

/-! ### Lighting load (R158) -/

/-- R158: the sum of the loads of the ENABLED groups. -/
def lightingLoad (s : State) : Nat := (s.scene.groups.toList.map groupLoad).sum

/-- R158: the load is worked out and handed to the Budget Unit, even when unchanged. -/
def reportLoad (s : State) : State :=
  hand (.lightingLoadUpdate (lightingLoad s)) { s with scene.loadReported := lightingLoad s }

/-! ### Requests and replies (R12, R174, R176, R177) -/

/-- What an owner answers to a request: a status, results (of a DONE reply to a read), and the state it leaves. -/
structure Answer where
  status : Status
  results : List Byte
  state : State

/-- A refusal: nothing changes (R177). -/
def refuse (status : Status) (s : State) : Answer := ⟨status, [], s⟩

/-- DONE without results. -/
def done (s : State) : Answer := ⟨.done, [], s⟩

/-- DONE with results: a read changes no field. -/
def doneWith (results : List Byte) (s : State) : Answer := ⟨.done, results, s⟩

/-- The state of a slot. -/
def slotOf (u : Responder) (slot : SlotIx) : SlotState := if slot = 0 then u.slot0 else u.slot1

/-- A slot set. -/
def setSlot (slot : SlotIx) (v : SlotState) (s : State) : State :=
  if slot = 0 then { s with responder.slot0 := v } else { s with responder.slot1 := v }

/-- The other slot. -/
def otherSlot (slot : SlotIx) : SlotIx := if slot = 0 then 1 else 0

/-- R174: the reply is placed at the tail of the Command Queue and the slot goes to REPLYING. -/
def placeReply (slot : SlotIx) (dest : Nat) (payload : List Byte) (restart : Bool) (s : State) : State :=
  setSlot slot .replying (queueEntry (.reply slot dest payload restart) s)

/-- The request a slot holds CHECKED, when its code names r. -/
def stagedRequest (r : Req) (slot : SlotIx) (s : State) : Option Request :=
  match slotOf s.responder slot with
  | .checked q => if reqOfCode q.code = some r then some q else none
  | .free => none
  | .replying => none

/-- R176: the other slot holds a CHECKED request of the same owner that arrived earlier. -/
def waitsForOther (r : Req) (slot : SlotIx) (s : State) : Bool :=
  match slotOf s.responder (otherSlot slot) with
  | .checked q => s.responder.first = otherSlot slot && (reqOfCode q.code).map ownerOfReq = some (ownerOfReq r)
  | .free => false
  | .replying => false

/-- R176, R177: the owner takes the request in a slot and answers it at that event. Where the slot holds no such
request, or an earlier request of the same owner waits, there is nothing to take (log entry 4). -/
def takeRequest (r : Req) (slot : SlotIx) (restart : Bool) (answer : List Byte → State → Answer) (s : State) : State :=
  match stagedRequest r slot s with
  | some q =>
    if waitsForOther r slot s then s
    else
      let a := answer q.args (takeHanded (takeCommand r slot) s)
      placeReply slot q.source (replyPayload q.code q.handle a.status a.results) restart a.state
  | none => takeHanded (takeCommand r slot) s

/-- The taking of a request that is not a RESTART, as a command. -/
def performRequest (r : Req) (slot : SlotIx) (answer : List Byte → State → Answer) (s : State) :
    Host.Outcome State Fault Refusal :=
  perform (takeRequest r slot false answer) s

end Sys2Proof.Machine
end

