-- ==== Sys2Proof/Machine/Management.lean ====
section
/-! DEFINITION. The Management Responder's own requests: status, node records, rights, and the take of RESTART
(spec/09_management_requests.md). What RESTART does when it takes effect is in Machine/Restart.lean. -/

namespace Sys2Proof.Machine

/-! ### READ_STATUS (R182) -/

/-- R182, R195: the 22 result bytes of READ_STATUS. -/
def statusBytes (s : State) : List Byte :=
  u16 Config.modelCode ++ u8 Config.revision ++ u8 s.line.own ++ u8 s.line.controller ++ u8 (modeCode s.mode.mode)
    ++ u8 (bit 0 s.line.up) ++ u16 s.line.lineErrors ++ u16 s.line.overruns ++ u16 s.line.drops
    ++ u8 (bit 0 s.notices.causePower + bit 1 s.notices.causeRestart + bit 2 s.responder.frozen)
    ++ u32 s.notices.seconds ++ u16 s.notices.mask.toNat ++ u16 s.notices.overflow

/-- R182: both flags of the reset cause record cleared; a read taken after a RESTART that is still pending clears
nothing (DEDUCED, log entry 10). -/
def clearCause (s : State) : State :=
  if s.responder.restartPending then s
  else { s with notices.causePower := false, notices.causeRestart := false }

/-- R182, R10: READ_STATUS; the queuing of its reply sets the overrun notice armed flag. -/
def readStatus (args : List Byte) (s : State) : Answer :=
  let t := { s with line.overrunArmed := true }
  match byteAt args 0 with
  | 0 => doneWith (statusBytes s) t
  | 1 => doneWith (statusBytes s) (clearCause t)
  | _ => refuse .range s

/-! ### READ_NODE (R181) -/

/-- The Node Table record of a node number. -/
def nodeRec (u : LineInterface) (node : Nat) : NodeRec := u.nodes[(Fin.ofNat 64 node : Fin 64)]

/-- A Node Table record replaced. -/
def setNode (node : Nat) (r : NodeRec) (s : State) : State :=
  { s with line.nodes := s.line.nodes.set (Fin.ofNat 64 node : Fin 64) r }

/-- R181, R195: the result bytes of READ_NODE. DESIGN CHOICE: seen, rights and the two marks take a byte each (log entry
29). -/
def nodeBytes (s : State) (node : Nat) : List Byte :=
  let r := nodeRec s.line node
  u8 (bit 0 r.seen) ++ u8 r.last ++ u16 r.missed ++ u16 r.dup ++ u8 (rightsCode r.rights)
    ++ u8 (bit 0 (node = s.line.own) + bit 1 (node = s.line.controller))

/-- R181: READ_NODE. -/
def readNode (args : List Byte) (s : State) : Answer :=
  let node := byteAt args 0
  if 63 < node then refuse .range s else doneWith (nodeBytes s node) s

/-! ### Rights (R178 to R180) -/

/-- R179: the rights of a node replaced in whole. -/
def setRights (node : Nat) (rights : Rights) (s : State) : State :=
  setNode node { nodeRec s.line node with rights := rights } s

/-- R179: at least one record of nodes 0 to 62 holds ADMIN. -/
def adminHeld (u : LineInterface) : Bool := (u.nodes.toList.take 63).any fun r => r.rights.admin

/-- R179: WRITE_RIGHTS. -/
def writeRights (args : List Byte) (s : State) : Answer :=
  let node := byteAt args 0
  let t := setRights node (rightsOf (args.getD 1 0)) s
  if Config.lastNode < node ∨ node = s.line.own then refuse .range s
  else if s.responder.frozen then refuse .state s
  else if adminHeld t.line then done t
  else refuse .conflict s

/-- R180: FREEZE_RIGHTS. -/
def freezeRights (_args : List Byte) (s : State) : Answer :=
  if s.responder.frozen then refuse .state s else done { s with responder.frozen := true }

/-! ### RESTART (R183) -/

/-- R183: the take of RESTART: the restart pending flag is set. -/
def takeRestart (_args : List Byte) (s : State) : Answer := done { s with responder.restartPending := true }

/-! ### The commands -/

/-- READ_STATUS (R182). -/
def execReadStatus (slot : SlotIx) (s : State) : Host.Outcome State Fault Refusal :=
  performRequest .readStatus slot readStatus s

/-- READ_NODE (R181). -/
def execReadNode (slot : SlotIx) (s : State) : Host.Outcome State Fault Refusal :=
  performRequest .readNode slot readNode s

/-- WRITE_RIGHTS (R179). -/
def execWriteRights (slot : SlotIx) (s : State) : Host.Outcome State Fault Refusal :=
  performRequest .writeRights slot writeRights s

/-- FREEZE_RIGHTS (R180). -/
def execFreezeRights (slot : SlotIx) (s : State) : Host.Outcome State Fault Refusal :=
  performRequest .freezeRights slot freezeRights s

/-- RESTART (R183): its reply is remembered as the DONE reply whose sending brings the restart about. -/
def execRestart (slot : SlotIx) (s : State) : Host.Outcome State Fault Refusal :=
  perform (takeRequest .restart slot true takeRestart) s

end Sys2Proof.Machine
end

