-- ==== Sys2Proof/Machine/Points.lean ====
section
/-! DEFINITION. The Point Unit: sample acceptance, staleness, substitution, settling, and the point requests
(spec/02_points_and_the_point_map.md). The result layout of READ_POINT is in Machine/Results.lean. -/

namespace Sys2Proof.Machine

/-! ### Substitution (R42 to R44) -/

/-- The point follows j in this state. -/
def follows (state : PointState) (j : PointIx) (p : Point) : Bool :=
  p.state = state && p.defn.substitute = some j

/-- R44: a STALE_HELD follower of j goes to STALE_SUB; any other record is unchanged. -/
def resumedPoint (j : PointIx) (p : Point) : Point :=
  if follows .staleHeld j p then { p with state := .staleSub } else p

/-- R43: a STALE_SUB follower of j falls to STALE_HELD, holding the followed value; any other record is unchanged. -/
def collapsedPoint (j : PointIx) (value : Int) (p : Point) : Point :=
  if follows .staleSub j p then { p with state := .staleHeld, presented := value } else p

/-- R44: a point has entered FRESH: every STALE_HELD point that names it goes to STALE_SUB, with SUBSTITUTE_ON. -/
def resumeFollowers (j : PointIx) (s : State) : State :=
  handAll ((indicesWhere (follows .staleHeld j) s.points).map fun i => .noticeOffer .substituteOn i j.val)
    { s with points := mapTable (fun _ p => resumedPoint j p) s.points }

/-- R43: a point has left FRESH and SETTLING, presenting `value` until then: every STALE_SUB point that follows it falls
to STALE_HELD with that value, with POINT_STALE. -/
def collapseFollowers (j : PointIx) (value : Int) (s : State) : State :=
  handAll ((indicesWhere (follows .staleSub j) s.points).map fun i => .noticeOffer .pointStale i value)
    { s with points := mapTable (fun _ p => collapsedPoint j value p) s.points }

/-! ### Sample acceptance (R31 to R38) -/

/-- R31: an entry with FAULT set. -/
def faultedPoint (p : Point) : Point := { p with faults := countUp 1 p.faults, recovery := 0 }

/-- R32: an entry whose raw value is out of range. -/
def outOfRangePoint (p : Point) : Point := { p with rangeCount := countUp 1 p.rangeCount, recovery := 0 }

/-- R34: a candidate rejected as a spike, on this side with this streak. -/
def spikedPoint (side : Side) (streak : Nat) (p : Point) : Point :=
  { p with spikes := countUp 1 p.spikes, spikeCount := streak, spikeSide := side, recovery := 0 }

/-- R34: the spike streak cleared, its side ABOVE (DEDUCED, log entry 7). -/
def clearedStreak (p : Point) : Point := { p with spikeCount := 0, spikeSide := .above }

/-- R34: the spike test is applied: max step above 0, in a state other than NEVER. -/
def spikeTested (p : Point) : Bool :=
  0 < p.defn.maxStep &&
    (p.state = .fresh || p.state = .settling || p.state = .staleHeld || p.state = .staleSub)

/-- R35: the timer, the count and the time of an accepted sample. -/
def acceptedPoint (time : Nat) (p : Point) : Point :=
  { p with
    staleTimer := some (p.defn.staleLimit * 100)
    accepted := countUp 1 p.accepted
    lastAccepted := some (time % 4294967296) }

/-- R35: a new presented value is reported to the Mode Unit. -/
def reportValue (i : PointIx) (v : Int) (s : State) : State := hand (.valueReport i v) s

/-- R36, R37: the point takes the value and is FRESH. -/
def freshPoint (v : Int) (p : Point) : Point :=
  { p with state := .fresh, ownValue := v, presented := v, recovery := 0 }

/-- R36, R37: what an accepted sample does in each state; p is the record with R35 applied. -/
def acceptSample (i : PointIx) (p : Point) (v : Int) (s : State) : State :=
  match p.state with
  | .never => reportValue i v (resumeFollowers i (setPoint i (freshPoint v p) s))
  | .fresh => reportValue i v (setPoint i (freshPoint v p) s)
  | .settling => setPoint i p s
  | .staleHeld | .staleSub =>
    if p.recovery + 1 = p.defn.recoverCount then
      reportValue i v (resumeFollowers i (offer .pointRecovered i v (setPoint i (freshPoint v p) s)))
    else setPoint i { p with recovery := p.recovery + 1 } s
  | .unused => s
  | .disabled => s

/-- R33, R34, R35: a raw value within range: scaled, tested for a spike, and accepted or rejected. -/
def takeCandidate (i : PointIx) (p : Point) (raw : Nat) (s : State) : State :=
  let v := candidateValue p.defn raw
  let p := { p with clamped := clampedFlag p.defn raw }
  if spikeTested p then
    let presented := presentedValue s i
    if spikeDistance v presented ≤ p.defn.maxStep then
      acceptSample i (acceptedPoint s.timeBase (clearedStreak p)) v s
    else
      let side := spikeSideOf v presented
      let streak := spikeStreak p side
      if streak = 3 then acceptSample i (acceptedPoint s.timeBase (clearedStreak p)) v s
      else setPoint i (spikedPoint side streak p) s
  else acceptSample i (acceptedPoint s.timeBase p) v s

/-- R31 to R35: one entry of a matched enabled point. -/
def sampleEnabled (i : PointIx) (fault : Bool) (raw : Nat) (s : State) : State :=
  let p := s.points[i]
  if fault then setPoint i (faultedPoint p) s
  else if rawLimit p.defn.rawWidth < raw then setPoint i (outOfRangePoint p) s
  else takeCandidate i p raw s

/-- The point is in one of the five enabled states. -/
def pointEnabled (p : Point) : Bool := p.state != .unused && p.state != .disabled

/-- R24: the non-UNUSED record with this key. -/
def holdsKey (node channel : Nat) (p : Point) : Bool :=
  p.state != .unused && p.defn.node = node && p.defn.channel = channel

/-- R24: one entry of a non-duplicate SAMPLE frame; an entry that no enabled record matches is passed over. -/
def sampleEntry (source channel : Nat) (fault : Bool) (raw : Nat) (s : State) : State :=
  match findIx (holdsKey source channel) s.points with
  | some i => if pointEnabled s.points[i] then sampleEnabled i fault raw s else s
  | none => s

/-- R24: the entries of a SAMPLE payload, in payload order (chapter 11.2). -/
def sampleEntries (source : Nat) : List Byte → State → State
  | b :: hi :: lo :: rest, s =>
    sampleEntries source rest
      (sampleEntry source (b.toNat % 16) (b.getLsbD 7) (hi.toNat * 256 + lo.toNat) s)
  | _, s => s

/-! ### Stale and settle expiries (R39 to R41, R46) -/

/-- R40: the substitute a point going stale can take: one in FRESH or SETTLING. -/
def liveSubstitute (s : State) (p : Point) : Option PointIx :=
  match p.defn.substitute with
  | some j => if s.points[j].state = .fresh ∨ s.points[j].state = .settling then some j else none
  | none => none

/-- R40: a FRESH or SETTLING point goes stale, and its followers leave STALE_SUB at the same event. -/
def goStale (i : PointIx) (p : Point) (s : State) : State :=
  let q := { p with staleTimer := none, settleTimer := none, recovery := 0 }
  match liveSubstitute s p with
  | some j =>
    collapseFollowers i p.presented
      (offer .substituteOn i j.val (setPoint i { q with state := .staleSub } s))
  | none =>
    collapseFollowers i p.presented
      (offer .pointStale i p.presented (setPoint i { q with state := .staleHeld } s))

/-- R40, R41: the stale timer of a point expires, when it runs. -/
def staleExpiry (i : PointIx) (s : State) : State :=
  let p := s.points[i]
  match p.staleTimer with
  | none => s
  | some _ =>
    match p.state with
    | .fresh => goStale i p s
    | .settling => goStale i p s
    | .never => offer .pointStale i 0 (setPoint i { p with staleTimer := none } s)
    | .staleHeld => setPoint i { p with staleTimer := none, recovery := 0 } s
    | .staleSub => setPoint i { p with staleTimer := none, recovery := 0 } s
    | .unused => s
    | .disabled => s

/-- R46: the settle timer of a point expires, when it runs. -/
def settleExpiry (i : PointIx) (s : State) : State :=
  let p := s.points[i]
  match p.settleTimer with
  | none => s
  | some _ =>
    match p.state with
    | .settling => resumeFollowers i (setPoint i { p with state := .fresh, settleTimer := none } s)
    | .unused => s
    | .disabled => s
    | .never => s
    | .fresh => s
    | .staleHeld => s
    | .staleSub => s

/-! ### Point requests (R26 to R29) -/

/-- R26: another non-UNUSED record holds the key. -/
def keyTaken (i : PointIx) (d : PointDef) (s : State) : Bool :=
  (indicesWhere (holdsKey d.node d.channel) s.points).any fun k => k != i.val

/-- R26: a substitute, when named, is another, non-UNUSED point of the definition's class. -/
def substituteFits (i : PointIx) (d : PointDef) (s : State) : Bool :=
  match d.substitute with
  | none => true
  | some j => j != i && namesPoint s d.cls j

/-- R26: a follower of another class: a non-UNUSED record that names the point and differs in class. -/
def strangeFollower (i : PointIx) (cls : PointClass) (p : Point) : Bool :=
  p.state != .unused && p.defn.substitute = some i && p.defn.cls != cls

/-- R26: every other non-UNUSED record that names the point is of the new definition's class. -/
def followersFit (i : PointIx) (d : PointDef) (s : State) : Bool :=
  (indicesWhere (strangeFollower i d.cls) s.points).all fun k => k = i.val

/-- R26: WRITE_POINT. -/
def writePoint (args : List Byte) (s : State) : Answer :=
  let i := pointIxAt args 0
  if pointEnabled s.points[i] then refuse .state s
  else
    match pointArgs s.line.own args with
    | none => refuse .range s
    | some d =>
      if keyTaken i d s then refuse .conflict s
      else if !substituteFits i d s then refuse .range s
      else if !followersFit i d s then refuse .conflict s
      else done (setPoint i (clearedPoint d .disabled) s)

/-- R27: the record of a point put in NEVER with its stale timer started. -/
def enabledPoint (p : Point) : Point :=
  { clearedStreak p with
    state := .never, presented := 0, clamped := false, recovery := 0,
    staleTimer := some (p.defn.staleLimit * 100) }

/-- R27: ENABLE_POINT. -/
def enablePoint (args : List Byte) (s : State) : Answer :=
  let i := pointIxAt args 0
  match s.points[i].state with
  | .unused => refuse .state s
  | .disabled => done (setPoint i (enabledPoint s.points[i]) s)
  | .never => done s
  | .fresh => done s
  | .settling => done s
  | .staleHeld => done s
  | .staleSub => done s

/-- R28: the record of a point disabled. -/
def disabledPoint (p : Point) : Point :=
  { clearedStreak p with
    state := .disabled, presented := 0, recovery := 0, staleTimer := none, settleTimer := none }

/-- R28: DISABLE_POINT. -/
def disablePoint (args : List Byte) (s : State) : Answer :=
  let i := pointIxAt args 0
  let p := s.points[i]
  match p.state with
  | .unused => refuse .state s
  | .disabled => done s
  | .never => done (setPoint i (disabledPoint p) s)
  | .fresh => done (collapseFollowers i p.presented (setPoint i (disabledPoint p) s))
  | .settling => done (collapseFollowers i p.presented (setPoint i (disabledPoint p) s))
  | .staleHeld => done (setPoint i (disabledPoint p) s)
  | .staleSub => done (setPoint i (disabledPoint p) s)

/-- R29: CLEAR_SUBSTITUTE. -/
def clearSubstitute (args : List Byte) (s : State) : Answer :=
  let i := pointIxAt args 0
  let p := s.points[i]
  match p.state with
  | .unused => refuse .state s
  | .staleSub => refuse .state s
  | .disabled => done (setPoint i { p with defn.substitute := none } s)
  | .never => done (setPoint i { p with defn.substitute := none } s)
  | .fresh => done (setPoint i { p with defn.substitute := none } s)
  | .settling => done (setPoint i { p with defn.substitute := none } s)
  | .staleHeld => done (setPoint i { p with defn.substitute := none } s)

/-! ### RESTART (R49) -/

/-- R49: a point record after RESTART. -/
def restartedPoint (p : Point) : Point :=
  if p.state = .unused then p
  else if p.state = .disabled then clearedPoint p.defn .disabled
  else { clearedPoint p.defn .never with staleTimer := some (p.defn.staleLimit * 100) }

/-! ### The commands -/

/-- STALE_TIMER_EXPIRY (R40). -/
def execStaleTimerExpiry (point : PointIx) (s : State) : Host.Outcome State Fault Refusal :=
  perform (staleExpiry point) s

/-- SETTLE_TIMER_EXPIRY (R46). -/
def execSettleTimerExpiry (point : PointIx) (s : State) : Host.Outcome State Fault Refusal :=
  perform (settleExpiry point) s

/-- WRITE_POINT (R26). -/
def execWritePoint (slot : SlotIx) (s : State) : Host.Outcome State Fault Refusal :=
  performRequest .writePoint slot writePoint s

/-- ENABLE_POINT (R27). -/
def execEnablePoint (slot : SlotIx) (s : State) : Host.Outcome State Fault Refusal :=
  performRequest .enablePoint slot enablePoint s

/-- DISABLE_POINT (R28). -/
def execDisablePoint (slot : SlotIx) (s : State) : Host.Outcome State Fault Refusal :=
  performRequest .disablePoint slot disablePoint s

/-- CLEAR_SUBSTITUTE (R29). -/
def execClearSubstitute (slot : SlotIx) (s : State) : Host.Outcome State Fault Refusal :=
  performRequest .clearSubstitute slot clearSubstitute s

end Sys2Proof.Machine
end

