-- ==== Sys2Proof/Machine/Zones.lean ====
section
/-! DEFINITION. The Zone Controller: requested values, fog caps, the split of the spectator grant, boost stages,
corrective sheds, and the zone requests (spec/05_spectator_heating_zones.md). The result layout of READ_ZONE is in
Machine/Results.lean. -/

namespace Sys2Proof.Machine

/-- The zone indices in ascending order. -/
def zoneOrder : List ZoneIx := List.finRange 24

/-- A zone record replaced. -/
def setZone (i : ZoneIx) (z : Zone) (s : State) : State := { s with zones.zones := s.zones.zones.set i z }

/-! ### Capped position, demand and permitted stages (R107, R108, R112) -/

/-- R107, R108: the capped position and the zone demand of an ENABLED zone worked out anew. -/
def recappedZone (z : Zone) : Zone :=
  let capped := min z.reqPosition (capLimit z.fogCap)
  { z with capped := capped, demand := capped * z.defn.design / 10000 }

/-- R112: the permitted stages. -/
def permittedStages (z : Zone) : Nat :=
  if z.state = .enabled ∧ z.defn.boost.isSome then min z.reqStages (stageLimit z.defn.stageCount z.fogCap) else 0

/-- R105: a zone record with a new requested position. -/
def requestedPosition (v : Nat) (z : Zone) : Zone := recappedZone { z with reqPosition := v }

/-! ### Corrective sheds (R114) -/

/-- R114: the valve of an ENABLED zone left above its allowed position is shed. -/
def shedValve (s : State) (i : ZoneIx) : State :=
  let z := s.zones.zones[i]
  if z.state = .enabled ∧ z.allowed < z.lastForwarded then
    setZone i { z with lastForwarded := z.allowed } (queueCommand z.defn.valve z.allowed s)
  else s

/-- R114: the boost actuator of an ENABLED zone left above its allowed stages is shed. -/
def shedBoost (s : State) (i : ZoneIx) : State :=
  let z := s.zones.zones[i]
  match z.defn.boost with
  | some a =>
    if z.state = .enabled ∧ z.allowedStages < z.lastStages then
      setZone i { z with lastStages := z.allowedStages } (queueCommand a z.allowedStages s)
    else s
  | none => s

/-- R114: at a cap handing a zone's valve is shed before its boost actuator. -/
def shedBoth (s : State) (i : ZoneIx) : State := shedBoost (shedValve s i) i

/-! ### Cap handings (R106, R111) -/

/-- The cap set of a sheet. -/
def capSet (u : ZoneController) : Sheet → Caps
  | .one => u.capSet1
  | .two => u.capSet2

/-- The cap set of a sheet replaced. -/
def setCapSet (sh : Sheet) (c : Caps) (u : ZoneController) : ZoneController :=
  match sh with
  | .one => { u with capSet1 := c }
  | .two => { u with capSet2 := c }

/-- R111: allowed values above the new capped position and permitted stages are lowered to them. -/
def loweredZone (z : Zone) : Zone :=
  { z with allowed := min z.allowed z.capped, allowedStages := min z.allowedStages (permittedStages z) }

/-- R106, R111: a zone record at a handing of caps for a sheet. -/
def capHandedZone (sh : Sheet) (c : Caps) (z : Zone) : Zone :=
  if z.defn.sheet = some sh then
    let z := { z with fogCap := capOf c z.defn.ring }
    if z.state = .enabled then loweredZone (recappedZone z) else z
  else z

/-- The zone's sheet is this one. -/
def zoneOn (sh : Sheet) (s : State) (i : ZoneIx) : Bool := s.zones.zones[i].defn.sheet = some sh

/-- R106, R111, R114: the Zone Controller takes three caps of a sheet. Caps equal to those the set holds change no
value and queue nothing (R106). DEDUCED where R111 would lower (log entry 15). -/
def applyCaps (sh : Sheet) (c : Caps) (s : State) : State :=
  if capSet s.zones sh = c then s
  else
    let u := setCapSet sh c s.zones
    let s := { s with zones := { u with zones := mapTable (fun _ z => capHandedZone sh c z) u.zones } }
    (zoneOrder.filter (zoneOn sh s)).foldl shedBoth s

/-! ### The split of the spectator grant (R109, R110) -/

/-- R109: a zone record after a split that gives it this share. -/
def splitZone (share : Nat) (z : Zone) : Zone :=
  if z.state = .enabled then
    { z with share := share, allowed := min z.capped (share * 10000 / z.defn.design) }
  else z

/-- R110: a zone record after word that no spectator grant is in force. -/
def ungrantedZone (z : Zone) : Zone :=
  if z.state = .enabled then { z with share := z.demand, allowed := z.capped } else z

/-- R109: the shares of the zones under a grant G. -/
def zoneShares (g : Nat) (u : ZoneController) : List Nat := (shareByPart g (u.zones.toList.map zoneDemand)).1

/-- R109, R110: the shares and allowed positions of a handoff. -/
def splitZones (grant : Option Nat) (u : ZoneController) : ZoneController :=
  match grant with
  | some g =>
    let shares := zoneShares g u
    { u with grant := some g, zones := mapTable (fun k z => splitZone (shares.getD k 0) z) u.zones }
  | none => { u with grant := none, zones := mapTable (fun _ z => ungrantedZone z) u.zones }

/-- R109, R110, R114: the Zone Controller takes the spectator handoff of an allocation completion. -/
def splitGrant (grant : Option Nat) (s : State) : State :=
  zoneOrder.foldl shedValve { s with zones := splitZones grant s.zones }

/-! ### Boost distribution (R113) -/

/-- R113: the zone takes part in the walk. -/
def boosted (z : Zone) : Bool := z.state = .enabled && z.defn.boost.isSome

/-- R113: the stages of one zone under the allowance left. -/
def stagesFor (left : Nat) (z : Zone) : Nat :=
  if boosted z then stagesWithin (permittedStages z) z.defn.stagePower left else 0

/-- R113: the walk: the allowed stages of each zone in ascending index, and the allowance left after it. -/
def boostWalk : Nat → List Zone → List Nat × Nat
  | left, [] => ([], left)
  | left, z :: zs =>
    let n := stagesFor left z
    let r := boostWalk (left - n * z.defn.stagePower) zs
    (n :: r.1, r.2)

/-- R113: the records, the allowance taken and the allowance left after a distribution. -/
def boostZones (a : Nat) (u : ZoneController) : ZoneController :=
  let w := boostWalk a u.zones.toList
  { u with
    zones := mapTable (fun k z => { z with allowedStages := w.1.getD k 0 }) u.zones
    taken := a
    left := w.2 }

/-- R113, R114: the Zone Controller takes a handing of the allowance. -/
def distributeBoost (a : Nat) (s : State) : State :=
  zoneOrder.foldl shedBoost { s with zones := boostZones a s.zones }

/-! ### Zone requests (R101 to R103) -/

/-- The addresses a loaded zone record holds. -/
def zoneAddrs (z : Zone) : List ActAddr :=
  if z.state = .unused then [] else z.defn.valve :: z.defn.boost.toList

/-- The owner is the zone record i, by either actuator. -/
def mineZone (i : ZoneIx) : ActOwner → Bool
  | .zoneValve k => k = i
  | .zoneBoost k => k = i
  | .consumer _ => false
  | .group _ => false

/-- R17: the check of a zone's addresses: the valve's, the boost actuator's, then the same address for both. DESIGN
CHOICE: this order among them (log entry 14). -/
def checkZoneAddrs (i : ZoneIx) (d : ZoneDef) (s : State) : Option Status :=
  match checkAddr s (mineZone i) d.valve with
  | some st => some st
  | none =>
    match d.boost with
    | none => none
    | some b =>
      match checkAddr s (mineZone i) b with
      | some st => some st
      | none => if b = d.valve then some .conflict else none

/-- R101, R17: a zone definition loaded. -/
def loadZone (i : ZoneIx) (d : ZoneDef) (s : State) : State :=
  let z := clearedZone d .disabled (fogCapOf s.zones d)
  let gone := (zoneAddrs s.zones.zones[i]).filter fun a => !(zoneAddrs z).contains a
  setZone i z (dropCommands gone s)

/-- R101: WRITE_ZONE. -/
def writeZone (args : List Byte) (s : State) : Answer :=
  match indexOf 24 (byteAt args 0) with
  | none => refuse .range s
  | some i =>
    if s.zones.zones[i].state = .enabled then refuse .state s
    else
      match zoneArgs args with
      | none => refuse .range s
      | some d =>
        match checkZoneAddrs i d s with
        | some st => refuse st s
        | none => done (loadZone i d s)

/-- R102: ENABLE_ZONE. -/
def enableZone (args : List Byte) (s : State) : Answer :=
  match indexOf 24 (byteAt args 0) with
  | none => refuse .range s
  | some i =>
    match s.zones.zones[i].state with
    | .unused => refuse .state s
    | .enabled => done s
    | .disabled => done (hand .reallocationRequest (setZone i { s.zones.zones[i] with state := .enabled } s))

/-- R103: DISABLE_ZONE. -/
def disableZone (args : List Byte) (s : State) : Answer :=
  match indexOf 24 (byteAt args 0) with
  | none => refuse .range s
  | some i =>
    match s.zones.zones[i].state with
    | .unused => refuse .state s
    | .disabled => done s
    | .enabled =>
      done (hand .reallocationRequest
        (setZone i (clearedZone s.zones.zones[i].defn .disabled s.zones.zones[i].fogCap) s))

/-! ### RESTART (R117) -/

/-- R117: a zone record as RESTART sets it, before the handings. -/
def restartedZone (z : Zone) : Zone := clearedZone z.defn z.state 1000

/-- R117: the Zone Controller as RESTART sets it, before the handings. -/
def restartedZones (u : ZoneController) : ZoneController :=
  { u with
    zones := mapTable (fun _ z => restartedZone z) u.zones
    capSet1 := fullCaps, capSet2 := fullCaps, grant := none, taken := 0, left := 0 }

/-! ### The commands -/

/-- CAP_HANDING (R106). -/
def execCapHanding (sheet : Sheet) (caps : Caps) (s : State) : Host.Outcome State Fault Refusal :=
  perform (fun s => applyCaps sheet caps (takeHanded (.capHanding sheet caps) s)) s

/-- WRITE_ZONE (R101). -/
def execWriteZone (slot : SlotIx) (s : State) : Host.Outcome State Fault Refusal :=
  performRequest .writeZone slot writeZone s

/-- ENABLE_ZONE (R102). -/
def execEnableZone (slot : SlotIx) (s : State) : Host.Outcome State Fault Refusal :=
  performRequest .enableZone slot enableZone s

/-- DISABLE_ZONE (R103). -/
def execDisableZone (slot : SlotIx) (s : State) : Host.Outcome State Fault Refusal :=
  performRequest .disableZone slot disableZone s

end Sys2Proof.Machine
end

