-- ==== Sys2Proof/Machine/FrameArrival.lean ====
section
/-! DEFINITION. Frames arriving at Line In: the frame test, the sequence test, stripping, forwarding, the rewriting of
COMMAND entries, the Request Stage; and the Line In timers (spec/01_the_plant_line.md, spec/09_management_requests.md,
spec/11_frame_and_record_formats.md). -/

namespace Sys2Proof.Machine

/-! ### Header fields (R193) -/

/-- Destination field. -/
def destOf (frame : List Byte) : Nat := byteAt frame 0

/-- Source field. -/
def sourceOf (frame : List Byte) : Nat := byteAt frame 1

/-- Kind field. -/
def kindOf (frame : List Byte) : Nat := byteAt frame 2

/-- Sequence field: bits 3 to 0 alone (R193). -/
def seqOf (frame : List Byte) : Nat := byteAt frame 3 % 16

/-- Payload length field. -/
def lengthOf (frame : List Byte) : Nat := byteAt frame 4

/-- Header and payload: the bytes the check sum covers. -/
def checkedPart (frame : List Byte) : List Byte := frame.take (5 + lengthOf frame)

/-- The payload. -/
def payloadOf (frame : List Byte) : List Byte := (checkedPart frame).drop 5

/-- R1: the frame is a good frame. -/
def goodFrame (frame : List Byte) : Bool :=
  5 ≤ frame.length && frame.length = lengthOf frame + 7 && lengthOf frame ≤ 48 && sourceOf frame ≤ Config.lastNode &&
    frame = withCrc (checkedPart frame)

/-! ### Line In state (R7, R8) -/

/-- R7: the effect of a good frame on Line In. -/
def lineActivity (s : State) : State :=
  if s.line.up then { s with line.silenceTimer := some Config.silenceMs }
  else
    offer .lineUp 0 (min (s.timeBase - s.line.downSince) 2147483647 : Nat)
      { s with
        line.up := true, line.silenceTimer := some Config.silenceMs, line.wakeTimer := none,
        line.wakePending := false }

/-- R7: the silence timer expires in UP, when it runs. -/
def silenceExpiry (s : State) : State :=
  match s.line.up, s.line.silenceTimer with
  | true, some _ =>
    offer .lineDown 0 (s.line.lineErrors : Nat)
      { s with
        line.up := false, line.silenceTimer := none, line.wakeTimer := some Config.wakeMs,
        line.downSince := s.timeBase }
  | true, none => s
  | false, _ => s

/-- R8: the wake timer expires while Line In is DOWN, when it runs: a WAKE frame is pending, and the timer runs on. -/
def wakeExpiry (s : State) : State :=
  match s.line.up, s.line.wakeTimer with
  | false, some _ => { s with line.wakePending := true, line.wakeTimer := some Config.wakeMs }
  | false, none => s
  | true, _ => s

/-! ### The sequence test (R5) -/

/-- R5: the frame with this sequence is a duplicate. -/
def isDuplicate (r : NodeRec) (seq : Nat) : Bool := r.seen && seq = r.last

/-- R5: what a frame that follows `last` adds to the missed count. -/
def missedBy (last seq : Nat) : Nat := (seq + 15 - last) % 16

/-- R5: the record after the sequence test of a frame. -/
def testedNode (r : NodeRec) (seq : Nat) : NodeRec :=
  if !r.seen then { r with seen := true, last := seq }
  else if seq = r.last then { r with dup := countUp 1 r.dup }
  else { r with missed := countUp (missedBy r.last seq) r.missed, last := seq }

/-! ### The Forward Buffer (R9, R10) -/

/-- R9: the Forward Buffer holds four frames. -/
def forwardFull (s : State) : Bool := Config.forwardCapacity ≤ s.line.forward.length

/-- R9: a frame enters the tail of the Forward Buffer. -/
def forwardFrame (frame : List Byte) (s : State) : State := { s with line.forward := s.line.forward ++ [frame] }

/-- R9, R10: a frame dropped for want of room: counted, and reported while the flag is armed. -/
def overrun (s : State) : State :=
  let n := countUp 1 s.line.overruns
  let t := { s with line.overruns := n }
  if s.line.overrunArmed then offer .forwardOverrun 0 (n : Nat) { t with line.overrunArmed := false } else t

/-- R1: a frame of an unknown kind is forwarded unchanged, or dropped when the buffer is full. -/
def forwardUnread (frame : List Byte) (s : State) : State :=
  if forwardFull s then overrun s else forwardFrame frame s

/-! ### COMMAND rewriting (R18 to R20) -/

/-- An entry as it is forwarded: its value, its GOVERNED flag, and the state its passing leaves. -/
structure Passed where
  value : Nat
  governed : Bool
  state : State

/-- R19: the value forwarded for a governed actuator. -/
def limited (arrived maximum allowed : Nat) : Nat := min (min arrived maximum) allowed

/-- R19: GOVERNED after the limit: set when the value was lowered, otherwise as it arrived. -/
def governedFlag (arrived forwarded : Nat) (flag : Bool) : Bool := decide (forwarded < arrived) || flag

/-- R19: a consumer record after a command has passed to its valve. -/
def passedConsumer (dup : Bool) (arrived : Nat) (c : Consumer) : Consumer :=
  { c with
    lastForwarded := limited arrived 10000 c.allowed
    requested := if dup then c.requested else min arrived 10000 }

/-- R18 to R20: an entry for a consumer's valve. -/
def passConsumer (i : ConsumerIx) (dup : Bool) (v : Nat) (flag : Bool) (s : State) : Passed :=
  let c := s.budget.consumers[i]
  match c.state, c.defn.handling with
  | .enabled, some .govern =>
    ⟨limited v 10000 c.allowed, governedFlag v (limited v 10000 c.allowed) flag,
      { s with budget.consumers := s.budget.consumers.set i (passedConsumer dup v c) }⟩
  | .enabled, some .drive => ⟨c.lastSent.getD 0, true, s⟩
  | .enabled, none => ⟨v, flag, s⟩
  | .disabled, _ => ⟨v, flag, s⟩
  | .unused, _ => ⟨v, flag, s⟩

/-- R105, R115: a zone record after a command has passed to its valve. -/
def passedValve (dup : Bool) (arrived : Nat) (z : Zone) : Zone :=
  let z' := { z with lastForwarded := limited arrived 10000 z.allowed }
  if dup then z' else requestedPosition (min arrived 10000) z'

/-- R115: an entry for a zone's valve. -/
def passValve (i : ZoneIx) (dup : Bool) (v : Nat) (flag : Bool) (s : State) : Passed :=
  let z := s.zones.zones[i]
  if z.state = .enabled then
    ⟨limited v 10000 z.allowed, governedFlag v (limited v 10000 z.allowed) flag, setZone i (passedValve dup v z) s⟩
  else ⟨v, flag, s⟩

/-- R105, R115: a zone record after a command has passed to its boost actuator. -/
def passedBoost (dup : Bool) (arrived : Nat) (z : Zone) : Zone :=
  { z with
    lastStages := limited arrived z.defn.stageCount z.allowedStages
    reqStages := if dup then z.reqStages else min arrived z.defn.stageCount }

/-- R115: an entry for a zone's boost actuator. -/
def passBoost (i : ZoneIx) (dup : Bool) (v : Nat) (flag : Bool) (s : State) : Passed :=
  let z := s.zones.zones[i]
  if z.state = .enabled then
    ⟨limited v z.defn.stageCount z.allowedStages,
      governedFlag v (limited v z.defn.stageCount z.allowedStages) flag, setZone i (passedBoost dup v z) s⟩
  else ⟨v, flag, s⟩

/-- R20: an entry for a group's dimmer. -/
def passDimmer (i : GroupIx) (v : Nat) (flag : Bool) (s : State) : Passed :=
  let g := s.scene.groups[i]
  if g.state = .enabled then ⟨g.level, true, s⟩ else ⟨v, flag, s⟩

/-- R18: the address an entry is for; a frame for 63 or above matches no address. -/
def entryOwner (s : State) (dest channel : Nat) : Option ActOwner :=
  if Config.broadcast ≤ dest then none else ownerOf s ⟨dest, channel⟩

/-- R18: one entry of a COMMAND frame that is to be forwarded. -/
def passEntry (dest channel : Nat) (dup : Bool) (v : Nat) (flag : Bool) (s : State) : Passed :=
  match entryOwner s dest channel with
  | none => ⟨v, flag, s⟩
  | some (.consumer i) => passConsumer i dup v flag s
  | some (.zoneValve i) => passValve i dup v flag s
  | some (.zoneBoost i) => passBoost i dup v flag s
  | some (.group i) => passDimmer i v flag s

/-- An entry's first byte with bit 7 written and bits 6 to 0 as they arrived (chapter 11.2). -/
def flagByte (b : Byte) (governed : Bool) : Byte := BitVec.ofNat 8 (b.toNat % 128 + bit 7 governed)

/-- R18: the entries of a COMMAND payload, in payload order: the payload forwarded, and the state left. -/
def rewriteEntries (dest : Nat) (dup : Bool) : List Byte → State → List Byte × State
  | b :: hi :: lo :: rest, s =>
    let p := passEntry dest (b.toNat % 16) dup (hi.toNat * 256 + lo.toNat) (b.getLsbD 7) s
    let r := rewriteEntries dest dup rest p.state
    (flagByte b p.governed :: (u16 p.value ++ r.1), r.2)
  | bs, s => (bs, s)

/-- R18: the frame with its payload rewritten; the check sum is computed anew when the payload has changed. -/
def rewrittenFrame (frame payload : List Byte) : List Byte :=
  if payload = payloadOf frame then frame else withCrc (frame.take 5 ++ payload)

/-- R3, R18: a COMMAND frame that has room: its entries are rewritten and it enters the Forward Buffer. -/
def passCommand (frame : List Byte) (dup : Bool) (s : State) : State :=
  let r := rewriteEntries (destOf frame) dup (payloadOf frame) s
  forwardFrame (rewrittenFrame frame r.1) r.2

/-! ### The Request Stage (R21, R174, R175) -/

/-- R174: the slot a request takes: a FREE one, slot 0 before slot 1 (log entry 11). -/
def freeSlot (u : Responder) : Option SlotIx :=
  if u.slot0 = .free then some 0 else if u.slot1 = .free then some 1 else none

/-- The slot holds a CHECKED request. -/
def isChecked : SlotState → Bool
  | .checked _ => true
  | .free => false
  | .replying => false

/-- R176: the slot whose CHECKED request is the earlier, once this one is CHECKED too. -/
def firstChecked (slot : SlotIx) (u : Responder) : SlotIx :=
  if isChecked (slotOf u (otherSlot slot)) then otherSlot slot else slot

/-- R177: the request code of a payload; 0 when it is missing, which R177 says of a BAD_FORMAT answer, and log entry 31 of
a BUSY one. -/
def codeByte (payload : List Byte) : Byte := payload.getD 0 0

/-- R177: the handle of a payload; 0 when it is missing, as with the code (log entry 31). -/
def handleByte (payload : List Byte) : Byte := payload.getD 1 0

/-- R174: a request that passed the checks: its slot goes to CHECKED and it is handed to its owner. -/
def stageRequest (slot : SlotIx) (source : Nat) (payload : List Byte) (r : Req) (s : State) : State :=
  let first := firstChecked slot s.responder
  hand (takeCommand r slot)
    (setSlot slot (.checked ⟨source, codeByte payload, handleByte payload, payload.drop 2⟩)
      { s with responder.first := first })

/-- R174, R175: a request takes a slot and is checked there. -/
def checkIn (slot : SlotIx) (source : Nat) (payload : List Byte) (s : State) : State :=
  match checkRequest (nodeRec s.line source).rights payload with
  | .refuse st => placeReply slot source (replyPayload (codeByte payload) (handleByte payload) st []) false s
  | .pass r => stageRequest slot source payload r s

/-- An entry of the Command Queue is a BUSY reply. -/
def isBusy : QueueEntry → Bool
  | .busy _ _ => true
  | .actuator _ _ => false
  | .reply _ _ _ _ => false

/-- R21: both slots held: answered BUSY, or discarded and counted when six BUSY replies are pending. DESIGN CHOICE: a
code or a handle that the payload is too short to hold is echoed as 0 (log entry 31). -/
def answerBusy (source : Nat) (payload : List Byte) (s : State) : State :=
  if (s.line.queue.filter isBusy).length < Config.busyCapacity then
    queueEntry (.busy source (replyPayload (codeByte payload) (handleByte payload) .busy [])) s
  else { s with line.drops := countUp 1 s.line.drops }

/-- R21: a MANAGE frame addressed to the part, not a duplicate, is offered to the Request Stage. -/
def offerRequest (source : Nat) (payload : List Byte) (s : State) : State :=
  match freeSlot s.responder with
  | some slot => checkIn slot source payload s
  | none => answerBusy source payload s

/-! ### Dispatch (R2, R3, R6) -/

/-- R193: the payload length is one the SAMPLE row of chapter 11.1 allows. -/
def sampleLength (n : Nat) : Bool := 3 ≤ n && n ≤ 24 && n % 3 = 0

/-- R193: the payload length is one the COMMAND row of chapter 11.1 allows. -/
def commandLength (n : Nat) : Bool := 3 ≤ n && n ≤ 12 && n % 3 = 0

/-- R3, R6: a SAMPLE frame that has room. -/
def passSample (frame : List Byte) (dup : Bool) (s : State) : State :=
  forwardFrame frame (if dup then s else sampleEntries (sourceOf frame) (payloadOf frame) s)

/-- R3: a frame of a known kind that is to be forwarded. -/
def dispatchForward (frame : List Byte) (dup : Bool) (s : State) : State :=
  if forwardFull s then overrun s
  else if kindOf frame = kindSample ∧ sampleLength (lengthOf frame) then passSample frame dup s
  else if kindOf frame = kindCommand ∧ commandLength (lengthOf frame) then passCommand frame dup s
  else forwardFrame frame s

/-- R3, R6: a frame of a known kind from another node, after the sequence test. -/
def dispatch (frame : List Byte) (dup : Bool) (s : State) : State :=
  if kindOf frame = kindManage ∧ destOf frame = s.line.own then
    if dup then s else offerRequest (sourceOf frame) (payloadOf frame) s
  else dispatchForward frame dup s

/-- R3, R5: the sequence test of a frame, then its dispatch. -/
def takeKnown (frame : List Byte) (s : State) : State :=
  let r := nodeRec s.line (sourceOf frame)
  dispatch frame (isDuplicate r (seqOf frame)) (setNode (sourceOf frame) (testedNode r (seqOf frame)) s)

/-- R2, R3: a good frame, after its effect on Line In: stripped, forwarded unread, or taken by its kind. A frame that
carries the part's own source is stripped whatever its kind (log entry 12). -/
def takeGood (frame : List Byte) (s : State) : State :=
  if sourceOf frame = s.line.own then s
  else if knownKind (kindOf frame) then takeKnown frame s
  else forwardUnread frame s

/-- R1: a frame arrives at Line In. While the relay is released the ring passes the part by, and no frame reaches it
(R22, log entry 6). -/
def arrive (frame : List Byte) (s : State) : State :=
  if !s.line.relay then s
  else if goodFrame frame then takeGood frame (lineActivity s)
  else { s with line.lineErrors := countUp 1 s.line.lineErrors }

/-! ### The commands -/

/-- FRAME_ARRIVAL (R1). -/
def execFrameArrival (bytes : List Byte) (s : State) : Host.Outcome State Fault Refusal :=
  perform (arrive bytes) s

/-- SILENCE_TIMER_EXPIRY (R7). -/
def execSilenceTimerExpiry (s : State) : Host.Outcome State Fault Refusal :=
  perform silenceExpiry s

/-- WAKE_TIMER_EXPIRY (R8). -/
def execWakeTimerExpiry (s : State) : Host.Outcome State Fault Refusal :=
  perform wakeExpiry s

end Sys2Proof.Machine
end

