-- ==== Sys2Proof/Machine/Budget.lean ====
section
/-! DEFINITION. The Budget Unit: recovered heat, demands, the allocation operation, positions and commands, the electric
share, and the budget requests (spec/03_recovered_heat_and_electric_demand.md). The result layouts of READ_BUDGET are in
Machine/Results.lean. -/

namespace Sys2Proof.Machine

/-- The consumer indices in ascending order. -/
def consumerOrder : List ConsumerIx := List.finRange 8

/-- A consumer record replaced. -/
def setConsumer (i : ConsumerIx) (c : Consumer) (s : State) : State :=
  { s with budget.consumers := s.budget.consumers.set i c }

/-! ### The electric share (R75, R76) -/

/-- R75: the fan power one consumer adds: an ENABLED REGEN consumer whose grant is above 0. -/
def fanOf (c : Consumer) : Nat :=
  if c.state = .enabled ∧ c.defn.kind = .regen ∧ 0 < c.grant then c.defn.fan else 0

/-- R75: the fan power now. -/
def fanPowerNow (u : BudgetUnit) : Nat := (u.consumers.toList.map fanOf).sum

/-- R75, R76: the figures of a recomputation under this ceiling. -/
def electricFigures (eMax : Nat) (u : BudgetUnit) : BudgetUnit :=
  { u with
    fanPower := fanPowerNow u
    allowance := eMax - (u.load + fanPowerNow u)
    overDemand := eMax < u.load + fanPowerNow u }

/-- R76: the notice of a change of OVER_DEMAND between two figures. -/
def overDemandNotice (before after : BudgetUnit) (s : State) : State :=
  if after.overDemand && !before.overDemand then offer .overDemandOn 0 (after.load + after.fanPower : Nat) s
  else if before.overDemand && !after.overDemand then offer .overDemandOff 0 (after.load + after.fanPower : Nat) s
  else s

/-- R75, R76: the electric share is recomputed, and A is handed to the Zone Controller, which distributes boost stages
under it at the same event (R113). -/
def recomputeElectric (s : State) : State :=
  let u := electricFigures (profileInForce s).eMax s.budget
  distributeBoost u.allowance (overDemandNotice s.budget u { s with budget := u })

/-- R76, R77: the recomputation RESTART makes offers no notice. -/
def recomputeElectricSilently (s : State) : State :=
  let u := electricFigures (profileInForce s).eMax s.budget
  distributeBoost u.allowance { s with budget := u }

/-! ### The allocation start (R64 to R66) -/

/-- R66: what is captured of one consumer. -/
def captureConsumer (s : State) (c : Consumer) : Option ConsumerCapture :=
  if c.state = .enabled then some ⟨c.defn, readAs s .temperature c.defn.tempPoint, c.requested⟩ else none

/-- R66: a reading not taken, while the settings are unloaded. -/
def noReading : Reading := ⟨0, .none⟩

/-- R66: the inputs an allocation captures at its start. -/
def captureInputs (s : State) : Capture where
  settings := s.budget.settings
  supply := match s.budget.settings with
    | some r => readAs s .temperature r.supply
    | none => noReading
  ret := match s.budget.settings with
    | some r => readAs s .temperature r.ret
    | none => noReading
  flow := match s.budget.settings with
    | some r => readAs s .flow r.flow
    | none => noReading
  reserve := (profileInForce s).reserve
  capScale := (profileInForce s).capScale
  consumers := s.budget.consumers.map (captureConsumer s)
  fog1 := fogOf s .one
  fog2 := fogOf s .two
  zoneDemand := zoneAggregate s

/-- R66: the taking-part mark of every ENABLED consumer is set. -/
def markTakingPart (c : Consumer) : Consumer := { c with takingPart := c.state = .enabled }

/-- R64, R66: an allocation starts: the inputs are captured, the marks set, and the period timer restarted with the
period of the mode profile in force. -/
def startAllocation (s : State) : State :=
  { s with
    budget.allocation := some (captureInputs s)
    budget.consumers := s.budget.consumers.map markTakingPart
    budget.periodTimer := some ((profileInForce s).period * 1000) }

/-- R65: a reallocation request starts an allocation in IDLE and sets the pending flag in ALLOCATING. -/
def requestAllocation (s : State) : State :=
  match s.budget.allocation with
  | none => startAllocation s
  | some _ => { s with budget.pendingFlag := true }

/-- R64: the allocation period timer expires, when it runs; in ALLOCATING it is a reallocation request. DESIGN CHOICE: it
then stands stopped until the next start restarts it (log entry 25). -/
def allocationPeriod (s : State) : State :=
  match s.budget.periodTimer with
  | none => s
  | some _ => requestAllocation { s with budget.periodTimer := none }

/-! ### Demands (R60 to R63) -/

/-- R60: the demand of a SUBSOIL consumer for a reading of its temperature point. -/
def subsoilDemand (d : ConsumerDef) (t : Reading) : Nat :=
  if t.quality = .none then d.cap
  else if d.setpoint ≤ t.value then d.floor
  else if t.value ≤ d.setpoint - d.band then d.cap
  else d.floor + (d.cap - d.floor) * (d.setpoint - t.value).toNat / d.band

/-- R61: the value of the demand-per-fog-state table. -/
def regenDemand (d : ConsumerDef) : FogState → Nat
  | .clear => d.demandClear
  | .watch => d.demandWatch
  | .fog => d.demandFog
  | .recover => d.demandRecover

/-- R61: the captured fog state of a consumer's sheet; CLEAR for a consumer of no sheet. -/
def capturedFog (c : Capture) (d : ConsumerDef) : FogState :=
  match d.sheet with
  | some .one => c.fog1
  | some .two => c.fog2
  | none => .clear

/-- R60 to R63: the demand of a captured consumer. -/
def demandOf (c : Capture) (k : ConsumerCapture) : Nat :=
  match k.defn.kind with
  | .subsoil => subsoilDemand k.defn k.temp
  | .regen => regenDemand k.defn (capturedFog c k.defn)
  | .spectator => c.zoneDemand
  | .preheat => k.requested * k.defn.design / 10000
  | .general => k.requested * k.defn.design / 10000

/-- R60 to R63: the effective cap; the mode's scale applies to SPECTATOR (R62). -/
def effectiveCap (c : Capture) (k : ConsumerCapture) : Nat :=
  if k.defn.kind = .spectator then k.defn.cap * c.capScale / 1000 else k.defn.cap

/-- R61: the effective class; a REGEN whose sheet was captured in FOG or RECOVER is served in class 0. -/
def effectiveClass (c : Capture) (k : ConsumerCapture) : Nat :=
  if k.defn.kind = .regen ∧ (capturedFog c k.defn = .fog ∨ capturedFog c k.defn = .recover) then 0 else k.defn.cls

/-- R68: the effective demand. -/
def effectiveDemand (c : Capture) (k : ConsumerCapture) : Nat := min (demandOf c k) (effectiveCap c k)

/-- R68: the floor part. -/
def floorPart (c : Capture) (k : ConsumerCapture) : Nat := min k.defn.floor (effectiveDemand c k)

/-- A figure of each captured consumer, in index order; 0 for one not captured. -/
def figures (c : Capture) (f : ConsumerCapture → Nat) : List Nat :=
  c.consumers.toList.map fun k =>
    match k with
    | some k => f k
    | none => 0

/-- R68 to R70: the grants of an allocation over the captured consumers. -/
def grantsOf (c : Capture) (usable : Nat) : List Nat :=
  divideHeat usable (figures c (effectiveClass c)) (figures c (·.defn.weight)) (figures c (floorPart c))
    (figures c (effectiveDemand c))

/-! ### Recovered heat of an allocation (R51 to R54) -/

/-- R51: the qualities of the three recovery points. -/
def recoveryQualities (c : Capture) : List Quality := [c.supply.quality, c.ret.quality, c.flow.quality]

/-- R51: INPUT_LOST of an allocation; clear while the settings are unloaded. -/
def heatInputLost (c : Capture) : Bool := c.settings.isSome && (recoveryQualities c).contains .none

/-- R51: DEGRADED of an allocation. DESIGN CHOICE: clear where a quality is NONE (log entry 24). -/
def heatDegraded (c : Capture) : Bool :=
  c.settings.isSome && !(recoveryQualities c).contains .none &&
    ((recoveryQualities c).contains .held || (recoveryQualities c).contains .substituted)

/-- R51: the value of a HEAT_INPUT_LOST notice. -/
def heatLostValue (c : Capture) : Nat :=
  (if c.supply.quality = .none then 1 else 0) + (if c.ret.quality = .none then 2 else 0)
    + (if c.flow.quality = .none then 4 else 0)

/-- R51, R52: the recovered heat Q of an allocation. -/
def heatOf (c : Capture) : Nat :=
  match c.settings with
  | none => 0
  | some r =>
    if heatInputLost c then 0 else recoveredHeat c.flow.value r.fluid c.supply.value c.ret.value

/-- The smoothing shift of an allocation; 0 while the settings are unloaded (R50). -/
def shiftOf (c : Capture) : Nat :=
  match c.settings with
  | none => 0
  | some r => r.shift

/-- R53: Qf after the allocation. -/
def smoothedAfter (c : Capture) (qf : Nat) : Nat := smoothHeat (shiftOf c) (heatOf c) qf

/-- R54: usable heat U of an allocation. -/
def usableAfter (c : Capture) (qf : Nat) : Nat := smoothedAfter c qf - c.reserve

/-! ### The completion (R67, R70 to R74) -/

/-- R70, R71: the result published for a consumer that took part. -/
def grantedConsumer (c : Capture) (k : ConsumerCapture) (grant : Nat) (r : Consumer) : Consumer :=
  { r with
    demand := demandOf c k
    effCap := effectiveCap c k
    effDemand := effectiveDemand c k
    effClass := effectiveClass c k
    grant := grant
    allowed := if k.defn.handling.isSome then positionOf grant k.defn.design else r.allowed }

/-- R67, R70: a consumer record at a completion: only one whose mark is still set receives its result. -/
def completedConsumer (c : Capture) (grants : List Nat) (i : Nat) (r : Consumer) : Consumer :=
  if r.takingPart then
    match c.consumers.toList.getD i none with
    | some k => grantedConsumer c k (grants.getD i 0) r
    | none => r
  else r

/-- R51, R53, R54, R70: the figures and records published at a completion. -/
def publishedBudget (c : Capture) (u : BudgetUnit) : BudgetUnit :=
  let usable := usableAfter c u.smoothed
  let grants := grantsOf c usable
  { u with
    rawHeat := heatOf c
    smoothed := smoothedAfter c u.smoothed
    reserveUsed := c.reserve
    usable := usable
    inputLost := heatInputLost c
    degraded := heatDegraded c
    consumers := mapTable (completedConsumer c grants) u.consumers }

/-- R72: a DRIVE consumer's valve: a command and a settling start when the position changed. -/
def driveValve (i : ConsumerIx) (r : Consumer) (a : ActAddr) (s : State) : State :=
  if r.lastSent = some r.allowed then s
  else
    let s := setConsumer i { r with lastSent := some r.allowed } (queueCommand a r.allowed s)
    match r.defn.settlePoint with
    | some p => settleStart p s
    | none => s

/-- R73: a GOVERN consumer's valve: a corrective command when the position fell below the last forwarded one. -/
def governValve (i : ConsumerIx) (r : Consumer) (a : ActAddr) (s : State) : State :=
  if r.allowed < r.lastForwarded then
    setConsumer i { r with lastForwarded := r.allowed } (queueCommand a r.allowed s)
  else s

/-- R72, R73: the command of one consumer at a completion that applies to it. -/
def commandConsumer (s : State) (i : ConsumerIx) : State :=
  let r := s.budget.consumers[i]
  if r.takingPart then
    match r.defn.handling, r.defn.addr with
    | some .drive, some a => driveValve i r a s
    | some .govern, some a => governValve i r a s
    | some .drive, none => s
    | some .govern, none => s
    | none, _ => s
  else s

/-- R74: the consumer is a SPECTATOR that took part and kept its mark. -/
def isSpectatorResult (r : Consumer) : Bool := r.takingPart && r.defn.kind = .spectator

/-- R74: the spectator grant handed to the Zone Controller. -/
def spectatorGrant (u : BudgetUnit) : Option Nat :=
  (findIx isSpectatorResult u.consumers).map fun i => u.consumers[i].grant

/-- The marks are cleared when the results have been applied. -/
def unmarked (r : Consumer) : Consumer := { r with takingPart := false }

/-- R65: after a completion a set pending flag is cleared and starts a new allocation at once; otherwise IDLE. -/
def nextAllocation (s : State) : State :=
  let s := { s with budget.allocation := none, budget.consumers := s.budget.consumers.map unmarked }
  if s.budget.pendingFlag then startAllocation { s with budget.pendingFlag := false } else s

/-- R51: HEAT_INPUT_LOST is offered where the flag goes from clear to set. -/
def heatLostNotice (c : Capture) (before : BudgetUnit) (s : State) : State :=
  if heatInputLost c && !before.inputLost then offer .heatInputLost 0 (heatLostValue c : Nat) s else s

/-- R70: the completion of an allocation over its capture. DESIGN CHOICE: the commands of the consumers are queued before
those of the zones (log entry 26). -/
def completeWith (c : Capture) (s : State) : State :=
  let s1 := heatLostNotice c s.budget { s with budget := publishedBudget c s.budget }
  let s2 := consumerOrder.foldl commandConsumer s1
  let s3 := splitGrant (spectatorGrant s2.budget) s2
  nextAllocation (recomputeElectric s3)

/-- R70: an allocation completes, when one is in flight. -/
def completeAllocation (s : State) : State :=
  match s.budget.allocation with
  | none => s
  | some c => completeWith c s

/-! ### Lighting load update (R75) -/

/-- R75: the load L becomes the value reported, and the share is recomputed. -/
def updateLoad (load : Nat) (s : State) : State := recomputeElectric { s with budget.load := load }

/-! ### Budget requests (R50, R56 to R58) -/

/-- R50: WRITE_RECOVERY. -/
def writeRecovery (args : List Byte) (s : State) : Answer :=
  match recoveryArgs args with
  | none => refuse .range s
  | some r =>
    if namesPoint s .temperature r.supply && namesPoint s .temperature r.ret && namesPoint s .flow r.flow then
      done (hand .reallocationRequest { s with budget.settings := some r })
    else refuse .range s

/-- R56: another non-UNUSED record is of a kind that may be held once: SUBSOIL or REGEN of the sheet, or SPECTATOR. -/
def sameKindHeld (d : ConsumerDef) (c : Consumer) : Bool :=
  c.state != .unused && c.defn.kind = d.kind && c.defn.sheet = d.sheet &&
    (d.kind = .subsoil || d.kind = .regen || d.kind = .spectator)

/-- R56: the third check fails. -/
def kindTaken (i : ConsumerIx) (d : ConsumerDef) (s : State) : Bool :=
  (indicesWhere (sameKindHeld d) s.budget.consumers).any fun k => k != i.val

/-- The owner is the consumer record i. -/
def mineConsumer (i : ConsumerIx) : ActOwner → Bool
  | .consumer k => k = i
  | .zoneValve _ => false
  | .zoneBoost _ => false
  | .group _ => false

/-- R17: the check of a consumer's address, when its kind has one. -/
def checkConsumerAddr (i : ConsumerIx) (d : ConsumerDef) (s : State) : Option Status :=
  match d.addr with
  | some a => checkAddr s (mineConsumer i) a
  | none => none

/-- The addresses a loaded consumer record holds. -/
def consumerAddrs (c : Consumer) : List ActAddr := if c.state = .unused then [] else c.defn.addr.toList

/-- R56, R17: a consumer definition loaded. -/
def loadConsumer (i : ConsumerIx) (d : ConsumerDef) (s : State) : State :=
  let gone := (consumerAddrs s.budget.consumers[i]).filter fun a => !d.addr.toList.contains a
  setConsumer i (clearedConsumer d .disabled) (dropCommands gone s)

/-- R56: WRITE_CONSUMER. R67, R176: a write that is taken raises a reallocation request; R65 does not list it (DEDUCED,
log entry 32). -/
def writeConsumer (args : List Byte) (s : State) : Answer :=
  match indexOf 8 (byteAt args 0) with
  | none => refuse .range s
  | some i =>
    if s.budget.consumers[i].state = .enabled then refuse .state s
    else
      match consumerArgs args with
      | none => refuse .range s
      | some d =>
        if kindTaken i d s then refuse .conflict s
        else
          match checkConsumerAddr i d s with
          | some st => refuse st s
          | none => done (hand .reallocationRequest (loadConsumer i d s))

/-- R57: ENABLE_CONSUMER. -/
def enableConsumer (args : List Byte) (s : State) : Answer :=
  match indexOf 8 (byteAt args 0) with
  | none => refuse .range s
  | some i =>
    match s.budget.consumers[i].state with
    | .unused => refuse .state s
    | .enabled => done s
    | .disabled =>
      done (hand .reallocationRequest (setConsumer i { s.budget.consumers[i] with state := .enabled } s))

/-- R58: a consumer record disabled. -/
def disabledConsumer (c : Consumer) : Consumer :=
  { c with
    state := .disabled, grant := 0, allowed := 0, demand := 0, effCap := 0, effDemand := 0, takingPart := false,
    lastSent := none, requested := 0, lastForwarded := 0 }

/-- R58: DISABLE_CONSUMER. -/
def disableConsumer (args : List Byte) (s : State) : Answer :=
  match indexOf 8 (byteAt args 0) with
  | none => refuse .range s
  | some i =>
    match s.budget.consumers[i].state with
    | .unused => refuse .state s
    | .disabled => done s
    | .enabled => done (hand .reallocationRequest (setConsumer i (disabledConsumer s.budget.consumers[i]) s))

/-! ### RESTART (R77) -/

/-- R77: the Budget Unit as RESTART sets it, before the electric recomputation. -/
def restartedBudget (period : Nat) (u : BudgetUnit) : BudgetUnit :=
  { u with
    rawHeat := 0, smoothed := 0, reserveUsed := 0, usable := 0, inputLost := false, degraded := false
    consumers := u.consumers.map fun c => clearedConsumer c.defn c.state
    allocation := none, pendingFlag := false, periodTimer := some (period * 1000) }

/-! ### The commands -/

/-- ALLOCATION_PERIOD_EXPIRY (R64). -/
def execAllocationPeriodExpiry (s : State) : Host.Outcome State Fault Refusal :=
  perform allocationPeriod s

/-- REALLOCATION_REQUEST (R65). -/
def execReallocationRequest (s : State) : Host.Outcome State Fault Refusal :=
  perform (fun s => requestAllocation (takeHanded .reallocationRequest s)) s

/-- ALLOCATION_COMPLETION (R70). -/
def execAllocationCompletion (s : State) : Host.Outcome State Fault Refusal :=
  perform completeAllocation s

/-- ELECTRIC_RECOMPUTE (R75). -/
def execElectricRecompute (s : State) : Host.Outcome State Fault Refusal :=
  perform (fun s => recomputeElectric (takeHanded .electricRecompute s)) s

/-- LIGHTING_LOAD_UPDATE (R75). -/
def execLightingLoadUpdate (load : Nat) (s : State) : Host.Outcome State Fault Refusal :=
  perform (fun s => updateLoad load (takeHanded (.lightingLoadUpdate load) s)) s

/-- WRITE_RECOVERY (R50). -/
def execWriteRecovery (slot : SlotIx) (s : State) : Host.Outcome State Fault Refusal :=
  performRequest .writeRecovery slot writeRecovery s

/-- WRITE_CONSUMER (R56). -/
def execWriteConsumer (slot : SlotIx) (s : State) : Host.Outcome State Fault Refusal :=
  performRequest .writeConsumer slot writeConsumer s

/-- ENABLE_CONSUMER (R57). -/
def execEnableConsumer (slot : SlotIx) (s : State) : Host.Outcome State Fault Refusal :=
  performRequest .enableConsumer slot enableConsumer s

/-- DISABLE_CONSUMER (R58). -/
def execDisableConsumer (slot : SlotIx) (s : State) : Host.Outcome State Fault Refusal :=
  performRequest .disableConsumer slot disableConsumer s

end Sys2Proof.Machine
end

