-- ==== Sys2Proof/Machine/Fog.lean ====
section
/-! DEFINITION. The Fog Monitor: the Dew Table, the sheet records, the computation, the fog states, covering, and the fog
requests (spec/04_fog_monitor.md). The result layouts of READ_SHEET are in Machine/Results.lean. -/

namespace Sys2Proof.Machine

/-! ### Transitions (R93, R94, R96) -/

/-- R93: the value of a FOG_STATE notice. -/
def fogNoticeValue (left entered : FogState) : Nat := 4 * fogCode left + fogCode entered

/-- R96: the caps of a sheet for its fog state now are handed to the Zone Controller. -/
def handCaps (sh : Sheet) (s : State) : State := hand (.capHanding sh (capsInForce s sh)) s

/-- R94: a transition out of CLEAR hands the Scene Unit a haze cut. -/
def handCut (sh : Sheet) (left : FogState) (s : State) : State :=
  if left = .clear then hand (.hazeCut sh) s else s

/-- R93, R94: the new fog state of a sheet stands, and the FOG_STATE notice, the caps of the new state and, when the
state left is CLEAR, a haze cut are handed. The reallocation request is the caller's (R93, last paragraph). -/
def fogTransition (sh : Sheet) (entered : FogState) (s : State) : State :=
  let r := sheetRec s.fog sh
  handCut sh r.fog
    (handCaps sh
      (offer .fogState (sheetNumber sh) (fogNoticeValue r.fog entered : Nat) (setSheet sh { r with fog := entered } s)))

/-- R93: a transition by computation or by the recover timer raises a reallocation request too. -/
def fogTransitionAlone (sh : Sheet) (entered : FogState) (s : State) : State :=
  hand .reallocationRequest (fogTransition sh entered s)

/-! ### The computation (R86 to R91) -/

/-- R86: the readings of the four main points. -/
def mainReadings (s : State) (d : SheetDef) : List Reading :=
  [readAs s .temperature d.ice, readAs s .temperature d.near, readAs s .temperature d.air,
    readAs s .humidity d.humidity]

/-- R86: at least one of the readings has this quality. -/
def anyQuality (q : Quality) (rs : List Reading) : Bool := rs.any fun r => r.quality = q

/-- R90: the haze value, when the haze term is valid. -/
def hazeTerm (s : State) (d : SheetDef) : Option Nat :=
  match d.haze with
  | none => none
  | some i =>
    if s.points[i].state = .fresh ∧ s.points[i].defn.cls = .haze then some (presentedValue s i).toNat else none

/-- R86 to R90: the sheet's figures and flags after a computation that was made. -/
def computedSheet (s : State) (r : SheetRec) : SheetRec :=
  let d := r.defn
  let ice := presentedValue s d.ice
  let near := presentedValue s d.near
  let air := presentedValue s d.air
  let e := vapourPressure s.fog.dew air (presentedValue s d.humidity)
  let dew := dewPointOf s.fog.dew e
  let mix := mixingOf d.k ice near
  let haze := hazeTerm s d
  { r with
    dewPoint := dew
    mixing := mix
    margin := mix - dew
    hazeValue := haze.getD r.hazeValue
    inputLost := false
    degraded := anyQuality .held (mainReadings s d) || anyQuality .substituted (mainReadings s d)
    airLimit := airLimitFlag air
    dewLow := dewLowFlag s.fog.dew e
    dewHigh := dewHighFlag s.fog.dew e
    hazeValid := haze.isSome }

/-- R91: the fog condition. -/
def fogCondition (r : SheetRec) : Bool :=
  r.margin < r.defn.fogMargin || (r.hazeValid && r.defn.hazeLimit < r.hazeValue)

/-- R91: the haze is clear. -/
def hazeIsClear (r : SheetRec) : Bool := !r.hazeValid || r.hazeValue ≤ r.defn.hazeClear

/-- R91: the state an evaluation gives. -/
def evaluatedFog (r : SheetRec) : FogState :=
  match r.fog with
  | .clear => if fogCondition r then .fog else if r.margin < r.defn.watchMargin then .watch else .clear
  | .watch =>
    if fogCondition r then .fog
    else if r.defn.watchMargin + r.defn.hysteresis ≤ r.margin then .clear
    else .watch
  | .fog =>
    if r.defn.fogMargin + r.defn.hysteresis ≤ r.margin ∧ hazeIsClear r then .recover else .fog
  | .recover => if fogCondition r then .fog else .recover

/-- R91, R92: the recover timer after an evaluation that moves the state. -/
def recoverTimerAfter (r : SheetRec) (entered : FogState) : Option Nat :=
  match r.fog, entered with
  | .fog, .recover => some (r.defn.recoverTime * 1000)
  | .recover, .fog => none
  | .clear, _ => r.recoverTimer
  | .watch, _ => r.recoverTimer
  | .fog, _ => r.recoverTimer
  | .recover, _ => r.recoverTimer

/-- R91: the fog state is evaluated; a change of state is a transition. -/
def evaluateFog (sh : Sheet) (s : State) : State :=
  let r := sheetRec s.fog sh
  let next := evaluatedFog r
  if next = r.fog then s
  else fogTransitionAlone sh next (setSheet sh { r with recoverTimer := recoverTimerAfter r next } s)

/-- R86: a computation skipped for a lost input: a fog state of CLEAR moves to WATCH, any other is held. -/
def loseInput (sh : Sheet) (s : State) : State :=
  let r := sheetRec s.fog sh
  let s := setSheet sh { r with inputLost := true, degraded := false } s
  if r.fog = .clear then fogTransitionAlone sh .watch s else s

/-- R85, R86: the computation and the evaluation of an uncovered sheet. -/
def computeFog (sh : Sheet) (s : State) : State :=
  let r := sheetRec s.fog sh
  if anyQuality .none (mainReadings s r.defn) then loseInput sh s
  else evaluateFog sh (setSheet sh (computedSheet s r) s)

/-- R85: the fog period timer of a sheet expires, when the record is ENABLED and the timer runs; it runs on. -/
def fogPeriod (sh : Sheet) (s : State) : State :=
  let r := sheetRec s.fog sh
  match r.state, r.fogTimer with
  | .enabled, some _ =>
    let s := setSheet sh { r with fogTimer := some (r.defn.fogPeriod * 1000) } s
    if covered s sh then s else computeFog sh s
  | .enabled, none => s
  | .disabled, _ => s
  | .unused, _ => s

/-- R92: the recover timer of a sheet expires, when it runs: RECOVER moves to CLEAR. -/
def recoverExpiry (sh : Sheet) (s : State) : State :=
  let r := sheetRec s.fog sh
  match r.recoverTimer with
  | none => s
  | some _ =>
    let s := setSheet sh { r with recoverTimer := none } s
    if r.fog = .recover then fogTransitionAlone sh .clear s else s

/-! ### Covering (R97, R98) -/

/-- R97: the Fog Monitor takes a cover: the recover timer is stopped, a state other than CLEAR moves to CLEAR, and the
caps for CLEAR are handed in every case. -/
def coverFog (sh : Sheet) (s : State) : State :=
  let s := setSheet sh { sheetRec s.fog sh with recoverTimer := none } s
  if fogOf s sh = .clear then handCaps sh s else fogTransition sh .clear s

/-- R98: the Fog Monitor takes an uncover: an ENABLED sheet moves from CLEAR to WATCH; for any other the caps for CLEAR
are handed. -/
def uncoverFog (sh : Sheet) (s : State) : State :=
  if (sheetRec s.fog sh).state = .enabled then fogTransition sh .watch s else handCaps sh s

/-! ### Fog requests (R79, R81 to R83, R96) -/

/-- R78: the table is valid when all four loaded flags are set. -/
def dewValid (u : FogMonitor) : Bool := u.loaded.toList.all id

/-- A sheet record is ENABLED. -/
def anySheetEnabled (u : FogMonitor) : Bool := u.sheet1.state = .enabled || u.sheet2.state = .enabled

/-- R79: the entries fit the loaded neighbours of segment g. -/
def dewFits (u : FogMonitor) (g : Nat) (es : List Nat) : Bool :=
  (g = 0 || !u.loaded.toList.getD (g - 1) false || dewEntry u.dew (16 * g - 1) < es.getD 0 0) &&
    (g = 3 || !u.loaded.toList.getD (g + 1) false || es.getD 15 0 < dewEntry u.dew (16 * g + 16))

/-- R79: entry k of the table after a load of segment g. -/
def loadedEntry (fresh : Bool) (g : Nat) (es : List Nat) (k e : Nat) : Nat :=
  if k / 16 = g then es.getD (k % 16) 0 else if fresh then 0 else e

/-- R79: the loaded flag of segment k after a load of segment g. -/
def loadedFlag (fresh : Bool) (g : Nat) (k : Nat) (b : Bool) : Bool :=
  if k = g then true else if fresh then false else b

/-- R79: LOAD_DEW_TABLE. -/
def loadDewTable (args : List Byte) (s : State) : Answer :=
  let g := byteAt args 0
  let fresh := byteAt args 1 = 1
  let es := dewArgs args
  if anySheetEnabled s.fog then refuse .state s
  else if 3 < g ∨ 1 < byteAt args 1 ∨ es.getD 0 0 = 0 ∨ !strictlyRising es then refuse .range s
  else if !fresh && !dewFits s.fog g es then refuse .range s
  else
    done { s with
      fog.dew := mapTable (loadedEntry fresh g es) s.fog.dew
      fog.loaded := mapTable (loadedFlag fresh g) s.fog.loaded }

/-- R81: each named point is non-UNUSED and of its class. -/
def sheetPointsFit (s : State) (d : SheetDef) : Bool :=
  namesPoint s .temperature d.ice && namesPoint s .temperature d.near && namesPoint s .temperature d.air &&
    namesPoint s .humidity d.humidity &&
    (match d.haze with
      | some i => namesPoint s .haze i
      | none => true)

/-- R81: WRITE_SHEET. -/
def writeSheet (args : List Byte) (s : State) : Answer :=
  match sheetOf (byteAt args 0) with
  | none => refuse .range s
  | some sh =>
    if (sheetRec s.fog sh).state = .enabled then refuse .state s
    else
      match sheetArgs args with
      | none => refuse .range s
      | some d =>
        if sheetPointsFit s d then done (setSheet sh (clearedSheet d .disabled) s) else refuse .range s

/-- R82: a sheet made ENABLED, its period timer started; an uncovered one moves from CLEAR to WATCH. -/
def startFog (sh : Sheet) (s : State) : State :=
  let r := sheetRec s.fog sh
  let s := setSheet sh { r with state := .enabled, fogTimer := some (r.defn.fogPeriod * 1000) } s
  hand .reallocationRequest (if covered s sh then s else fogTransition sh .watch s)

/-- R82: ENABLE_FOG. -/
def enableFog (args : List Byte) (s : State) : Answer :=
  match sheetOf (byteAt args 0) with
  | none => refuse .range s
  | some sh =>
    match (sheetRec s.fog sh).state with
    | .enabled => done s
    | .unused => refuse .state s
    | .disabled => if dewValid s.fog then done (startFog sh s) else refuse .state s

/-- R83: a sheet made DISABLED, both timers stopped; a state other than CLEAR moves to CLEAR. -/
def stopFog (sh : Sheet) (s : State) : State :=
  let r := sheetRec s.fog sh
  let s := setSheet sh { r with state := .disabled, fogTimer := none, recoverTimer := none } s
  hand .reallocationRequest (if r.fog = .clear then s else fogTransition sh .clear s)

/-- R83: DISABLE_FOG. -/
def disableFog (args : List Byte) (s : State) : Answer :=
  match sheetOf (byteAt args 0) with
  | none => refuse .range s
  | some sh =>
    match (sheetRec s.fog sh).state with
    | .unused => refuse .state s
    | .disabled => done s
    | .enabled => done (stopFog sh s)

/-- R96: WRITE_FOG_CAPS. -/
def writeFogCaps (args : List Byte) (s : State) : Answer :=
  match capTableArgs args with
  | none => refuse .range s
  | some t => done (handCaps .two (handCaps .one { s with fog.caps := t }))

/-! ### RESTART (R99) -/

/-- R99: a sheet record as RESTART sets it. -/
def restartedSheet (cover : Bool) (r : SheetRec) : SheetRec :=
  let r' := clearedSheet r.defn r.state
  if r.state = .enabled then
    { r' with fog := if cover then .clear else .watch, fogTimer := some (r.defn.fogPeriod * 1000) }
  else r'

/-- R99: the Fog Monitor as RESTART sets it. -/
def restartedFog (m : ModeUnit) (u : FogMonitor) : FogMonitor :=
  { u with sheet1 := restartedSheet m.cover1 u.sheet1, sheet2 := restartedSheet m.cover2 u.sheet2 }

/-! ### The commands -/

/-- FOG_PERIOD_EXPIRY (R85). -/
def execFogPeriodExpiry (sheet : Sheet) (s : State) : Host.Outcome State Fault Refusal :=
  perform (fogPeriod sheet) s

/-- RECOVER_TIMER_EXPIRY (R92). -/
def execRecoverTimerExpiry (sheet : Sheet) (s : State) : Host.Outcome State Fault Refusal :=
  perform (recoverExpiry sheet) s

/-- LOAD_DEW_TABLE (R79). -/
def execLoadDewTable (slot : SlotIx) (s : State) : Host.Outcome State Fault Refusal :=
  performRequest .loadDewTable slot loadDewTable s

/-- WRITE_SHEET (R81). -/
def execWriteSheet (slot : SlotIx) (s : State) : Host.Outcome State Fault Refusal :=
  performRequest .writeSheet slot writeSheet s

/-- ENABLE_FOG (R82). -/
def execEnableFog (slot : SlotIx) (s : State) : Host.Outcome State Fault Refusal :=
  performRequest .enableFog slot enableFog s

/-- DISABLE_FOG (R83). -/
def execDisableFog (slot : SlotIx) (s : State) : Host.Outcome State Fault Refusal :=
  performRequest .disableFog slot disableFog s

/-- WRITE_FOG_CAPS (R96). -/
def execWriteFogCaps (slot : SlotIx) (s : State) : Host.Outcome State Fault Refusal :=
  performRequest .writeFogCaps slot writeFogCaps s

end Sys2Proof.Machine
end

