-- ==== Sys2Proof/Machine/Modes.lean ====
section
/-! DEFINITION. The Mode Unit: the arena mode, the profiles, setback wake, covering, and the mode requests
(spec/08_arena_modes.md). The result layout of READ_PROFILE is in Machine/Results.lean. -/

namespace Sys2Proof.Machine

/-! ### Changes of mode (R164 to R166) -/

/-- R165: the value of a MODE notice. -/
def modeNoticeValue (wakePoint cause : Nat) (left entered : Mode) : Nat :=
  65536 * wakePoint + 16 * cause + 4 * modeCode left + modeCode entered

/-- R165: the arena mode changes: a MODE notice, a reallocation request and a recomputation of the electric share are
handed. -/
def changeMode (wakePoint cause : Nat) (entered : Mode) (s : State) : State :=
  handAll [.noticeOffer .mode 0 (modeNoticeValue wakePoint cause s.mode.mode entered : Nat), .reallocationRequest,
    .electricRecompute] { s with mode.mode := entered }

/-- R166: the mode a wake enters. -/
def exitMode (u : ModeUnit) : Mode :=
  match u.setbackProfile.exitTarget with
  | .previous => u.previous
  | .practice => .practice
  | .event => .event

/-- R166: the point is of class COUNT or POSITION. -/
def wakeClass (p : Point) : Bool := p.defn.cls = .count || p.defn.cls = .position

/-- R166: the report is a wake. -/
def isWake (s : State) (i : PointIx) (value : Int) : Bool :=
  s.mode.mode = .setback && s.mode.setbackProfile.wakePoints.contains i && wakeClass s.points[i] && 0 < value

/-- R166: the Mode Unit takes a report of a new presented value. -/
def takeReport (i : PointIx) (value : Int) (s : State) : State :=
  if isWake s i value then changeMode i.val 1 (exitMode s.mode) s else s

/-- R164: a mode carried by SET_MODE that is not in force: the memory is written on entry into SETBACK. -/
def enterMode (m : Mode) (s : State) : State :=
  changeMode 0 0 m (if m = .setback then { s with mode.previous := s.mode.mode } else s)

/-! ### Mode requests (R163, R164, R169, R170) -/

/-- R163: the wake points are of class COUNT or POSITION, non-UNUSED, none twice. -/
def wakePointsFit (s : State) (ps : List PointIx) : Bool :=
  decide ps.Nodup && ps.all fun i => s.points[i].state != .unused && wakeClass s.points[i]

/-- R163: a profile written; one of the mode in force raises a reallocation request. -/
def loadProfile (m : Mode) (p : Profile) (s : State) : State :=
  let t := { s with mode := setProfile m p s.mode }
  if m = s.mode.mode then hand .reallocationRequest t else t

/-- R163: WRITE_PROFILE. -/
def writeProfile (args : List Byte) (s : State) : Answer :=
  match modeOf (byteAt args 0) with
  | none => refuse .range s
  | some m =>
    match profileArgs m args with
    | none => refuse .range s
    | some p => if wakePointsFit s p.wakePoints then done (loadProfile m p s) else refuse .range s

/-- R164: SET_MODE. -/
def setMode (args : List Byte) (s : State) : Answer :=
  match modeOf (byteAt args 0) with
  | none => refuse .range s
  | some m => if m = s.mode.mode then done s else done (enterMode m s)

/-- The cover flag of a sheet set to a value. -/
def setCover (sh : Sheet) (b : Bool) (s : State) : State :=
  match sh with
  | .one => { s with mode.cover1 := b }
  | .two => { s with mode.cover2 := b }

/-- R169: COVER_SHEET. -/
def coverSheet (args : List Byte) (s : State) : Answer :=
  match sheetOf (byteAt args 0) with
  | none => refuse .range s
  | some sh =>
    if covered s sh then done s else done (hand .reallocationRequest (coverFog sh (setCover sh true s)))

/-- R170: UNCOVER_SHEET. -/
def uncoverSheet (args : List Byte) (s : State) : Answer :=
  match sheetOf (byteAt args 0) with
  | none => refuse .range s
  | some sh =>
    if covered s sh then done (hand .reallocationRequest (uncoverFog sh (setCover sh false s))) else done s

/-! ### The commands -/

/-- VALUE_REPORT (R166). -/
def execValueReport (point : PointIx) (value : Int) (s : State) : Host.Outcome State Fault Refusal :=
  perform (fun s => takeReport point value (takeHanded (.valueReport point value) s)) s

/-- WRITE_PROFILE (R163). -/
def execWriteProfile (slot : SlotIx) (s : State) : Host.Outcome State Fault Refusal :=
  performRequest .writeProfile slot writeProfile s

/-- SET_MODE (R164). -/
def execSetMode (slot : SlotIx) (s : State) : Host.Outcome State Fault Refusal :=
  performRequest .setMode slot setMode s

/-- COVER_SHEET (R169). -/
def execCoverSheet (slot : SlotIx) (s : State) : Host.Outcome State Fault Refusal :=
  performRequest .coverSheet slot coverSheet s

/-- UNCOVER_SHEET (R170). -/
def execUncoverSheet (slot : SlotIx) (s : State) : Host.Outcome State Fault Refusal :=
  performRequest .uncoverSheet slot uncoverSheet s

end Sys2Proof.Machine
end

