-- ==== Sys2Proof/Machine/Notices.lean ====
section
/-! DEFINITION. The Notice Unit: the enable mask, the Notice Queue, the STATUS frame, the seconds counter, and
WRITE_NOTICE_MASK (spec/10_notices_and_status_frames.md). -/

namespace Sys2Proof.Machine

/-! ### Offerings (R185, R186, R188) -/

/-- R186: the kind is enabled. -/
def kindEnabled (mask : BitVec 13) (k : NoticeKind) : Bool := mask.getLsbD (noticeCode k - 1)

/-- R188: a queued notice of this kind and subject. -/
def sameNotice (k : NoticeKind) (subject : Nat) (n : Notice) : Bool := n.kind = k && n.subject = subject

/-- R188: the value and the time stamp of the queued notice of the kind and subject replaced in place. -/
def coalesced (n : Notice) (q : List Notice) : List Notice :=
  q.map fun m => if sameNotice n.kind n.subject m then n else m

/-- R188: an enabled notice coalesces, is placed at the tail, or is discarded and counted. -/
def placeNotice (n : Notice) (u : NoticeUnit) : NoticeUnit :=
  if u.queue.any (sameNotice n.kind n.subject) then { u with queue := coalesced n u.queue }
  else if u.queue.length < Config.noticeCapacity then { u with queue := u.queue ++ [n] }
  else { u with overflow := countUp 1 u.overflow }

/-- R185, R186: an offering: stamped with the seconds counter; a suppressed kind is discarded. -/
def offerNotice (k : NoticeKind) (subject : Nat) (value : Int) (u : NoticeUnit) : NoticeUnit :=
  if kindEnabled u.mask k then placeNotice ⟨k, subject, value, u.seconds⟩ u else u

/-! ### The STATUS frame (R16, R190) -/

/-- R190: the STATUS payload formed now (chapter 11.6). -/
def statusPayload (s : State) : List Byte :=
  u8 (modeCode s.mode.mode) ++ u8 (fogCode s.fog.sheet1.fog + 4 * fogCode s.fog.sheet2.fog)
    ++ u8 (bit 0 s.mode.cover1 + bit 1 s.mode.cover2 + bit 2 s.line.up)
    ++ u24 s.budget.usable ++ u16 s.budget.allowance ++ u24 s.scene.loadReported ++ u8 s.scene.stepCounter
    ++ u16 s.notices.overflow

/-- R16: the STATUS period expires, when the timer runs: a frame is formed unless one is pending; the timer runs on. -/
def statusPeriod (s : State) : State :=
  match s.line.statusTimer with
  | none => s
  | some _ =>
    let s := { s with line.statusTimer := some Config.statusMs }
    match s.notices.status with
    | some _ => s
    | none => { s with notices.status := some (statusPayload s) }

/-! ### Seconds (R185) -/

/-- R185: the seconds counter incremented, staying at 4294967295 once there. -/
def tickSeconds (s : State) : State := { s with notices.seconds := min (s.notices.seconds + 1) 4294967295 }

/-! ### WRITE_NOTICE_MASK (R187) -/

/-- R187: WRITE_NOTICE_MASK; bits 15 to 13 name kinds outside the thirteen. -/
def writeNoticeMask (args : List Byte) (s : State) : Answer :=
  if wordAt args 0 < 8192 then done { s with notices.mask := BitVec.ofNat 13 (wordAt args 0) }
  else refuse .range s

/-! ### RESTART (R192) -/

/-- R192: the Notice Unit as RESTART sets it. -/
def restartedNotices (u : NoticeUnit) : NoticeUnit :=
  { u with queue := [], overflow := 0, seconds := 0, causeRestart := true, status := none }

/-! ### The commands -/

/-- NOTICE_OFFER (R188). -/
def execNoticeOffer (kind : NoticeKind) (subject : Nat) (value : Int) (s : State) :
    Host.Outcome State Fault Refusal :=
  perform (fun s =>
    let s := takeHanded (.noticeOffer kind subject value) s
    { s with notices := offerNotice kind subject value s.notices }) s

/-- STATUS_PERIOD_EXPIRY (R16). -/
def execStatusPeriodExpiry (s : State) : Host.Outcome State Fault Refusal :=
  perform statusPeriod s

/-- SECONDS_TICK (R185). -/
def execSecondsTick (s : State) : Host.Outcome State Fault Refusal :=
  perform tickSeconds s

/-- WRITE_NOTICE_MASK (R187). -/
def execWriteNoticeMask (slot : SlotIx) (s : State) : Host.Outcome State Fault Refusal :=
  performRequest .writeNoticeMask slot writeNoticeMask s

end Sys2Proof.Machine
end

