-- ==== Sys2Proof/Machine/Scene.lean ====
section
/-! DEFINITION. The Scene Unit's buffers: configuration, editing, commit modes and the transfer engine
(spec/06_scene_buffers.md). The result layout of READ_BUFFER is in Machine/Results.lean. -/

namespace Sys2Proof.Machine

/-! ### Buffers, sides and pairs (R119, R120) -/

/-- A buffer record replaced. -/
def setBuffer (i : BufferIx) (b : Buffer) (s : State) : State :=
  { s with scene.buffers := s.scene.buffers.set i b }

/-- The index is even: the commit side when paired. -/
def isEven (i : BufferIx) : Bool := i.val % 2 = 0

/-- The other buffer of the pair. -/
def partner (i : BufferIx) : BufferIx :=
  if i.val % 2 = 0 then Fin.ofNat 64 (i.val + 1) else Fin.ofNat 64 (i.val - 1)

/-- The commit side of a pair, b2n. -/
def commitSide (n : PairIx) : BufferIx := Fin.ofNat 64 (2 * n.val)

/-- The output side of a pair, b2n+1. -/
def outputSide (n : PairIx) : BufferIx := Fin.ofNat 64 (2 * n.val + 1)

/-- Buffer i is the commit side of a PAIRED pair. -/
def isCommitSide (i : BufferIx) (b : Buffer) : Bool := b.type = .paired && isEven i

/-- Buffer i is the output side of a PAIRED pair. -/
def isOutputSide (i : BufferIx) (b : Buffer) : Bool := b.type = .paired && !isEven i

/-- LOCKED: set in the states LOCKED and DISABLED_LOCKED (chapter 6.2). -/
def isLocked (b : Buffer) : Bool := b.state = .locked || b.state = .disabledLocked

/-- R120: a buffer in DISABLED or DISABLED_LOCKED is disabled, and any other is enabled. -/
def bufferEnabled (b : Buffer) : Bool := b.state != .disabled && b.state != .disabledLocked

/-- The scene a buffer's slot holds now (R118). -/
def sceneOf (s : State) (b : Buffer) : Scene := s.scene.store[b.slot]

/-- R119: generations are counted modulo 256. -/
def nextGeneration (g : Nat) : Nat := (g + 1) % 256

/-! ### The transfer engine (R130 to R133) -/

/-- R130: the pair may be transferred. -/
def eligible (u : SceneUnit) (n : PairIx) : Bool :=
  let c := u.buffers[commitSide n]
  let o := u.buffers[outputSide n]
  c.type = .paired && c.state = .idle && c.committed && o.state = .idle &&
    (c.commitMode = .immediate || !o.committed || o.played)

/-- R131: a transfer of a pair starts: both sides go to TRANSFER and the engine is BUSY with the pair. -/
def startTransfer (n : PairIx) (s : State) : State :=
  let c := s.scene.buffers[commitSide n]
  let o := s.scene.buffers[outputSide n]
  let s := setBuffer (outputSide n) { o with state := .transfer }
    (setBuffer (commitSide n) { c with state := .transfer } s)
  { s with scene.engine := some n }

/-- R131: the engine's check: when it is IDLE, the lowest eligible pair is started. -/
def checkTransfers (s : State) : State :=
  match s.scene.engine with
  | some _ => s
  | none =>
    match (List.finRange 32).find? (eligible s.scene) with
    | some n => startTransfer n s
    | none => s

/-- R132: the commit side after a transfer: the output side's slot, COMMITTED clear, and the copy of the output side's
status brought up to date (R138). -/
def transferredCommit (c o : Buffer) : Buffer :=
  { c with state := .idle, slot := o.slot, committed := false, played := false, lastPlayed := o.lastPlayed }

/-- R132: the output side after a transfer: the commit side's slot, as a new generation. -/
def transferredOutput (c o : Buffer) : Buffer :=
  { o with
    state := .idle, slot := c.slot, committed := true, played := false, generation := nextGeneration o.generation }

/-- R132, R133: the transfer of pair n completes: the slots are exchanged, TRANSFERRED is offered, and the engine, IDLE
again, makes its check. -/
def finishTransfer (n : PairIx) (s : State) : State :=
  let c := s.scene.buffers[commitSide n]
  let o := s.scene.buffers[outputSide n]
  let s := setBuffer (outputSide n) (transferredOutput c o) (setBuffer (commitSide n) (transferredCommit c o) s)
  let s := offer .transferred (2 * n.val) (nextGeneration o.generation : Nat) { s with scene.engine := none }
  checkTransfers s

/-- R132: a transfer completes, when one is in flight. -/
def completeTransfer (s : State) : State :=
  match s.scene.engine with
  | none => s
  | some n => finishTransfer n s

/-! ### CONFIGURE_BUFFER (R121, R122) -/

/-- R121: the state checks of CONFIGURE_BUFFER pass. -/
def configurable (i : BufferIx) (t : BufferType) (u : SceneUnit) : Bool :=
  match t with
  | .paired =>
    isEven i && u.buffers[i].state = .disabled && u.buffers[partner i].state = .disabled
  | .single =>
    u.buffers[i].state = .disabled &&
      (u.buffers[i].type = .single || u.buffers[partner i].state = .disabled)

/-- The filter and PRIORITY carried. -/
def withFilter (c : BufferConfig) (b : Buffer) : Buffer :=
  { b with filterValue := c.filterValue, filterMask := c.filterMask, priority := c.priority }

/-- R122: a buffer at a change of type: COMMITTED and PLAYED cleared, last played step none. -/
def retyped (t : BufferType) (b : Buffer) : Buffer :=
  { b with type := t, committed := false, played := false, lastPlayed := none }

/-- R122: the type of a buffer set; a change of type clears its status. -/
def setType (t : BufferType) (b : Buffer) : Buffer := if b.type = t then b else retyped t b

/-- R122: the effect of a CONFIGURE_BUFFER that is taken. -/
def configure (i : BufferIx) (c : BufferConfig) (s : State) : State :=
  let b := s.scene.buffers[i]
  let p := s.scene.buffers[partner i]
  match c.type with
  | .paired =>
    setBuffer (partner i) (withFilter c (setType .paired p))
      (setBuffer i { setType .paired b with commitMode := c.commitMode } s)
  | .single =>
    match b.type with
    | .single => setBuffer i (withFilter c b) s
    | .paired => setBuffer (partner i) (setType .single p) (setBuffer i (withFilter c (setType .single b)) s)

/-- R121: CONFIGURE_BUFFER. -/
def configureBuffer (args : List Byte) (s : State) : Answer :=
  match indexOf 64 (byteAt args 0), bufferArgs args with
  | some i, some c => if configurable i c.type s.scene then done (configure i c s) else refuse .state s
  | some _, none => refuse .range s
  | none, _ => refuse .range s

/-! ### Editing requests (R123 to R128) -/

/-- R123: the state after a lock that is taken. -/
def lockedState : BufferState → BufferState
  | .idle => .locked
  | .selected => .locked
  | .disabled => .disabledLocked
  | .disabledLocked => .disabledLocked
  | .locked => .locked
  | .transfer => .transfer

/-- R123: LOCK_BUFFER. -/
def lockBuffer (args : List Byte) (s : State) : Answer :=
  match indexOf 64 (byteAt args 0) with
  | none => refuse .range s
  | some i =>
    let b := s.scene.buffers[i]
    if isOutputSide i b then refuse .pairError s
    else if b.state = .transfer then refuse .lockError s
    else done (setBuffer i { b with state := lockedState b.state } s)

/-- R124: the state after an unlock. -/
def unlockedState : BufferState → BufferState
  | .locked => .idle
  | .disabledLocked => .disabled
  | .idle => .idle
  | .selected => .selected
  | .disabled => .disabled
  | .transfer => .transfer

/-- R124: UNLOCK_BUFFER; the engine makes its check (R131). -/
def unlockBuffer (args : List Byte) (s : State) : Answer :=
  match indexOf 64 (byteAt args 0) with
  | none => refuse .range s
  | some i =>
    let b := s.scene.buffers[i]
    if isOutputSide i b then refuse .pairError s
    else done (checkTransfers (setBuffer i { b with state := unlockedState b.state } s))

/-- R125: the buffer after a WRITE_SCENE that is taken. -/
def writtenBuffer (b : Buffer) : Buffer :=
  { b with committed := false, played := if b.type = .single then false else b.played }

/-- R125: WRITE_SCENE. -/
def writeScene (args : List Byte) (s : State) : Answer :=
  match indexOf 64 (byteAt args 0) with
  | none => refuse .range s
  | some i =>
    let b := s.scene.buffers[i]
    if isOutputSide i b then refuse .pairError s
    else if b.state = .transfer then refuse .collide s
    else if !isLocked b then refuse .state s
    else
      match sceneArgs args with
      | none => refuse .range s
      | some sc => done (setBuffer i (writtenBuffer b) { s with scene.store := s.scene.store.set b.slot sc })

/-- R126: the buffer after a COMMIT that is taken. -/
def committedBuffer (b : Buffer) : Buffer :=
  { b with
    committed := true, generation := nextGeneration b.generation,
    played := if b.type = .single then false else b.played }

/-- R126: COMMIT. -/
def commitBuffer (args : List Byte) (s : State) : Answer :=
  match indexOf 64 (byteAt args 0) with
  | none => refuse .range s
  | some i =>
    let b := s.scene.buffers[i]
    if isOutputSide i b then refuse .pairError s
    else if !isLocked b then refuse .state s
    else done (setBuffer i (committedBuffer b) s)

/-- R127: the state after an enable. -/
def enabledState : BufferState → BufferState
  | .disabled => .idle
  | .disabledLocked => .locked
  | .idle => .idle
  | .locked => .locked
  | .selected => .selected
  | .transfer => .transfer

/-- R128: the state after a disable. -/
def disabledState : BufferState → BufferState
  | .idle => .disabled
  | .locked => .disabledLocked
  | .disabled => .disabled
  | .disabledLocked => .disabledLocked
  | .selected => .selected
  | .transfer => .transfer

/-- The states of both sides of a pair changed, i being the output side. -/
def bothSides (f : BufferState → BufferState) (i : BufferIx) (s : State) : State :=
  let o := s.scene.buffers[i]
  let c := s.scene.buffers[partner i]
  setBuffer (partner i) { c with state := f c.state } (setBuffer i { o with state := f o.state } s)

/-- R127: ENABLE_BUFFER; one that is taken gives the engine its check (R131). DEDUCED: one that finds the buffer
enabled gives no check (log entry 18). -/
def enableBuffer (args : List Byte) (s : State) : Answer :=
  match indexOf 64 (byteAt args 0) with
  | none => refuse .range s
  | some i =>
    let b := s.scene.buffers[i]
    match b.type with
    | .single =>
      if bufferEnabled b then done s
      else done (checkTransfers (setBuffer i { b with state := enabledState b.state } s))
    | .paired =>
      if isEven i then refuse .ignored s
      else if b.state = .disabled then done (checkTransfers (bothSides enabledState i s))
      else done s

/-- R128: DISABLE_BUFFER. -/
def disableBuffer (args : List Byte) (s : State) : Answer :=
  match indexOf 64 (byteAt args 0) with
  | none => refuse .range s
  | some i =>
    let b := s.scene.buffers[i]
    match b.type with
    | .single =>
      if b.state = .selected then refuse .ignored s
      else done (setBuffer i { b with state := disabledState b.state } s)
    | .paired =>
      if isEven i then refuse .ignored s
      else if b.state = .idle then done (bothSides disabledState i s)
      else if b.state = .disabled then done s
      else refuse .ignored s

/-! ### RESTART (R140) -/

/-- R140: a buffer record after RESTART. -/
def restartedBuffer (b : Buffer) : Buffer :=
  { b with state := if bufferEnabled b then .idle else .disabled, played := false, lastPlayed := none }

/-! ### The commands -/

/-- TRANSFER_COMPLETION (R132). -/
def execTransferCompletion (s : State) : Host.Outcome State Fault Refusal :=
  perform completeTransfer s

/-- CONFIGURE_BUFFER (R121). -/
def execConfigureBuffer (slot : SlotIx) (s : State) : Host.Outcome State Fault Refusal :=
  performRequest .configureBuffer slot configureBuffer s

/-- LOCK_BUFFER (R123). -/
def execLockBuffer (slot : SlotIx) (s : State) : Host.Outcome State Fault Refusal :=
  performRequest .lockBuffer slot lockBuffer s

/-- UNLOCK_BUFFER (R124). -/
def execUnlockBuffer (slot : SlotIx) (s : State) : Host.Outcome State Fault Refusal :=
  performRequest .unlockBuffer slot unlockBuffer s

/-- WRITE_SCENE (R125). -/
def execWriteScene (slot : SlotIx) (s : State) : Host.Outcome State Fault Refusal :=
  performRequest .writeScene slot writeScene s

/-- COMMIT (R126). -/
def execCommit (slot : SlotIx) (s : State) : Host.Outcome State Fault Refusal :=
  performRequest .commit slot commitBuffer s

/-- ENABLE_BUFFER (R127). -/
def execEnableBuffer (slot : SlotIx) (s : State) : Host.Outcome State Fault Refusal :=
  performRequest .enableBuffer slot enableBuffer s

/-- DISABLE_BUFFER (R128). -/
def execDisableBuffer (slot : SlotIx) (s : State) : Host.Outcome State Fault Refusal :=
  performRequest .disableBuffer slot disableBuffer s

end Sys2Proof.Machine
end

