-- ==== Sys2Proof/Machine/Steps.lean ====
section
/-! DEFINITION. The Scene Unit's step clock, group search, levels, dimmer output, flashes and lighting load, and the step
and group requests (spec/07_show_steps_and_group_output.md). The result layouts of READ_GROUP are in
Machine/Results.lean. -/

namespace Sys2Proof.Machine

/-- The group indices in ascending order. -/
def groupOrder : List GroupIx := List.finRange 32

/-- A group record replaced. -/
def setGroup (i : GroupIx) (g : Group) (s : State) : State :=
  { s with scene.groups := s.scene.groups.set i g }

/-! ### The search (R136, R148) -/

/-- R136: buffer i is a search candidate. -/
def isCandidate (i : BufferIx) (b : Buffer) : Bool :=
  !isCommitSide i b && b.state = .idle && b.committed

/-- R136: what the search view holds of a candidate. -/
def candidateOf (s : State) (i : BufferIx) : Candidate :=
  let b := s.scene.buffers[i]
  ⟨i, b.generation, b.priority, b.filterValue, b.filterMask, sceneOf s b⟩

/-- R136: the search view captured now, in ascending buffer index. -/
def captureView (s : State) : List Candidate :=
  ((List.finRange 64).filter fun i => isCandidate i s.scene.buffers[i]).map (candidateOf s)

/-- R148: the candidate's filter matches the step. -/
def matchesStep (step : Nat) (c : Candidate) : Bool :=
  Nat.land step c.filterMask = Nat.land c.filterValue c.filterMask

/-- R148: the class of a candidate at a step. -/
def candidateClass (step : Nat) (c : Candidate) : Nat :=
  if matchesStep step c then (if c.priority then 0 else 1) else 2

/-- R148: the candidate's entry for a group. -/
def entryFor (g : GroupIx) (c : Candidate) : Option SceneEntry := c.scene.entries.find? fun e => e.group = g

/-- R148: a candidate of the group in this class. -/
def inClass (step : Nat) (g : GroupIx) (k : Nat) (c : Candidate) : Bool :=
  (entryFor g c).isSome && candidateClass step c = k

/-- R148: a winner of a group, with what was captured of it. -/
def winnerOf (g : GroupIx) (k : Nat) (c : Candidate) : SearchResult :=
  match entryFor g c with
  | some e => .winner ⟨c.buffer, k, c.generation, c.priority, e.level, e.fade⟩
  | none => .none

/-- R148: the result for one group: the lowest class among its candidates, and in class 0 or 1 the lowest buffer
index (the view is in ascending index). -/
def searchGroup (view : List Candidate) (step : Nat) (g : GroupIx) : SearchResult :=
  match view.find? (inClass step g 0) with
  | some c => winnerOf g 0 c
  | none =>
    match view.find? (inClass step g 1) with
    | some c => winnerOf g 1 c
    | none => if view.any (inClass step g 2) then .hold else .none

/-- R148: the result for every group index. -/
def searchResults (view : List Candidate) (step : Nat) : Vector SearchResult 32 :=
  Vector.ofFn (searchGroup view step)

/-! ### Levels (R151 to R154, R156) -/

/-- R151: a winner other than the driver takes the group and begins a new fade; the same driver goes on with its own. -/
def wonGroup (w : Winner) (g : Group) : Group :=
  let drives := match g.driver with
    | some d => d.buffer = w.buffer && d.generation = w.generation
    | none => false
  if drives then
    let g := { g with driver := some ⟨w.buffer, w.generation, w.priority⟩ }
    match g.fade with
    | some f =>
      let f := { f with elapsed := if f.elapsed < f.length then f.elapsed + 1 else f.elapsed }
      { g with fade := some f, level := fadeLevel f }
    | none => { g with level := w.level }
  else
    { g with
      driver := some ⟨w.buffer, w.generation, w.priority⟩
      fade := if w.fade = 0 then none else some ⟨g.level, w.level, w.fade, 0⟩
      level := if w.fade = 0 then w.level else g.level }

/-- R151, R152: driver, fade and the level before the ceiling. -/
def beforeCeiling (r : SearchResult) (g : Group) : Group :=
  match r with
  | .winner w => wonGroup w g
  | .hold => g
  | .none => { g with driver := none, fade := none }

/-- R153: the driver, as it stands, carries PRIORITY. -/
def priorityDriven (g : Group) : Bool :=
  match g.driver with
  | some d => d.priority
  | none => false

/-- R153: the level saturated to the ceiling, unless the driver carries PRIORITY. -/
def underCeiling (ceiling : Nat) (g : Group) : Group :=
  if priorityDriven g then g else { g with level := min g.level ceiling }

/-- R154: the group is haze-blocked now: a haze source of an uncovered sheet whose fog state is other than CLEAR. -/
def blockedNow (s : State) (d : GroupDef) : Bool :=
  d.hazeSource &&
    (match d.sheet with
      | some sh => !covered s sh && fogOf s sh != .clear
      | none => false)

/-- R154, R155: a haze-blocked group. -/
def darkGroup (g : Group) : Group := { g with level := 0, fade := none, driver := none, hazeBlocked := true }

/-- R151 to R154: a group record after its level is worked out. -/
def levelledGroup (s : State) (r : SearchResult) (g : Group) : Group :=
  if blockedNow s g.defn then darkGroup g
  else underCeiling (profileInForce s).ceiling (beforeCeiling r { g with hazeBlocked := false })

/-- R156: the dimmer command of a group whose last sent level is absent or differs. -/
def sendLevel (i : GroupIx) (g : Group) (s : State) : State :=
  if g.lastSent = some g.level then setGroup i g s
  else setGroup i { g with lastSent := some g.level } (queueCommand g.defn.dimmer g.level s)

/-- R150: the level and the command of one group at a completion, when it is ENABLED. -/
def levelGroup (results : Vector SearchResult 32) (s : State) (i : GroupIx) : State :=
  let g := s.scene.groups[i]
  if g.state = .enabled then sendLevel i (levelledGroup s results[i] g) s else s

/-! ### Winners, flashes and marking (R137, R138, R157) -/

/-- R148: the candidate won the group. -/
def wonBy (c : Candidate) (r : SearchResult) : Bool :=
  match r with
  | .winner w => w.buffer = c.buffer
  | .hold => false
  | .none => false

/-- R148: the candidate won at least one ENABLED group that passes a test. -/
def wonSome (s : State) (p : Group → Bool) (c : Candidate) : Bool :=
  groupOrder.any fun i =>
    wonBy c s.scene.results[i] && s.scene.groups[i].state = .enabled && p s.scene.groups[i]

/-- R148: a winner of the search. -/
def isWinner (s : State) (c : Candidate) : Bool := wonSome s (fun _ => true) c

/-- R157: the group carries the OPTICALLY_NEAR flag of a sheet and is not HAZE_BLOCKED. -/
def flashesNear (sh : Sheet) (g : Group) : Bool :=
  !g.hazeBlocked && (match sh with
    | .one => g.defn.near1
    | .two => g.defn.near2)

/-- R157: a FLASH winner reaches the sheet. -/
def flashReaches (s : State) (sh : Sheet) : Bool :=
  s.scene.view.any fun c => c.scene.flash && wonSome s (flashesNear sh) c

/-- R157: at most one settling start for a sheet, on the haze point its record names. -/
def settleSheet (s : State) (sh : Sheet) : State :=
  let r := sheetRec s.fog sh
  if r.state != .unused && flashReaches s sh then
    match r.defn.haze with
    | some p => settleStart p s
    | none => s
  else s

/-- R137: the buffer marked: SELECTED, PLAYED set, last played step the step of the search. -/
def markedBuffer (step : Nat) (b : Buffer) : Buffer :=
  { b with state := .selected, played := true, lastPlayed := some step }

/-- R138: the copy of the output side's status on its commit side. -/
def copyStatus (i : BufferIx) (o : Buffer) (s : State) : State :=
  if isOutputSide i o then
    setBuffer (partner i) { s.scene.buffers[partner i] with played := o.played, lastPlayed := o.lastPlayed } s
  else s

/-- R137: the buffer is then in IDLE with the captured generation; a commit side is never SELECTED (R120). DEDUCED
(log entry 16). -/
def markable (c : Candidate) (b : Buffer) : Bool :=
  b.state = .idle && b.generation = c.generation && !isCommitSide c.buffer b

/-- R137, R138: one candidate of the view examined at the completion. -/
def markCandidate (step : Nat) (s : State) (c : Candidate) : State :=
  let b := s.scene.buffers[c.buffer]
  if isWinner s c && markable c b then
    copyStatus c.buffer (markedBuffer step b) (setBuffer c.buffer (markedBuffer step b) s)
  else s

/-- R150: the completion of the search of a step: levels and commands, flash settling, load, marking. DESIGN CHOICE: the
search results are worked out here, from the captured view, and stand until the next completion (log entry 30). -/
def finishSearch (step : Nat) (s : State) : State :=
  let results := searchResults s.scene.view step
  let s1 := groupOrder.foldl (levelGroup results) { s with scene.search := none, scene.results := results }
  let s2 := settleSheet (settleSheet s1 .one) .two
  let s3 := reportLoad s2
  s3.scene.view.foldl (markCandidate step) s3

/-- R150: a search completes, when one is in flight. -/
def completeSearch (s : State) : State :=
  match s.scene.search with
  | none => s
  | some step => finishSearch step s

/-! ### The step start (R135, R141, R149) -/

/-- R135: a SELECTED buffer returns to IDLE at a step start. -/
def unselected (b : Buffer) : Buffer := if b.state = .selected then { b with state := .idle } else b

/-- R149: a search still in flight is abandoned with a SEARCH_LATE notice. DESIGN CHOICE: the search results stay those
of the last completed search (log entry 30). -/
def abandonSearch (s : State) : State :=
  match s.scene.search with
  | some step => offer .searchLate 0 (step : Nat) { s with scene.search := none }
  | none => s

/-- R135, R136: the buffers returned to IDLE and the view captured. -/
def captureStep (s : State) : State :=
  let s := { s with scene.buffers := s.scene.buffers.map unselected }
  { s with scene.view := captureView s }

/-- R149: no buffer is enabled. -/
def noBufferEnabled (u : SceneUnit) : Bool := !u.buffers.toList.any bufferEnabled

/-- R141: a step start. With no enabled buffer the search completes at the step start itself (R149). DESIGN CHOICE: a
step start leaves the search results as they are (log entry 30). -/
def startStep (s : State) : State :=
  let step := (s.scene.stepCounter + 1) % 64
  let s := { s with scene.stepTimer := some s.scene.stepPeriod, scene.stepCounter := step }
  let s := checkTransfers (captureStep (abandonSearch s))
  let s := { s with scene.search := some step }
  if noBufferEnabled s.scene then finishSearch step s else s

/-! ### The haze cut (R155) -/

/-- R155: one group at a haze cut of a sheet: set to 0, with a command of 0. -/
def cutGroup (sh : Sheet) (s : State) (i : GroupIx) : State :=
  let g := s.scene.groups[i]
  if g.state = .enabled ∧ g.defn.hazeSource ∧ g.defn.sheet = some sh then
    setGroup i { darkGroup g with lastSent := some 0 } (queueCommand g.defn.dimmer 0 s)
  else s

/-- R155: the Scene Unit takes a haze cut of a sheet, and reports the load. -/
def cutHaze (sh : Sheet) (s : State) : State := reportLoad (groupOrder.foldl (cutGroup sh) s)

/-! ### Step and group requests (R142, R144 to R146) -/

/-- R142: SET_STEP_PERIOD. -/
def setStepPeriod (args : List Byte) (s : State) : Answer :=
  let period := wordAt args 0
  if period < 5 ∨ 10000 < period then refuse .range s
  else done { s with scene.stepPeriod := period }

/-- The owner is the group record i. -/
def mineGroup (i : GroupIx) : ActOwner → Bool
  | .group k => k = i
  | .consumer _ => false
  | .zoneValve _ => false
  | .zoneBoost _ => false

/-- The addresses a loaded group record holds. -/
def groupAddrs (g : Group) : List ActAddr := if g.state = .unused then [] else [g.defn.dimmer]

/-- R144, R17: a group definition loaded. -/
def loadGroup (i : GroupIx) (d : GroupDef) (s : State) : State :=
  let gone := (groupAddrs s.scene.groups[i]).filter fun a => a != d.dimmer
  setGroup i (clearedGroup d .disabled) (dropCommands gone s)

/-- R144: WRITE_GROUP. -/
def writeGroup (args : List Byte) (s : State) : Answer :=
  match indexOf 32 (byteAt args 0) with
  | none => refuse .range s
  | some i =>
    if s.scene.groups[i].state = .enabled then refuse .state s
    else
      match groupArgs args with
      | none => refuse .range s
      | some d =>
        match checkAddr s (mineGroup i) d.dimmer with
        | some st => refuse st s
        | none => done (loadGroup i d s)

/-- R145: a group made ENABLED; one admitted while its sheet is blocked is sent 0. -/
def admitGroup (i : GroupIx) (g : Group) (s : State) : State :=
  let g' := clearedGroup g.defn .enabled
  if blockedNow s g.defn then
    setGroup i { g' with hazeBlocked := true, lastSent := some 0 } (queueCommand g.defn.dimmer 0 s)
  else setGroup i g' s

/-- R145: ENABLE_GROUP. -/
def enableGroup (args : List Byte) (s : State) : Answer :=
  match indexOf 32 (byteAt args 0) with
  | none => refuse .range s
  | some i =>
    match s.scene.groups[i].state with
    | .unused => refuse .state s
    | .enabled => done s
    | .disabled => done (admitGroup i s.scene.groups[i] s)

/-- R146: a group record disabled; its level is kept. -/
def disabledGroup (g : Group) : Group :=
  { g with state := .disabled, fade := none, driver := none, hazeBlocked := false, lastSent := none }

/-- R146: DISABLE_GROUP. -/
def disableGroup (args : List Byte) (s : State) : Answer :=
  match indexOf 32 (byteAt args 0) with
  | none => refuse .range s
  | some i =>
    match s.scene.groups[i].state with
    | .unused => refuse .state s
    | .disabled => done s
    | .enabled => done (setGroup i (disabledGroup s.scene.groups[i]) s)

/-! ### RESTART (R140, R159) -/

/-- R159: a group record as RESTART sets it, before the haze cuts. -/
def restartedGroup (g : Group) : Group := { g with fade := none, driver := none, lastSent := none }

/-- R140, R159: the Scene Unit as RESTART sets it, before the engine's check and the haze cuts. -/
def restartedScene (u : SceneUnit) : SceneUnit :=
  { u with
    buffers := u.buffers.map restartedBuffer
    engine := none
    view := []
    stepTimer := some u.stepPeriod
    stepCounter := 0
    groups := u.groups.map restartedGroup
    search := none
    results := Vector.replicate 32 .none }

/-! ### The commands -/

/-- HAZE_CUT (R155). -/
def execHazeCut (sheet : Sheet) (s : State) : Host.Outcome State Fault Refusal :=
  perform (fun s => cutHaze sheet (takeHanded (.hazeCut sheet) s)) s

/-- STEP_START (R141). -/
def execStepStart (s : State) : Host.Outcome State Fault Refusal :=
  perform startStep s

/-- SEARCH_COMPLETION (R150). -/
def execSearchCompletion (s : State) : Host.Outcome State Fault Refusal :=
  perform completeSearch s

/-- SET_STEP_PERIOD (R142). -/
def execSetStepPeriod (slot : SlotIx) (s : State) : Host.Outcome State Fault Refusal :=
  performRequest .setStepPeriod slot setStepPeriod s

/-- WRITE_GROUP (R144). -/
def execWriteGroup (slot : SlotIx) (s : State) : Host.Outcome State Fault Refusal :=
  performRequest .writeGroup slot writeGroup s

/-- ENABLE_GROUP (R145). -/
def execEnableGroup (slot : SlotIx) (s : State) : Host.Outcome State Fault Refusal :=
  performRequest .enableGroup slot enableGroup s

/-- DISABLE_GROUP (R146). -/
def execDisableGroup (slot : SlotIx) (s : State) : Host.Outcome State Fault Refusal :=
  performRequest .disableGroup slot disableGroup s

end Sys2Proof.Machine
end

