-- ==== Sys2Proof/Machine/Restart.lean ====
section
/-! DEFINITION. The completion of a sending on Line Out, RESTART as it takes effect, and the two reset commands
(R12, R15, R22, R23, R183 and the RESTART tables of the chapters). -/

namespace Sys2Proof.Machine

/-! ### RESTART takes effect (R183) -/

/-- R23: a Node Table record after RESTART: the rights are kept. -/
def restartedNode (r : NodeRec) : NodeRec := powerOnNode r.rights

/-- R23, R13: the Line Interface as RESTART sets it. -/
def restartedLine (u : LineInterface) : LineInterface :=
  { u with
    nodes := u.nodes.map restartedNode
    queue := []
    runCount := 0
    statusTimer := some Config.statusMs
    lineErrors := 0
    overruns := 0
    drops := 0
    overrunArmed := true }

/-- R174, R180, R183: the Management Responder as RESTART sets it. -/
def restartedResponder (u : Responder) : Responder :=
  { u with slot0 := .free, slot1 := .free, restartPending := false }

/-- The handing is a lighting load update. -/
def isLoadUpdate : Instr → Bool
  | .lightingLoadUpdate _ => true
  | _ => false

/-- Every block at its RESTART values, before the handings RESTART makes. Of what had been handed and not yet taken a
lighting load update alone is kept: the load is the one figure handed that RESTART keeps (DESIGN CHOICE, log entry 8). -/
def restartedBlocks (s : State) : State :=
  { s with
    line := restartedLine s.line
    points := s.points.map restartedPoint
    budget := restartedBudget (profileInForce s).period s.budget
    fog := restartedFog s.mode s.fog
    zones := restartedZones s.zones
    scene := restartedScene s.scene
    responder := restartedResponder s.responder
    notices := restartedNotices s.notices
    handed := s.handed.filter isLoadUpdate }

/-- R99: RESTART's haze cut of a sheet: one that is ENABLED and uncovered. DESIGN CHOICE: it reports the lighting load, as
R155 says of every cut (log entry 28). -/
def restartCut (sh : Sheet) (s : State) : State :=
  if (sheetRec s.fog sh).state = .enabled ∧ !covered s sh then cutHaze sh s else s

/-- R99, R117: RESTART hands the Zone Controller the caps of a sheet for its fog state. -/
def restartCaps (sh : Sheet) (s : State) : State := applyCaps sh (capsInForce s sh) s

/-- R183: RESTART takes effect: the values of every block, the engine's check (R140), the caps and haze cuts of the Fog
Monitor (R99), and the recomputation of the electric share (R77), all at this event. -/
def restartEffect (s : State) : State :=
  recomputeElectricSilently
    (restartCut .two (restartCut .one (restartCaps .two (restartCaps .one (checkTransfers (restartedBlocks s))))))

/-! ### The completion of a sending (R12, R15, R183) -/

/-- R12, R183: what the completion of a sending brings about: a reply frees its slot, and the DONE reply of a RESTART
lets the restart take effect. -/
def sendingDone (source : SendSource) (s : State) : State :=
  match source with
  | .reply slot restart =>
    let s := setSlot slot .free s
    if restart && s.responder.restartPending then restartEffect s else s
  | .forwarded => s
  | .actuator => s
  | .busy => s
  | .notice => s
  | .status => s
  | .wake => s

/-- R15: the sending in progress is complete, and Line Out is free. -/
def completeSending (s : State) : State :=
  match s.line.sending with
  | none => s
  | some f => sendingDone f.source { s with line.sending := none }

/-! ### Reset (R22) -/

/-- R22: the external reset input is asserted, or power is lost: the relay drive is released, Line Out falls idle and
nothing acts until the next power-on reset. -/
def assertReset (s : State) : State :=
  { s with line.held := true, line.relay := false, line.sending := none, handed := [] }

/-! ### The commands -/

/-- LINE_OUT_SEND_COMPLETE (R15). -/
def execLineOutSendComplete (s : State) : Host.Outcome State Fault Refusal :=
  perform completeSending s

/-- POWER_ON_RESET (R22). -/
def execPowerOnReset (own controller : Strap) (s : State) : Host.Outcome State Fault Refusal :=
  .next (powerOnState own controller s.pending)

/-- RESET_ASSERTED (R22). -/
def execResetAsserted (s : State) : Host.Outcome State Fault Refusal :=
  .next (assertReset s)

end Sys2Proof.Machine
end

