-- ==== Sys2Proof/Machine/Results.lean ====
section
/-! DEFINITION. The read requests of the owning blocks and the layouts of their results (chapter 11.5, R195). -/

namespace Sys2Proof.Machine

/-! ### READ_POINT (R30) -/

/-- An index byte, 0 when absent: its presence bit stands beside it (log entry 9). -/
def ixByte (i : Option PointIx) : List Byte :=
  match i with
  | some k => u8 k.val
  | none => u8 0

/-- The definition of a point, as its write carries it (chapter 11.5). -/
def pointDefBytes (d : PointDef) : List Byte :=
  u8 d.node ++ u8 d.channel ++ u8 (pointClassCode d.cls) ++ u8 d.rawWidth ++ s16 d.gain ++ s24 d.offset ++ s24 d.lo
    ++ s24 d.hi ++ u16 d.staleLimit ++ u8 d.recoverCount ++ u16 d.maxStep ++ u8 (bit 0 d.substitute.isSome)
    ++ ixByte d.substitute ++ u16 d.settleTime

/-- The result of READ_POINT (chapter 11.5). -/
def pointBytes (s : State) (i : PointIx) : List Byte :=
  let p := s.points[i]
  pointDefBytes p.defn
    ++ u8 (pointStateCode p.state + 16 * qualityCode (qualityOf p.state)) ++ s24 (presentedValue s i) ++ s24 p.ownValue
    ++ u8 (bit 0 p.clamped + 2 * sideCode p.spikeSide + 4 * p.spikeCount + bit 4 p.lastAccepted.isSome + 32 * p.recovery)
    ++ absentOr 4 p.lastAccepted ++ u16 p.accepted ++ u16 p.rangeCount ++ u16 p.spikes ++ u16 p.faults

/-- R30: READ_POINT. -/
def readPointRequest (args : List Byte) (s : State) : Answer := doneWith (pointBytes s (pointIxAt args 0)) s

/-! ### READ_BUDGET (R59) -/

/-- An actuator address; 0 and 0 when absent. -/
def addrBytes (a : Option ActAddr) : List Byte :=
  match a with
  | some a => u8 a.node ++ u8 a.channel
  | none => u8 0 ++ u8 0

/-- The definition of a consumer, as its write carries it (chapter 11.5). -/
def consumerDefBytes (d : ConsumerDef) : List Byte :=
  u8 (consumerKindCode d.kind) ++ u8 (sheetCode d.sheet) ++ u8 d.cls ++ u8 d.weight ++ u16 d.floor ++ u16 d.cap
    ++ u16 d.design ++ u8 (bit 0 d.addr.isSome + bit 1 (d.handling = some .govern) + bit 2 d.settlePoint.isSome)
    ++ addrBytes d.addr ++ ixByte d.settlePoint ++ u8 d.tempPoint.val ++ s16 d.setpoint ++ u16 d.band
    ++ u16 d.demandClear ++ u16 d.demandWatch ++ u16 d.demandFog ++ u16 d.demandRecover ++ u16 d.fan

/-- Result offset 41: the last sent position of a DRIVE consumer, the requested position of any other. DEDUCED for
a consumer without an actuator (log entry 19). -/
def positionBytes (c : Consumer) : List Byte :=
  if c.defn.handling = some .drive then absentOr 2 c.lastSent else u16 c.requested

/-- The result of READ_BUDGET with an index (chapter 11.5). -/
def consumerBytes (c : Consumer) : List Byte :=
  consumerDefBytes c.defn ++ u8 (recordStateCode c.state + 4 * c.effClass) ++ u24 c.demand ++ u16 c.effCap
    ++ u16 c.effDemand ++ u16 c.grant ++ u16 c.allowed ++ positionBytes c
    ++ u16 (if c.defn.handling = some .drive then 0 else c.lastForwarded)

/-- The recovery settings, or their unloaded state: no point named, C and the shift 0 (R50, R195; log entry 9). -/
def recoveryBytes (r : Option Recovery) : List Byte :=
  match r with
  | some r => u8 r.supply.val ++ u8 r.ret.val ++ u8 r.flow.val ++ u16 r.fluid ++ u8 r.shift
  | none => u8 255 ++ u8 255 ++ u8 255 ++ u16 0 ++ u8 0

/-- The result of READ_BUDGET without an index (R59, R195). DEDUCED: the code of the allocation state (log entry
13). -/
def budgetSummary (u : BudgetUnit) : List Byte :=
  recoveryBytes u.settings ++ u24 u.rawHeat ++ u24 u.smoothed ++ u16 u.reserveUsed ++ u24 u.usable
    ++ u8 (bit 0 u.inputLost + bit 1 u.degraded) ++ u8 (bit 0 u.allocation.isSome) ++ u8 (bit 0 u.pendingFlag)
    ++ u24 u.load ++ u16 u.fanPower ++ u16 u.allowance ++ u8 (bit 0 u.overDemand)

/-- R59: READ_BUDGET. -/
def readBudget (args : List Byte) (s : State) : Answer :=
  match args with
  | [] => doneWith (budgetSummary s.budget) s
  | _ :: _ =>
    match indexOf 8 (byteAt args 0) with
    | some i => doneWith (consumerBytes s.budget.consumers[i]) s
    | none => refuse .range s

/-! ### READ_SHEET (R84) -/

/-- The definition of a sheet, as its write carries it (chapter 11.5). -/
def sheetDefBytes (d : SheetDef) : List Byte :=
  u8 d.ice.val ++ u8 d.near.val ++ u8 d.air.val ++ u8 d.humidity.val ++ u8 (bit 0 d.haze.isSome) ++ ixByte d.haze
    ++ u16 d.k ++ s16 d.watchMargin ++ s16 d.fogMargin ++ u16 d.hysteresis ++ u16 d.hazeLimit ++ u16 d.hazeClear
    ++ u16 d.recoverTime ++ u8 d.fogPeriod

/-- The flag byte of a sheet result (chapter 11.5). -/
def sheetFlags (r : SheetRec) : Nat :=
  bit 0 r.inputLost + bit 1 r.degraded + bit 2 r.airLimit + bit 3 r.dewLow + bit 4 r.dewHigh + bit 5 r.hazeValid
    + bit 6 r.fogTimer.isSome + bit 7 r.recoverTimer.isSome

/-- The result of READ_SHEET of SHEET_1 or SHEET_2 (chapter 11.5). DEDUCED: a stopped recover timer reads as absent
(log entry 19). -/
def sheetBytes (r : SheetRec) : List Byte :=
  u8 (recordStateCode r.state) ++ sheetDefBytes r.defn ++ u8 (fogCode r.fog) ++ s16 r.dewPoint ++ s16 r.mixing
    ++ s16 r.margin ++ u16 r.hazeValue ++ u8 (sheetFlags r) ++ absentOr 2 (r.recoverTimer.map fun t => t / 1000)

/-- Three caps. -/
def capsBytes (c : Caps) : List Byte := u16 c.iceEdge ++ u16 c.mid ++ u16 c.upper

/-- The cap table (chapter 11.5). -/
def capTableBytes (t : CapTable) : List Byte :=
  capsBytes t.clear ++ capsBytes t.watch ++ capsBytes t.fog ++ capsBytes t.recover

/-- The result of READ_SHEET of CAPS: the table, the loaded flags in bits 3–0 and the validity in bit 4. DESIGN CHOICE:
the flag of segment g is bit g (log entry 27). -/
def capsResult (u : FogMonitor) : List Byte :=
  capTableBytes u.caps
    ++ u8 (bit 0 u.loaded[0] + bit 1 u.loaded[1] + bit 2 u.loaded[2] + bit 3 u.loaded[3] + bit 4 (dewValid u))

/-- The result of READ_SHEET of DEW_g: the sixteen entries. -/
def dewResult (u : FogMonitor) (g : Nat) : List Byte :=
  (List.range 16).flatMap fun k => u16 (dewEntry u.dew (16 * g + k))

/-- R84: READ_SHEET. -/
def readSheet (args : List Byte) (s : State) : Answer :=
  match byteAt args 0 with
  | 1 => doneWith (sheetBytes s.fog.sheet1) s
  | 2 => doneWith (sheetBytes s.fog.sheet2) s
  | 3 => doneWith (capsResult s.fog) s
  | 4 => doneWith (dewResult s.fog 0) s
  | 5 => doneWith (dewResult s.fog 1) s
  | 6 => doneWith (dewResult s.fog 2) s
  | 7 => doneWith (dewResult s.fog 3) s
  | _ => refuse .range s

/-! ### READ_ZONE (R104) -/

/-- The definition of a zone, as its write carries it (chapter 11.5). -/
def zoneDefBytes (d : ZoneDef) : List Byte :=
  u8 (sheetCode d.sheet) ++ u8 (ringCode d.ring) ++ addrBytes (some d.valve) ++ u16 d.design
    ++ u8 (bit 0 d.boost.isSome) ++ addrBytes d.boost ++ u8 d.stageCount ++ u16 d.stagePower

/-- The result of READ_ZONE with an index (chapter 11.5). -/
def zoneBytes (z : Zone) : List Byte :=
  zoneDefBytes z.defn ++ u8 (recordStateCode z.state) ++ u16 z.reqPosition ++ u16 z.fogCap ++ u16 z.capped
    ++ u16 z.demand ++ u16 z.share ++ u16 z.allowed ++ u16 z.lastForwarded ++ u8 z.reqStages ++ u8 z.allowedStages
    ++ u8 z.lastStages

/-- The result of READ_ZONE without an index (R104, R195). -/
def zoneSummary (s : State) : List Byte :=
  capsBytes s.zones.capSet1 ++ capsBytes s.zones.capSet2 ++ u24 (zoneAggregate s) ++ absentOr 2 s.zones.grant
    ++ u16 s.zones.taken ++ u16 s.zones.left

/-- R104: READ_ZONE. -/
def readZone (args : List Byte) (s : State) : Answer :=
  match args with
  | [] => doneWith (zoneSummary s) s
  | _ :: _ =>
    match indexOf 24 (byteAt args 0) with
    | some i => doneWith (zoneBytes s.zones.zones[i]) s
    | none => refuse .range s

/-! ### READ_BUFFER (R129) -/

/-- Side code: SINGLE 0, commit 1, output 2 (chapter 11.5). -/
def sideOf (i : BufferIx) (b : Buffer) : Nat :=
  if isCommitSide i b then 1 else if isOutputSide i b then 2 else 0

/-- The commit mode of the pair of a PAIRED buffer, held in the commit side's record; absent for a SINGLE one (R129;
log entry 9). -/
def pairCommitMode (s : State) (i : BufferIx) (b : Buffer) : Option Nat :=
  if isCommitSide i b then some (commitModeCode b.commitMode)
  else if isOutputSide i b then some (commitModeCode s.scene.buffers[partner i].commitMode)
  else none

/-- A scene entry (chapter 11.5). -/
def entryBytes (e : SceneEntry) : List Byte := u8 e.group.val ++ u16 e.level ++ u8 e.fade

/-- The result of READ_BUFFER (chapter 11.5). -/
def bufferBytes (s : State) (i : BufferIx) : List Byte :=
  let b := s.scene.buffers[i]
  let sc := sceneOf s b
  u8 (bufferTypeCode b.type) ++ u8 (sideOf i b) ++ absentOr 1 (pairCommitMode s i b) ++ u8 b.filterValue
    ++ u8 b.filterMask
    ++ u8 (bit 0 b.priority + bit 1 b.committed + bit 2 b.played + bit 3 (isLocked b) + bit 4 sc.flash)
    ++ u8 (bufferStateCode b.state) ++ u8 b.generation ++ absentOr 1 b.lastPlayed ++ u8 b.slot.val
    ++ u8 sc.entries.length ++ sc.entries.flatMap entryBytes

/-- R129: READ_BUFFER. -/
def readBuffer (args : List Byte) (s : State) : Answer :=
  match indexOf 64 (byteAt args 0) with
  | some i => doneWith (bufferBytes s i) s
  | none => refuse .range s

/-! ### READ_GROUP (R147) -/

/-- The definition of a group, as its write carries it (chapter 11.5). -/
def groupDefBytes (d : GroupDef) : List Byte :=
  addrBytes (some d.dimmer) ++ u16 d.rated ++ u8 (sheetCode d.sheet)
    ++ u8 (bit 0 d.hazeSource + bit 1 d.near1 + bit 2 d.near2)

/-- The fade of a group result; an absent fade reads 0. -/
def fadeBytes (f : Option Fade) : List Byte :=
  match f with
  | some f => u16 f.start ++ u16 f.target ++ u8 f.length ++ u8 f.elapsed
  | none => u16 0 ++ u16 0 ++ u8 0 ++ u8 0

/-- The driver of a group result; an absent driver reads 0. -/
def driverBytes (d : Option Driver) : List Byte :=
  match d with
  | some d => u8 d.buffer.val ++ u8 d.generation
  | none => u8 0 ++ u8 0

/-- The result of READ_GROUP with an index (chapter 11.5). -/
def groupBytes (g : Group) : List Byte :=
  groupDefBytes g.defn ++ u8 (recordStateCode g.state) ++ u16 g.level
    ++ u8 (bit 0 g.fade.isSome + bit 1 g.driver.isSome + bit 2 (priorityDriven g) + bit 3 g.hazeBlocked)
    ++ fadeBytes g.fade ++ driverBytes g.driver ++ absentOr 2 g.lastSent

/-- The result of READ_GROUP without an index (R147, R195). DEDUCED: the code of the search state (log entry 13). -/
def stepSummary (u : SceneUnit) : List Byte :=
  u16 u.stepPeriod ++ u8 u.stepCounter ++ u8 (bit 0 u.search.isSome) ++ absentOr 1 u.search ++ u24 u.loadReported

/-- R147: READ_GROUP. -/
def readGroup (args : List Byte) (s : State) : Answer :=
  match args with
  | [] => doneWith (stepSummary s.scene) s
  | _ :: _ =>
    match indexOf 32 (byteAt args 0) with
    | some i => doneWith (groupBytes s.scene.groups[i]) s
    | none => refuse .range s

/-! ### READ_PROFILE (R172) -/

/-- A profile laid out as arguments 0 to 11 + count of its write (chapter 11.5). -/
def profileBytes (m : Mode) (p : Profile) : List Byte :=
  u8 (modeCode m) ++ u16 p.eMax ++ u16 p.reserve ++ u8 p.period ++ u16 p.ceiling ++ u16 p.capScale
    ++ u8 (exitTargetCode p.exitTarget) ++ u8 p.wakePoints.length ++ p.wakePoints.flatMap fun i => u8 i.val

/-- R172: READ_PROFILE. -/
def readProfile (args : List Byte) (s : State) : Answer :=
  match modeOf (byteAt args 0) with
  | some m =>
    doneWith (u8 (modeCode s.mode.mode) ++ u8 (modeCode s.mode.previous)
      ++ u8 (bit 0 s.mode.cover1 + bit 1 s.mode.cover2) ++ profileBytes m (profileOf s.mode m)) s
  | none => refuse .range s

/-! ### The commands -/

/-- READ_POINT (R30). -/
def execReadPoint (slot : SlotIx) (s : State) : Host.Outcome State Fault Refusal :=
  performRequest .readPoint slot readPointRequest s

/-- READ_BUDGET (R59). -/
def execReadBudget (slot : SlotIx) (s : State) : Host.Outcome State Fault Refusal :=
  performRequest .readBudget slot readBudget s

/-- READ_SHEET (R84). -/
def execReadSheet (slot : SlotIx) (s : State) : Host.Outcome State Fault Refusal :=
  performRequest .readSheet slot readSheet s

/-- READ_ZONE (R104). -/
def execReadZone (slot : SlotIx) (s : State) : Host.Outcome State Fault Refusal :=
  performRequest .readZone slot readZone s

/-- READ_BUFFER (R129). -/
def execReadBuffer (slot : SlotIx) (s : State) : Host.Outcome State Fault Refusal :=
  performRequest .readBuffer slot readBuffer s

/-- READ_GROUP (R147). -/
def execReadGroup (slot : SlotIx) (s : State) : Host.Outcome State Fault Refusal :=
  performRequest .readGroup slot readGroup s

/-- READ_PROFILE (R172). -/
def execReadProfile (slot : SlotIx) (s : State) : Host.Outcome State Fault Refusal :=
  performRequest .readProfile slot readProfile s

end Sys2Proof.Machine
end

