-- ==== Sys2Proof/Machine/Dispatch.lean ====
section
/-! DEFINITION. The one match over the commands: each arm calls its command's meaning. -/

namespace Sys2Proof.Machine

/-- The effect of a command on everything but the queue of waiting commands. -/
def exec (i : Instr) (s : State) : Host.Outcome State Fault Refusal :=
  match i with
  | .powerOnReset own controller => Sys2Proof.Machine.execPowerOnReset own controller s
  | .frameArrival bytes => Sys2Proof.Machine.execFrameArrival bytes s
  | .valueReport point value => Sys2Proof.Machine.execValueReport point value s
  | .silenceTimerExpiry => Sys2Proof.Machine.execSilenceTimerExpiry s
  | .wakeTimerExpiry => Sys2Proof.Machine.execWakeTimerExpiry s
  | .statusPeriodExpiry => Sys2Proof.Machine.execStatusPeriodExpiry s
  | .lineOutSendComplete => Sys2Proof.Machine.execLineOutSendComplete s
  | .staleTimerExpiry point => Sys2Proof.Machine.execStaleTimerExpiry point s
  | .settleTimerExpiry point => Sys2Proof.Machine.execSettleTimerExpiry point s
  | .allocationPeriodExpiry => Sys2Proof.Machine.execAllocationPeriodExpiry s
  | .reallocationRequest => Sys2Proof.Machine.execReallocationRequest s
  | .allocationCompletion => Sys2Proof.Machine.execAllocationCompletion s
  | .electricRecompute => Sys2Proof.Machine.execElectricRecompute s
  | .lightingLoadUpdate load => Sys2Proof.Machine.execLightingLoadUpdate load s
  | .fogPeriodExpiry sheet => Sys2Proof.Machine.execFogPeriodExpiry sheet s
  | .recoverTimerExpiry sheet => Sys2Proof.Machine.execRecoverTimerExpiry sheet s
  | .capHanding sheet caps => Sys2Proof.Machine.execCapHanding sheet caps s
  | .hazeCut sheet => Sys2Proof.Machine.execHazeCut sheet s
  | .stepStart => Sys2Proof.Machine.execStepStart s
  | .searchCompletion => Sys2Proof.Machine.execSearchCompletion s
  | .transferCompletion => Sys2Proof.Machine.execTransferCompletion s
  | .noticeOffer kind subject value => Sys2Proof.Machine.execNoticeOffer kind subject value s
  | .secondsTick => Sys2Proof.Machine.execSecondsTick s
  | .writePoint slot => Sys2Proof.Machine.execWritePoint slot s
  | .enablePoint slot => Sys2Proof.Machine.execEnablePoint slot s
  | .disablePoint slot => Sys2Proof.Machine.execDisablePoint slot s
  | .clearSubstitute slot => Sys2Proof.Machine.execClearSubstitute slot s
  | .readPoint slot => Sys2Proof.Machine.execReadPoint slot s
  | .writeRecovery slot => Sys2Proof.Machine.execWriteRecovery slot s
  | .writeConsumer slot => Sys2Proof.Machine.execWriteConsumer slot s
  | .enableConsumer slot => Sys2Proof.Machine.execEnableConsumer slot s
  | .disableConsumer slot => Sys2Proof.Machine.execDisableConsumer slot s
  | .readBudget slot => Sys2Proof.Machine.execReadBudget slot s
  | .loadDewTable slot => Sys2Proof.Machine.execLoadDewTable slot s
  | .writeSheet slot => Sys2Proof.Machine.execWriteSheet slot s
  | .enableFog slot => Sys2Proof.Machine.execEnableFog slot s
  | .disableFog slot => Sys2Proof.Machine.execDisableFog slot s
  | .writeFogCaps slot => Sys2Proof.Machine.execWriteFogCaps slot s
  | .readSheet slot => Sys2Proof.Machine.execReadSheet slot s
  | .writeZone slot => Sys2Proof.Machine.execWriteZone slot s
  | .enableZone slot => Sys2Proof.Machine.execEnableZone slot s
  | .disableZone slot => Sys2Proof.Machine.execDisableZone slot s
  | .readZone slot => Sys2Proof.Machine.execReadZone slot s
  | .configureBuffer slot => Sys2Proof.Machine.execConfigureBuffer slot s
  | .lockBuffer slot => Sys2Proof.Machine.execLockBuffer slot s
  | .unlockBuffer slot => Sys2Proof.Machine.execUnlockBuffer slot s
  | .writeScene slot => Sys2Proof.Machine.execWriteScene slot s
  | .commit slot => Sys2Proof.Machine.execCommit slot s
  | .enableBuffer slot => Sys2Proof.Machine.execEnableBuffer slot s
  | .disableBuffer slot => Sys2Proof.Machine.execDisableBuffer slot s
  | .readBuffer slot => Sys2Proof.Machine.execReadBuffer slot s
  | .setStepPeriod slot => Sys2Proof.Machine.execSetStepPeriod slot s
  | .writeGroup slot => Sys2Proof.Machine.execWriteGroup slot s
  | .enableGroup slot => Sys2Proof.Machine.execEnableGroup slot s
  | .disableGroup slot => Sys2Proof.Machine.execDisableGroup slot s
  | .readGroup slot => Sys2Proof.Machine.execReadGroup slot s
  | .writeProfile slot => Sys2Proof.Machine.execWriteProfile slot s
  | .setMode slot => Sys2Proof.Machine.execSetMode slot s
  | .coverSheet slot => Sys2Proof.Machine.execCoverSheet slot s
  | .uncoverSheet slot => Sys2Proof.Machine.execUncoverSheet slot s
  | .readProfile slot => Sys2Proof.Machine.execReadProfile slot s
  | .readStatus slot => Sys2Proof.Machine.execReadStatus slot s
  | .readNode slot => Sys2Proof.Machine.execReadNode slot s
  | .writeRights slot => Sys2Proof.Machine.execWriteRights slot s
  | .freezeRights slot => Sys2Proof.Machine.execFreezeRights slot s
  | .restart slot => Sys2Proof.Machine.execRestart slot s
  | .writeNoticeMask slot => Sys2Proof.Machine.execWriteNoticeMask slot s
  | .resetAsserted => Sys2Proof.Machine.execResetAsserted s

end Sys2Proof.Machine
end

