-- ==== Sys2Proof/Machine/Time.lean ====
section
/-! DEFINITION. The millisecond time base. The table has no row for its tick: where no command waits and nothing has
been handed, a step is one millisecond passing (DESIGN CHOICE, log entry 5). Every timer is a count down from the
milliseconds it was started with; its expiry is a command of its own. -/

namespace Sys2Proof.Machine

/-- A timer after one millisecond; one that has run out stands at 0 until its expiry is taken. -/
def countDown (t : Option Nat) : Option Nat := t.map (· - 1)

/-- The point's timers after one millisecond. -/
def tickPoint (p : Point) : Point :=
  { p with staleTimer := countDown p.staleTimer, settleTimer := countDown p.settleTimer }

/-- The sheet's timers after one millisecond. -/
def tickSheet (r : SheetRec) : SheetRec :=
  { r with fogTimer := countDown r.fogTimer, recoverTimer := countDown r.recoverTimer }

/-- One millisecond passes: the time base advances and every running timer counts down. -/
def tickMs (s : State) : State :=
  { s with
    timeBase := s.timeBase + 1
    line.silenceTimer := countDown s.line.silenceTimer
    line.wakeTimer := countDown s.line.wakeTimer
    line.statusTimer := countDown s.line.statusTimer
    points := s.points.map tickPoint
    budget.periodTimer := countDown s.budget.periodTimer
    fog.sheet1 := tickSheet s.fog.sheet1
    fog.sheet2 := tickSheet s.fog.sheet2
    scene.stepTimer := countDown s.scene.stepTimer }

/-- The part with nothing to do: a millisecond passes, unless the reset input holds it (R22). -/
def timePasses (s : State) : State := if s.line.held then s else tickMs s

end Sys2Proof.Machine
end

