-- ==== Sys2Proof/Safety.lean ====
section
/-! DEFINITION. The terms the statements use: when an owner can take a request and what its answer leaves, and the
invariants of a run. -/

namespace Sys2Proof.Machine

/-! ### Requests -/

/-- The owner can take this request of this kind in this slot now: the part is not held in reset, the slot holds it
CHECKED, and the other slot holds no earlier CHECKED request of the same owner (R174, R176). -/
structure CanTake (r : Req) (slot : SlotIx) (q : Request) (s : State) : Prop where
  awake : s.line.held = false
  staged : slotOf s.responder slot = .checked q
  code : q.code = codeOf r
  first : ∀ p, slotOf s.responder (otherSlot slot) = .checked p → s.responder.first = otherSlot slot →
    (reqOfCode p.code).map ownerOfReq ≠ some (ownerOfReq r)

/-- The state in which the owner finds a request it takes: the handing of the request is taken. -/
def taken (r : Req) (slot : SlotIx) (s : State) : State := takeHanded (takeCommand r slot) s

/-- The state after a request has been answered from the state its owner leaves: the reply at the tail of the Command
Queue, the slot REPLYING, and the arbiter's choice where Line Out is idle (R15, R174, R177). -/
def answered (r : Req) (slot : SlotIx) (q : Request) (status : Status) (results : List Byte) (s : State) : State :=
  arbitrate (placeReply slot q.source (replyPayload q.code q.handle status results) (decide (r = .restart)) s)

/-- R177: the request is answered with this status and no results, and nothing else changes. -/
def AnswersOnly (r : Req) (slot : SlotIx) (q : Request) (status : Status) (s : State) : Prop :=
  exec (takeCommand r slot) s = .next (answered r slot q status [] (taken r slot s))

/-! ### Frames -/

/-- A good frame of one of the seven kinds, from another node, arrives at Line In of a part that stands in the ring (R1,
R3, R22). -/
structure FromOther (frame : List Byte) (s : State) : Prop where
  awake : s.line.held = false
  inRing : s.line.relay = true
  good : goodFrame frame = true
  other : sourceOf frame ≠ s.line.own
  kind : 1 ≤ kindOf frame ∧ kindOf frame ≤ 7

/-- The state in which such a frame is dispatched: it has had its effect on Line In and has passed the sequence test of
its source (R5, R7). -/
def noted (frame : List Byte) (s : State) : State :=
  setNode (sourceOf frame) (testedNode (nodeRec s.line (sourceOf frame)) (seqOf frame)) (lineActivity s)

/-- The frame is a duplicate (R5). -/
def IsRepeat (frame : List Byte) (s : State) : Prop :=
  (nodeRec s.line (sourceOf frame)).seen = true ∧ seqOf frame = (nodeRec s.line (sourceOf frame)).last

/-- The frame is a MANAGE frame addressed to the part (R21). -/
def ManagesPart (frame : List Byte) (s : State) : Prop := kindOf frame = kindManage ∧ destOf frame = s.line.own

/-- The state after a frame to be forwarded has met the Forward Buffer: it enters the tail, or, where four frames stand
there, it is dropped, counted, and reported while the flag is armed (R9, R10). -/
def admitted (frame : List Byte) (s : State) : State :=
  if s.line.forward.length < 4 then { s with line.forward := s.line.forward ++ [frame] }
  else
    { s with
      line.overruns := min (s.line.overruns + 1) 65535
      line.overrunArmed := false
      handed := s.handed ++ if s.line.overrunArmed then
        [.noticeOffer .forwardOverrun 0 (min (s.line.overruns + 1) 65535 : Nat)] else [] }

/-- The enabled point that an entry with this source and channel reaches (R24). -/
structure Reaches (source channel : Nat) (i : PointIx) (s : State) : Prop where
  enabled : s.points[i].state ≠ .unused ∧ s.points[i].state ≠ .disabled
  key : s.points[i].defn.node = source ∧ s.points[i].defn.channel = channel
  only : ∀ j : PointIx, j ≠ i → s.points[j].state ≠ .unused →
    ¬(s.points[j].defn.node = source ∧ s.points[j].defn.channel = channel)

/-! ### Commands queued (R11, R114) -/

/-- R11: the Command Queue after actuator commands are queued in this order. -/
def enqueueAll (commands : List (ActAddr × Nat)) (q : List QueueEntry) : List QueueEntry :=
  commands.foldl (fun q c => enqueueCommand c.1 c.2 q) q

/-- R114: the corrective command for the valve of a zone that an event from s to t leaves above its allowed position. -/
def valveShed (s t : State) (i : ZoneIx) : List (ActAddr × Nat) :=
  let z := t.zones.zones[i]
  if z.state = .enabled ∧ z.allowed < s.zones.zones[i].lastForwarded then [(z.defn.valve, z.allowed)] else []

/-- R114: the corrective command for the boost actuator of a zone that an event from s to t leaves above its allowed
stages. -/
def boostShed (s t : State) (i : ZoneIx) : List (ActAddr × Nat) :=
  let z := t.zones.zones[i]
  match z.defn.boost with
  | some a =>
    if z.state = .enabled ∧ z.allowedStages < s.zones.zones[i].lastStages then [(a, z.allowedStages)] else []
  | none => []

/-! ### Queues and slots (R9, R11, R12, R14, R15, R21, R188) -/

/-- R188: at most 32 notices, and at most one for each kind and subject. -/
def NoticeQueueSound (s : State) : Prop :=
  s.notices.queue.length ≤ 32 ∧ s.notices.queue.Pairwise fun m n => ¬(m.kind = n.kind ∧ m.subject = n.subject)

/-- R11: at most one actuator command for each address. -/
def CommandQueueSound (s : State) : Prop :=
  s.line.queue.Pairwise fun d e => ∀ a v w, d = .actuator a v → e ≠ .actuator a w

/-- The entry is the reply of this slot. -/
def isReplyOf (slot : SlotIx) : QueueEntry → Bool
  | .reply k _ _ _ => k = slot
  | .actuator _ _ => false
  | .busy _ _ => false

/-- The frame being sent is the reply of this slot. -/
def sendsReplyOf (slot : SlotIx) : Option Sending → Bool
  | some ⟨_, .reply k _⟩ => k = slot
  | _ => false

/-- R12, R174: the replies of a slot that are pending or being sent. -/
def repliesOf (slot : SlotIx) (s : State) : Nat :=
  (s.line.queue.filter (isReplyOf slot)).length + if sendsReplyOf slot s.line.sending then 1 else 0

/-- R12, R21, R174: while the part is not held in reset, a slot is REPLYING exactly while its one reply is pending or
being sent, and no other slot has a reply; at most six BUSY replies are pending. -/
def RepliesSound (s : State) : Prop :=
  (s.line.queue.filter isBusy).length ≤ 6 ∧
    (s.line.held = true ∨
      ∀ slot, repliesOf slot s = if slotOf s.responder slot = .replying then 1 else 0)

/-- R9, R14, R15: four frames at most in the Forward Buffer, a run count of 0 to 4, an origin sequence of 0 to 15. -/
def LineOutSound (s : State) : Prop :=
  s.line.forward.length ≤ 4 ∧ s.line.runCount ≤ 4 ∧ s.line.originSeq < 16

/-! ### Counts (R1, R4, R5, R9, R21, R31, R32, R34, R35, R119, R141, R185, R188) -/

/-- A Node Table record in its ranges. -/
def nodeInRange (r : NodeRec) : Prop := r.last < 16 ∧ r.missed ≤ 65535 ∧ r.dup ≤ 65535

/-- The four counters of a point in their range. -/
def pointCountsInRange (p : Point) : Prop :=
  p.accepted ≤ 65535 ∧ p.rangeCount ≤ 65535 ∧ p.spikes ≤ 65535 ∧ p.faults ≤ 65535

/-- Every count stays in the range its rule gives it. -/
def CountsInRange (s : State) : Prop :=
  s.line.lineErrors ≤ 65535 ∧ s.line.overruns ≤ 65535 ∧ s.line.drops ≤ 65535 ∧ s.notices.overflow ≤ 65535 ∧
    s.notices.seconds ≤ 4294967295 ∧ s.scene.stepCounter < 64 ∧
    (∀ i : Fin 64, nodeInRange s.line.nodes[i]) ∧ (∀ i : PointIx, pointCountsInRange s.points[i]) ∧
    ∀ i : BufferIx, s.scene.buffers[i].generation < 256

/-! ### The Actuator Index (R17) -/

/-- A loaded record owns an address. -/
def Owns (s : State) (a : ActAddr) : ActOwner → Prop
  | .consumer i => consumerHolds a s.budget.consumers[i] = true
  | .zoneValve i => valveHolds a s.zones.zones[i] = true
  | .zoneBoost i => boostHolds a s.zones.zones[i] = true
  | .group i => groupHolds a s.scene.groups[i] = true

/-- R17: no address has two owners, and none names the part's own node or node 63. -/
def IndexSound (s : State) : Prop :=
  ∀ a o, Owns s a o → (∀ p, Owns s a p → p = o) ∧ a.node ≠ s.line.own ∧ a.node ≠ 63

/-- R17: the node of an address is one that no address may name: the part's own, or 63. -/
def AddrForeign (s : State) (a : ActAddr) : Prop := a.node = s.line.own ∨ a.node = 63

/-- R17: an address the check refuses for its owner: another record than the one being written owns it. -/
def AddrTaken (s : State) (mine : ActOwner → Prop) (a : ActAddr) : Prop :=
  ¬AddrForeign s a ∧ (∃ o, Owns s a o) ∧ ∀ o, Owns s a o → ¬mine o

/-- R17: an address that passes its checks: nothing but the record being written owns it. -/
def AddrFree (s : State) (mine : ActOwner → Prop) (a : ActAddr) : Prop :=
  ¬AddrForeign s a ∧ ∀ o, Owns s a o → mine o

/-! ### Points (R39, R42, R45, R46) -/

/-- The point is in FRESH or SETTLING. -/
abbrev live (p : Point) : Prop := p.state = .fresh ∨ p.state = .settling

/-- R45: between s and t, settling has been started on the points that `start` names and on no other: one in FRESH or
SETTLING with a settle time above 0 is in SETTLING, holding its value, its settle timer started; every other point is
unchanged. -/
def SettledFrom (start : PointIx → Prop) (s t : State) : Prop :=
  ∀ p : PointIx,
    (start p → 0 < s.points[p].defn.settleTime → live s.points[p] →
      t.points[p] = { s.points[p] with
        state := .settling, settleTimer := some (s.points[p].defn.settleTime * 100) }) ∧
    (¬(start p ∧ 0 < s.points[p].defn.settleTime ∧ live s.points[p]) → t.points[p] = s.points[p])

/-- R42: a point in STALE_SUB names a substitute in FRESH or SETTLING. R45, R46: the settle timer runs exactly in
SETTLING. R39: the stale timer runs in FRESH and SETTLING, and never in UNUSED and DISABLED. R26: no point is its own
substitute. -/
def PointsSound (s : State) : Prop :=
  ∀ i : PointIx,
    (s.points[i].state = .staleSub → ∃ j : PointIx, s.points[i].defn.substitute = some j ∧ live s.points[j]) ∧
    (s.points[i].settleTimer.isSome ↔ s.points[i].state = .settling) ∧
    (live s.points[i] → s.points[i].staleTimer.isSome) ∧
    (s.points[i].state = .unused ∨ s.points[i].state = .disabled → s.points[i].staleTimer = none) ∧
    s.points[i].defn.substitute ≠ some i

/-! ### Shares (R68, R69, R109) -/

/-- The sum of a figure over the captured consumers. -/
def captureSum (c : Capture) (f : ConsumerIx → ConsumerCapture → Nat) : Nat :=
  ((List.finRange 8).map fun i =>
    match c.consumers[i] with
    | some k => f i k
    | none => 0).sum

/-- The sum of a figure over the zones. -/
def zoneSum (f : ZoneIx → Nat) : Nat := ((List.finRange 24).map f).sum

/-! ### Grants (R67, R70) -/

/-- The sum of the grants of all consumers. -/
def grantSum (u : BudgetUnit) : Nat := (u.consumers.toList.map (·.grant)).sum

/-- R70: the grants together never exceed the usable heat. A consumer that is not ENABLED has no grant and no mark, and
while an allocation is in flight neither has one whose mark is clear a grant, and one whose mark is set has been captured
(R58, R66, R67). Classes, of records and of captures, are 0 to 3 (R56). -/
def GrantsSound (s : State) : Prop :=
  grantSum s.budget ≤ s.budget.usable ∧
    ∀ i : ConsumerIx,
      s.budget.consumers[i].defn.cls ≤ 3 ∧
      (s.budget.consumers[i].state ≠ .enabled →
        s.budget.consumers[i].grant = 0 ∧ s.budget.consumers[i].takingPart = false) ∧
      ∀ c, s.budget.allocation = some c →
        (s.budget.consumers[i].takingPart = false → s.budget.consumers[i].grant = 0) ∧
        (s.budget.consumers[i].takingPart = true → c.consumers[i].isSome) ∧
        ∀ k, c.consumers[i] = some k → k.defn.cls ≤ 3

/-! ### Zones (R113 to R115) -/

/-- The electric power of a zone's allowed stages. -/
def stagePowerOf (z : Zone) : Nat := z.allowedStages * z.defn.stagePower

/-- R113: the allowed stages of all zones together stay within the allowance last computed. -/
def BoostSound (s : State) : Prop :=
  s.zones.taken = s.budget.allowance ∧ (s.zones.zones.toList.map stagePowerOf).sum ≤ s.zones.taken

/-- R114, R115: an ENABLED zone's last forwarded position and stages never stand above what it is allowed. R107, R111:
its capped and allowed positions never stand above ten times its fog cap. R101, R103: those of any other zone are 0, and
so are the stages of a zone without a boost actuator. -/
def ForwardedSound (s : State) : Prop :=
  ∀ i : ZoneIx,
    (s.zones.zones[i].state = .enabled →
      s.zones.zones[i].lastForwarded ≤ s.zones.zones[i].allowed ∧
      s.zones.zones[i].lastStages ≤ s.zones.zones[i].allowedStages ∧
      s.zones.zones[i].capped ≤ 10 * s.zones.zones[i].fogCap ∧
      s.zones.zones[i].allowed ≤ 10 * s.zones.zones[i].fogCap) ∧
    (s.zones.zones[i].state ≠ .enabled →
      s.zones.zones[i].lastForwarded = 0 ∧ s.zones.zones[i].lastStages = 0 ∧ s.zones.zones[i].capped = 0 ∧
        s.zones.zones[i].allowed = 0) ∧
    (s.zones.zones[i].defn.boost = none → s.zones.zones[i].lastStages = 0)

/-! ### Buffers (R118 to R120, R131) -/

/-- R118: the mapping of buffers to slots is a permutation. -/
def SlotsSound (s : State) : Prop :=
  ∀ i j : BufferIx, s.scene.buffers[i].slot = s.scene.buffers[j].slot → i = j

/-- R131, R132: the buffers in TRANSFER are the two sides of the pair the engine is busy with, and none while it is
IDLE. -/
def TransferSound (s : State) : Prop :=
  ∀ i : BufferIx, s.scene.buffers[i].state = .transfer ↔
    ∃ n, s.scene.engine = some n ∧ (i = commitSide n ∨ i = outputSide n)

/-- R119, R120: the two buffers of a pair are of one type. In a PAIRED pair the commit side is never SELECTED, the output
side never locked, the commit side is disabled exactly while the output side is, and TRANSFER is held by both or by
neither. A SINGLE buffer is never in TRANSFER. -/
def PairsSound (s : State) : Prop :=
  ∀ n : PairIx,
    let c := s.scene.buffers[commitSide n]
    let o := s.scene.buffers[outputSide n]
    c.type = o.type ∧
    (c.type = .paired →
      c.state ≠ .selected ∧ o.state ≠ .locked ∧ o.state ≠ .disabledLocked ∧
      (c.state = .disabled ∨ c.state = .disabledLocked ↔ o.state = .disabled) ∧
      (c.state = .transfer ↔ o.state = .transfer)) ∧
    (c.type = .single → c.state ≠ .transfer ∧ o.state ≠ .transfer)

/-! ### Haze (R97, R154, R155) -/

/-- The group is an ENABLED haze source of this sheet. -/
def HazeGroup (sh : Sheet) (g : Group) : Prop :=
  g.state = .enabled ∧ g.defn.hazeSource = true ∧ g.defn.sheet = some sh

/-- R154: every ENABLED haze source of the sheet stands at level 0, and the Command Queue holds no command for its
dimmer above 0. -/
def SheetDark (sh : Sheet) (s : State) : Prop :=
  ∀ i : GroupIx, HazeGroup sh s.scene.groups[i] →
    s.scene.groups[i].level = 0 ∧
      ∀ v, QueueEntry.actuator s.scene.groups[i].defn.dimmer v ∈ s.line.queue → v = 0

/-- R154: an uncovered sheet whose fog state is other than CLEAR is dark, or its haze cut has been handed and not yet
taken (R94, R155). A covered sheet and one that is not ENABLED stand in CLEAR (R83, R97). The part is exempt while it is
held in reset. The clauses on the Actuator Index and the taking-part marks rule out states no run reaches, in which
another record's command could go to a group's dimmer. -/
def HazeSound (s : State) : Prop :=
  IndexSound s ∧
    (∀ i : ConsumerIx, s.budget.consumers[i].takingPart = true → s.budget.consumers[i].state = .enabled) ∧
    (s.line.held = true ∨ ∀ sh,
      (covered s sh = true → fogOf s sh = .clear) ∧
      ((sheetRec s.fog sh).state ≠ .enabled → fogOf s sh = .clear) ∧
      (covered s sh = false → fogOf s sh ≠ .clear → Instr.hazeCut sh ∈ s.handed ∨ SheetDark sh s))

/-! ### Definitions in range (chapter 11.5, R194) -/

/-- An actuator field: a node number and a channel. DEDUCED for the node (log entry 17). -/
def AddrInRange (a : ActAddr) : Prop := a.node ≤ 63 ∧ a.channel ≤ 15

/-- Chapter 2.1: a point's definition on a part of this node. -/
def PointInRange (own : Nat) (d : PointDef) : Prop :=
  d.node ≤ 62 ∧ d.node ≠ own ∧ d.channel ≤ 15 ∧ 9 ≤ d.rawWidth ∧ d.rawWidth ≤ 16 ∧
  -32768 ≤ d.gain ∧ d.gain ≤ 32767 ∧ -65535 ≤ d.offset ∧ d.offset ≤ 65535 ∧
  (match d.cls with
    | .temperature => -5000 ≤ d.lo ∧ d.hi ≤ 8000
    | .humidity => 0 ≤ d.lo ∧ d.hi ≤ 10000
    | .flow => 0 ≤ d.lo ∧ d.hi ≤ 20000
    | .haze => 0 ≤ d.lo ∧ d.hi ≤ 65535
    | .power => 0 ≤ d.lo ∧ d.hi ≤ 9999
    | .count => 0 ≤ d.lo ∧ d.hi ≤ 65535
    | .position => 0 ≤ d.lo ∧ d.hi ≤ 10000) ∧
  d.lo ≤ d.hi ∧ 1 ≤ d.staleLimit ∧ d.staleLimit ≤ 6000 ∧ 1 ≤ d.recoverCount ∧ d.recoverCount ≤ 8 ∧
  d.maxStep ≤ 65535 ∧ d.settleTime ≤ 600

/-- R50: recovery settings. -/
def RecoveryInRange (r : Recovery) : Prop := 3000 ≤ r.fluid ∧ r.fluid ≤ 4300 ∧ r.shift ≤ 6

/-- Chapter 3.2, R56: a consumer's definition, each field present or absent as its kind requires. -/
def ConsumerInRange (d : ConsumerDef) : Prop :=
  d.cls ≤ 3 ∧ 1 ≤ d.weight ∧ d.weight ≤ 15 ∧ d.cap ≤ 9999 ∧ d.floor ≤ d.cap ∧
  (d.sheet ≠ none ↔ d.kind = .subsoil ∨ d.kind = .regen) ∧
  (d.handling = match d.kind with
    | .subsoil => some .drive
    | .regen => some .drive
    | .spectator => none
    | .preheat => some .govern
    | .general => some .govern) ∧
  (d.addr = none ↔ d.kind = .spectator) ∧ (∀ a, d.addr = some a → AddrInRange a) ∧
  (if d.kind = .spectator then d.design = 0 else 1 ≤ d.design ∧ d.design ≤ 9999) ∧
  (d.settlePoint ≠ none → d.handling = some .drive) ∧
  (if d.kind = .subsoil then -5000 ≤ d.setpoint ∧ d.setpoint ≤ 8000 ∧ 1 ≤ d.band ∧ d.band ≤ 2000
  else d.tempPoint = 0 ∧ d.setpoint = 0 ∧ d.band = 0) ∧
  (if d.kind = .regen then
    d.demandClear ≤ 9999 ∧ d.demandWatch ≤ 9999 ∧ d.demandFog ≤ 9999 ∧ d.demandRecover ≤ 9999 ∧ d.fan ≤ 9999
  else d.demandClear = 0 ∧ d.demandWatch = 0 ∧ d.demandFog = 0 ∧ d.demandRecover = 0 ∧ d.fan = 0)

/-- Chapter 4.2: a sheet's definition. -/
def SheetInRange (d : SheetDef) : Prop :=
  d.k ≤ 256 ∧ -2000 ≤ d.fogMargin ∧ d.fogMargin < d.watchMargin ∧ d.watchMargin ≤ 5000 ∧ d.hysteresis ≤ 2000 ∧
  d.hazeClear < d.hazeLimit ∧ d.hazeLimit ≤ 65535 ∧ 10 ≤ d.recoverTime ∧ d.recoverTime ≤ 3600 ∧
  1 ≤ d.fogPeriod ∧ d.fogPeriod ≤ 60

/-- R95: the zone fog cap table. -/
def CapsInRange (t : CapTable) : Prop :=
  ∀ f, (capsOf t f).iceEdge ≤ 1000 ∧ (capsOf t f).mid ≤ 1000 ∧ (capsOf t f).upper ≤ 1000

/-- Chapter 5.1, R101: a zone's definition. -/
def ZoneInRange (d : ZoneDef) : Prop :=
  AddrInRange d.valve ∧ 1 ≤ d.design ∧ d.design ≤ 9999 ∧
  (d.boost = none → d.stageCount = 0 ∧ d.stagePower = 0) ∧
  ∀ a, d.boost = some a →
    AddrInRange a ∧ 1 ≤ d.stageCount ∧ d.stageCount ≤ 3 ∧ 1 ≤ d.stagePower ∧ d.stagePower ≤ 9999

/-- Chapter 7.2, R144: a group's definition. -/
def GroupInRange (d : GroupDef) : Prop :=
  AddrInRange d.dimmer ∧ d.rated ≤ 9999 ∧ (d.sheet = none → d.hazeSource = false)

/-- R125: a scene. -/
def SceneInRange (sc : Scene) : Prop :=
  (sc.entries.map (·.group)).Nodup ∧ ∀ e ∈ sc.entries, e.level ≤ 1000 ∧ e.fade ≤ 255

/-- R121: the fields CONFIGURE_BUFFER carries. -/
def ConfigInRange (c : BufferConfig) : Prop := c.filterValue ≤ 63 ∧ c.filterMask ≤ 63

/-- R161, R163: the profile of a mode. -/
def ProfileInRange (m : Mode) (p : Profile) : Prop :=
  p.eMax ≤ 9999 ∧ p.reserve ≤ 9999 ∧ 1 ≤ p.period ∧ p.period ≤ 60 ∧ p.ceiling ≤ 1000 ∧ p.capScale ≤ 1000 ∧
  (m ≠ .setback → p.exitTarget = .previous ∧ p.wakePoints = [])

/-! ### Modes (R164) -/

/-- R164: the previous-mode memory never holds SETBACK. -/
def ModeSound (s : State) : Prop := s.mode.previous ≠ .setback

end Sys2Proof.Machine
end

