-- ==== Sys2Proof/Certificates/Slice0/Obligations.lean ====
section
/-! DEFINITION. The statements for the provers: what each command does, what the shared computations give, and the
invariants every step keeps. -/

open Sys2Proof Sys2Proof.Machine

/-! ### The part as a whole -/

/-- A step takes the command at the front of the queue and runs it on the queue's rest. -/
def Obligations.StepRunsTheFrontCommand : Prop :=
  ∀ (s : State) (c : Instr) (rest : List Instr), s.pending = c :: rest → step s = exec c { s with pending := rest }

/-- With no command waiting, a step takes the oldest event one block has handed another; with none of these, one
millisecond passes: the time base advances by one and every running timer counts down by one, and nothing else
changes. The model's choice (log entries 2 and 5). The model's own in it: log entry 6. -/
def Obligations.IdleStepTakesTheHandedThenTime : Prop :=
  ∀ s : State, s.pending = [] →
    (∀ e rest, s.handed = e :: rest → step s = exec e s) ∧
    (s.handed = [] → s.line.held = true → step s = .next s) ∧
    (s.handed = [] → s.line.held = false → ∃ t, step s = .next t ∧
      t.timeBase = s.timeBase + 1 ∧
      t.line = { s.line with
        silenceTimer := s.line.silenceTimer.map (· - 1), wakeTimer := s.line.wakeTimer.map (· - 1)
        statusTimer := s.line.statusTimer.map (· - 1) } ∧
      (∀ i : PointIx, t.points[i] = { s.points[i] with
        staleTimer := s.points[i].staleTimer.map (· - 1), settleTimer := s.points[i].settleTimer.map (· - 1) }) ∧
      (∀ sh, sheetRec t.fog sh = { sheetRec s.fog sh with
        fogTimer := (sheetRec s.fog sh).fogTimer.map (· - 1)
        recoverTimer := (sheetRec s.fog sh).recoverTimer.map (· - 1) }) ∧
      t = { s with
        timeBase := t.timeBase, line := t.line, points := t.points
        budget.periodTimer := s.budget.periodTimer.map (· - 1)
        fog.sheet1 := t.fog.sheet1, fog.sheet2 := t.fog.sheet2
        scene.stepTimer := s.scene.stepTimer.map (· - 1) })

/-- Every command answers a next state and leaves the queue of waiting commands alone; and while the reset input is
asserted or the part is unpowered, no command but the two of the reset changes anything (R22). The model's own in it:
log entry 6. -/
def Obligations.EveryCommandAnswersANextState : Prop :=
  ∀ (c : Instr) (s : State), ∃ t, exec c s = .next t ∧ t.pending = s.pending ∧
    (s.line.held = true → (∀ own controller, c ≠ .powerOnReset own controller) → c ≠ .resetAsserted → t = s)

/-- R176, R177: whichever of the forty-four requests its owner takes, it is answered at that event with one status; a
reply with another status than DONE changes nothing and carries no results, and only a read request carries any. The
model's own in it: log entry 21. -/
def Obligations.RefusedRequestsChangeNothing : Prop :=
  ∀ (r : Req) (slot : SlotIx) (q : Request) (s : State), CanTake r slot q s →
    ∃ status results t, exec (takeCommand r slot) s = .next (answered r slot q status results t) ∧
      (status ≠ .done → t = taken r slot s ∧ results = []) ∧ (rightOf r ≠ .read → results = []) ∧
      (rightOf r = .read → r ≠ .readStatus → t = taken r slot s)

/-- R4, R22, R24, R119, R141, R160, R161, R178, R192 and the reset tables: POWER_ON_RESET puts every block at its
power-on values for the straps it reads, and RESET_ASSERTED releases the relay and cuts the frame being sent. The
model's own in it: log entries 2, 6, 7 and 9. -/
def Obligations.ResetCommandsSetThePart : Prop :=
  (∀ (own controller : Strap) (s : State), ∃ t, exec (.powerOnReset own controller) s = .next t ∧
    t.pending = s.pending ∧ t.handed = [] ∧ t.timeBase = 0 ∧ t.line.held = false ∧
    (t.line.relay = true ↔ own.val ≤ 62 ∧ controller.val ≤ 62 ∧ controller ≠ own) ∧
    t.line.own = own.val ∧ t.line.controller = controller.val ∧
    t.line.up = false ∧ t.line.silenceTimer = none ∧ t.line.wakeTimer = some 10 ∧ t.line.wakePending = false ∧
    (∀ i : Fin 64, t.line.nodes[i] = ⟨false, 0, 0, 0,
      if i = controller then ⟨true, true, true, true⟩ else ⟨true, false, false, false⟩⟩) ∧
    t.line.forward = [] ∧ t.line.queue = [] ∧ t.line.runCount = 0 ∧ t.line.sending = none ∧ t.line.originSeq = 0 ∧
    t.line.statusTimer = some 1000 ∧ t.line.lineErrors = 0 ∧ t.line.overruns = 0 ∧ t.line.drops = 0 ∧
    t.line.overrunArmed = true ∧
    (∀ i : PointIx, t.points[i] =
      ⟨⟨0, 0, .temperature, 0, 0, 0, 0, 0, 0, 0, 0, none, 0⟩, .unused, 0, 0, false, 0, .above, 0, none, 0, 0, 0, 0,
        none, none⟩) ∧
    (∀ i : ConsumerIx, t.budget.consumers[i] =
      ⟨⟨.subsoil, none, 0, 0, 0, 0, 0, none, none, none, 0, 0, 0, 0, 0, 0, 0, 0⟩, .unused, 0, 0, 0, 0, 0, 0, none, 0, 0,
        false⟩) ∧
    t.budget = ⟨none, 0, 0, 0, 0, false, false, t.budget.consumers, none, false, some 10000, 0, 0, 0, false⟩ ∧
    (∀ k : Fin 64, t.fog.dew[k] = 0) ∧ (∀ g : Fin 4, t.fog.loaded[g] = false) ∧
    (∀ sh, sheetRec t.fog sh =
      ⟨⟨0, 0, 0, 0, none, 0, 0, 0, 0, 0, 0, 0, 0⟩, .unused, .clear, 0, 0, 0, 0, false, false, false, false, false, false,
        none, none⟩) ∧
    (∀ sh, covered t sh = false) ∧
    (∀ f, capsOf t.fog.caps f = ⟨1000, 1000, 1000⟩) ∧ (∀ sh, capSet t.zones sh = ⟨1000, 1000, 1000⟩) ∧
    (∀ i : ZoneIx, t.zones.zones[i] =
      ⟨⟨none, .iceEdge, ⟨0, 0⟩, 0, none, 0, 0⟩, .unused, 0, 1000, 0, 0, 0, 0, 0, 0, 0, 0⟩) ∧
    t.zones.grant = none ∧ t.zones.taken = 0 ∧ t.zones.left = 0 ∧
    (∀ i : BufferIx, t.scene.store[i] = ⟨[], false⟩ ∧
      t.scene.buffers[i] = ⟨.single, .immediate, 0, 0, false, .disabled, false, false, 0, none, i⟩) ∧
    (∀ i : GroupIx, t.scene.results[i] = .none ∧
      t.scene.groups[i] = ⟨⟨⟨0, 0⟩, 0, none, false, false, false⟩, .unused, 0, none, none, false, none⟩) ∧
    t.scene = ⟨t.scene.store, t.scene.buffers, none, [], 1000, some 1000, 0, t.scene.groups, none, t.scene.results, 0⟩ ∧
    t.mode.mode = .practice ∧ t.mode.previous = .practice ∧
    (∀ m, profileOf t.mode m = ⟨0, 0, 10, 1000, 1000, .previous, []⟩) ∧
    t.responder.slot0 = .free ∧ t.responder.slot1 = .free ∧ t.responder.frozen = false ∧
    t.responder.restartPending = false ∧
    t.notices.queue = [] ∧ (∀ k, kindEnabled t.notices.mask k = true) ∧ t.notices.overflow = 0 ∧
    t.notices.seconds = 0 ∧ t.notices.causePower = true ∧ t.notices.causeRestart = false ∧ t.notices.status = none) ∧
  ∀ s : State, exec .resetAsserted s = .next { s with
    line.held := true, line.relay := false, line.sending := none, handed := [] }

/-- R12, R23, R49, R77, R99, R117, R140, R158, R159, R173, R174, R183, R192: the take of a RESTART sets the restart
pending flag and queues its DONE reply; and the completion of the sending of that reply puts every block at its
RESTART values, every search result at none. Of what had been handed, the model keeps the lighting load updates alone
(log entry 8), and each haze cut RESTART makes reports the load as it then stands (log entry 28). The model's own in
it: log entries 2, 7, 8, 21 and 28. -/
def Obligations.RestartTakesEffectAtItsReply : Prop :=
  (∀ (slot : SlotIx) (q : Request) (s : State), CanTake .restart slot q s →
    exec (.restart slot) s = .next (arbitrate (setSlot slot .replying { s with
      responder.restartPending := true
      line.queue := s.line.queue ++ [.reply slot q.source [q.code, q.handle, 0] true]
      handed := s.handed.erase (.restart slot) }))) ∧
  ∀ (s : State) (f : List Byte) (slot : SlotIx), s.line.held = false →
    s.line.sending = some ⟨f, .reply slot true⟩ → s.responder.restartPending = true →
    ∃ t, exec .lineOutSendComplete s = .next (arbitrate t) ∧
      t.responder = { s.responder with slot0 := .free, slot1 := .free, restartPending := false } ∧
      t.line.queue = enqueueAll ([Sheet.one, Sheet.two].flatMap fun sh =>
        ((List.finRange 32).filter fun i : GroupIx =>
          fogOf t sh = .watch && s.scene.groups[i].state = .enabled && s.scene.groups[i].defn.hazeSource &&
            s.scene.groups[i].defn.sheet = some sh).map fun i => (s.scene.groups[i].defn.dimmer, 0)) [] ∧
      (∀ i : Fin 64, t.line.nodes[i] = ⟨false, 0, 0, 0, s.line.nodes[i].rights⟩) ∧
      t.line = { s.line with
        nodes := t.line.nodes, queue := t.line.queue, runCount := 0, sending := none, statusTimer := some 1000
        lineErrors := 0, overruns := 0, drops := 0, overrunArmed := true } ∧
      (∀ i : PointIx, t.points[i] =
        if s.points[i].state = .unused then s.points[i]
        else if s.points[i].state = .disabled then
          ⟨s.points[i].defn, .disabled, 0, 0, false, 0, .above, 0, none, 0, 0, 0, 0, none, none⟩
        else ⟨s.points[i].defn, .never, 0, 0, false, 0, .above, 0, none, 0, 0, 0, 0,
          some (s.points[i].defn.staleLimit * 100), none⟩) ∧
      (∀ i : ConsumerIx, t.budget.consumers[i] =
        ⟨s.budget.consumers[i].defn, s.budget.consumers[i].state, 0, 0, 0, s.budget.consumers[i].defn.cls, 0, 0, none,
          0, 0, false⟩) ∧
      t.budget = { s.budget with
        rawHeat := 0, smoothed := 0, reserveUsed := 0, usable := 0, inputLost := false, degraded := false
        consumers := t.budget.consumers, allocation := none, pendingFlag := false
        periodTimer := some ((profileInForce s).period * 1000), fanPower := 0
        allowance := (profileInForce s).eMax - s.budget.load
        overDemand := decide ((profileInForce s).eMax < s.budget.load) } ∧
      (∀ sh, sheetRec t.fog sh =
        let r := sheetRec s.fog sh
        ⟨r.defn, r.state, if r.state = .enabled ∧ covered s sh = false then .watch else .clear, 0, 0, 0, 0, false, false,
          false, false, false, false, if r.state = .enabled then some (r.defn.fogPeriod * 1000) else none, none⟩) ∧
      t.fog.dew = s.fog.dew ∧ t.fog.loaded = s.fog.loaded ∧ t.fog.caps = s.fog.caps ∧
      (∀ sh, capSet t.zones sh = capsOf s.fog.caps (fogOf t sh)) ∧
      (∀ i : ZoneIx, t.zones.zones[i] = ⟨s.zones.zones[i].defn, s.zones.zones[i].state, 0,
        (match s.zones.zones[i].defn.sheet with
          | none => 1000
          | some sh => capOf (capsOf s.fog.caps (fogOf t sh)) s.zones.zones[i].defn.ring),
        0, 0, 0, 0, 0, 0, 0, 0⟩) ∧
      t.zones.grant = none ∧ t.zones.taken = t.budget.allowance ∧ t.zones.left = t.budget.allowance ∧
      t.scene.store = s.scene.store ∧ t.scene.view = [] ∧ t.scene.search = none ∧ t.scene.stepCounter = 0 ∧
      t.scene.stepPeriod = s.scene.stepPeriod ∧ t.scene.stepTimer = some s.scene.stepPeriod ∧
      (let ready := fun n : PairIx =>
        let c := s.scene.buffers[commitSide n]
        let o := s.scene.buffers[outputSide n]
        c.type = .paired ∧ c.committed = true ∧ c.state ≠ .disabled ∧ c.state ≠ .disabledLocked ∧
          o.state ≠ .disabled ∧ o.state ≠ .disabledLocked ∧ (c.commitMode = .streaming → o.committed = false)
       ∀ n, t.scene.engine = some n ↔ ready n ∧ ∀ m, m < n → ¬ready m) ∧
      (∀ i : BufferIx, t.scene.buffers[i] = { s.scene.buffers[i] with
        state := t.scene.buffers[i].state, played := false, lastPlayed := none }) ∧
      (∀ i : BufferIx, t.scene.buffers[i].state =
        if s.scene.buffers[i].state = .disabled ∨ s.scene.buffers[i].state = .disabledLocked then .disabled
        else if ∃ n, t.scene.engine = some n ∧ (i = commitSide n ∨ i = outputSide n) then .transfer else .idle) ∧
      (∀ i : GroupIx, t.scene.groups[i] =
        if ∃ sh ∈ [Sheet.one, Sheet.two], fogOf t sh = .watch ∧ s.scene.groups[i].state = .enabled ∧
            s.scene.groups[i].defn.hazeSource = true ∧ s.scene.groups[i].defn.sheet = some sh then
          ⟨s.scene.groups[i].defn, .enabled, 0, none, none, true, some 0⟩
        else { s.scene.groups[i] with fade := none, driver := none, lastSent := none }) ∧
      (∀ i : GroupIx, t.scene.results[i] = .none) ∧
      (let loadAfter : (Sheet → Bool) → Nat := fun cut => ((List.finRange 32).map fun i : GroupIx =>
          let g := s.scene.groups[i]
          if g.state = .enabled ∧ (g.defn.hazeSource && g.defn.sheet.any cut) = false then
            g.defn.rated * g.level / 1000
          else 0).sum
       let first := loadAfter fun sh => sh = .one
       let second := loadAfter fun sh => sh = .two || fogOf t .one = .watch
       t.handed = (s.handed.filter fun e => match e with
          | .lightingLoadUpdate _ => true
          | _ => false) ++
        (if fogOf t .one = .watch then [.lightingLoadUpdate first] else []) ++
        (if fogOf t .two = .watch then [.lightingLoadUpdate second] else []) ∧
       t.scene.loadReported =
        if fogOf t .two = .watch then second else if fogOf t .one = .watch then first else s.scene.loadReported) ∧
      t.mode = s.mode ∧ t.timeBase = s.timeBase ∧
      t.notices = { s.notices with queue := [], overflow := 0, seconds := 0, causeRestart := true, status := none } ∧
      ∀ e ∈ t.handed, ∃ load, e = .lightingLoadUpdate load

/-! ### The line -/

/-- R1 to R3, R6, R7, R9, R10, R24: the frame test; the effect of a good frame on Line In; a bad frame counted alone;
the part's own frame stripped; and every frame that is to be forwarded unchanged entering the Forward Buffer, or
dropped and counted when it is full. The entries of a SAMPLE frame that is not a duplicate reach the Point Unit when
there is room, in payload order: the channel from bits 3 to 0 of the first byte, FAULT from its bit 7, and the raw
value from the other two. A frame has no effect while the relay is released (log entry 6). The model's own in it: log
entries 2, 6, 12 and 21. -/
def Obligations.FramesAreTestedAndForwarded : Prop :=
  (∀ frame, goodFrame frame = true ↔
    5 ≤ frame.length ∧ frame.length = byteAt frame 4 + 7 ∧ byteAt frame 4 ≤ 48 ∧ byteAt frame 1 ≤ 62 ∧
      frame.drop (5 + byteAt frame 4) = u16 (crc16 (frame.take (5 + byteAt frame 4))).toNat) ∧
  (∀ (source : Nat) (s : State), sampleEntries source [] s = s ∧ ∀ (b hi lo : Byte) (rest : List Byte),
    sampleEntries source (b :: hi :: lo :: rest) s = sampleEntries source rest
      (sampleEntry source (b.toNat % 16) (decide (128 ≤ b.toNat)) (256 * hi.toNat + lo.toNat) s)) ∧
  (∀ (s : State) (frame : List Byte), s.line.held = false → s.line.relay = false →
    exec (.frameArrival frame) s = .next (arbitrate s)) ∧
  (∀ s : State, lineActivity s =
    if s.line.up then { s with line.silenceTimer := some 100 }
    else { s with
      line.up := true, line.silenceTimer := some 100, line.wakeTimer := none, line.wakePending := false
      handed := s.handed ++
        [.noticeOffer .lineUp 0 (min (s.timeBase - s.line.downSince) 2147483647 : Nat)] }) ∧
  (∀ (s : State) (frame : List Byte), s.line.held = false → s.line.relay = true →
    (goodFrame frame = false → exec (.frameArrival frame) s = .next (arbitrate { s with
      line.lineErrors := min (s.line.lineErrors + 1) 65535 })) ∧
    (goodFrame frame = true → sourceOf frame = s.line.own →
      exec (.frameArrival frame) s = .next (arbitrate (lineActivity s))) ∧
    (goodFrame frame = true → sourceOf frame ≠ s.line.own → kindOf frame = 0 ∨ 7 < kindOf frame →
      exec (.frameArrival frame) s = .next (arbitrate (admitted frame (lineActivity s))))) ∧
  ∀ (s : State) (frame : List Byte), FromOther frame s → ¬ManagesPart frame s →
    (4 ≤ s.line.forward.length →
      exec (.frameArrival frame) s = .next (arbitrate (admitted frame (noted frame s)))) ∧
    ((kindOf frame = 1 → sampleLength (lengthOf frame) = false) →
      (kindOf frame = 2 → commandLength (lengthOf frame) = false) →
      exec (.frameArrival frame) s = .next (arbitrate (admitted frame (noted frame s)))) ∧
    (kindOf frame = 1 → sampleLength (lengthOf frame) = true → s.line.forward.length < 4 →
      (IsRepeat frame s → exec (.frameArrival frame) s = .next (arbitrate (admitted frame (noted frame s)))) ∧
      (¬IsRepeat frame s → exec (.frameArrival frame) s = .next (arbitrate (admitted frame
        (sampleEntries (sourceOf frame) (payloadOf frame) (noted frame s))))))

/-- R5, R181, R195: the sequence test of a good frame of the seven kinds from another node, and READ_NODE, which
returns the record, or is refused with RANGE for a number above 63. The model's own in it: log entries 21 and 29. -/
def Obligations.SequenceTestKeepsTheNodeRecord : Prop :=
  (∀ (s : State) (frame : List Byte), FromOther frame s →
    let r := nodeRec s.line (sourceOf frame)
    ∃ t, exec (.frameArrival frame) s = .next t ∧
      (r.seen = false → nodeRec t.line (sourceOf frame) = { r with seen := true, last := seqOf frame }) ∧
      (r.seen = true → seqOf frame = r.last →
        nodeRec t.line (sourceOf frame) = { r with dup := min (r.dup + 1) 65535 }) ∧
      (r.seen = true → seqOf frame ≠ r.last → r.last < 16 →
        nodeRec t.line (sourceOf frame) = { r with
          missed := min (r.missed + (((seqOf frame : Int) - r.last - 1) % 16).toNat) 65535, last := seqOf frame }) ∧
      ∀ i : Fin 64, i.val ≠ sourceOf frame → t.line.nodes[i] = s.line.nodes[i]) ∧
  (∀ (slot : SlotIx) (q : Request) (s : State), CanTake .readNode slot q s → 63 < byteAt q.args 0 →
    AnswersOnly .readNode slot q .range s) ∧
  ∀ (slot : SlotIx) (q : Request) (s : State) (n : Fin 64), CanTake .readNode slot q s → byteAt q.args 0 = n.val →
    exec (.readNode slot) s = .next (answered .readNode slot q .done
      (u8 (if s.line.nodes[n].seen then 1 else 0) ++ u8 s.line.nodes[n].last ++ u16 s.line.nodes[n].missed ++
        u16 s.line.nodes[n].dup ++ u8 (rightsCode s.line.nodes[n].rights) ++
        u8 ((if n.val = s.line.own then 1 else 0) + if n.val = s.line.controller then 2 else 0))
      (taken .readNode slot s))

/-- R18 to R20, R105, R115: what becomes of one entry of a COMMAND frame. An address of no owner, a frame for 63 and
an owner that is not ENABLED leave it as it arrived. A governed actuator's entry is forwarded at the lesser of the
saturated and the allowed value, which its owner records, and hands the saturated value to the owner unless the frame
is a duplicate. A driven actuator's entry is forwarded at the part's own value with GOVERNED set. -/
def Obligations.CommandEntriesFollowTheirOwners : Prop :=
  ∀ (s : State) (dest channel : Nat) (dup : Bool) (v : Nat) (flag : Bool),
    let out := passEntry dest channel dup v flag s
    let mine := fun o => dest < 63 ∧ Owns s ⟨dest, channel⟩ o ∧ ∀ p, Owns s ⟨dest, channel⟩ p → p = o
    (63 ≤ dest ∨ (∀ o, ¬Owns s ⟨dest, channel⟩ o) → out = ⟨v, flag, s⟩) ∧
    (∀ i : ConsumerIx, mine (.consumer i) →
      let c := s.budget.consumers[i]
      (c.state ≠ .enabled → out = ⟨v, flag, s⟩) ∧
      (c.state = .enabled → c.defn.handling = some .drive →
        out = ⟨match c.lastSent with | some p => p | none => 0, true, s⟩) ∧
      (c.state = .enabled → c.defn.handling = some .govern →
        let w := min (min v 10000) c.allowed
        out = ⟨w, decide (w < v) || flag, { s with
          budget.consumers := s.budget.consumers.set i { c with
            lastForwarded := w, requested := if dup then c.requested else min v 10000 } }⟩)) ∧
    (∀ i : ZoneIx, mine (.zoneValve i) →
      let z := s.zones.zones[i]
      (z.state ≠ .enabled → out = ⟨v, flag, s⟩) ∧
      (z.state = .enabled →
        let w := min (min v 10000) z.allowed
        let capped := min (min v 10000) (10 * z.fogCap)
        out = ⟨w, decide (w < v) || flag, { s with
          zones.zones := s.zones.zones.set i (if dup then { z with lastForwarded := w }
            else { z with
              lastForwarded := w, reqPosition := min v 10000, capped := capped
              demand := capped * z.defn.design / 10000 }) }⟩)) ∧
    (∀ i : ZoneIx, mine (.zoneBoost i) →
      let z := s.zones.zones[i]
      (z.state ≠ .enabled → out = ⟨v, flag, s⟩) ∧
      (z.state = .enabled →
        let w := min (min v z.defn.stageCount) z.allowedStages
        out = ⟨w, decide (w < v) || flag, { s with
          zones.zones := s.zones.zones.set i { z with
            lastStages := w, reqStages := if dup then z.reqStages else min v z.defn.stageCount } }⟩)) ∧
    (∀ i : GroupIx, mine (.group i) →
      (s.scene.groups[i].state ≠ .enabled → out = ⟨v, flag, s⟩) ∧
      (s.scene.groups[i].state = .enabled → out = ⟨s.scene.groups[i].level, true, s⟩))

/-- R3, R18, R19: a COMMAND frame of a legal length that finds room leaves as one good frame with the header of the
frame that arrived. Its entries pass one by one in payload order, each from the state the one before it left, with the
duplicate mark of the frame; each leaves at the value and with the GOVERNED flag of its passing, and the last leaves
the records. Each entry keeps its channel and its unread bits; the entry of an address without an owner is as it
arrived, and the value for a governed actuator never stands above the one that arrived. Of the records only requested
and last forwarded values, and what follows from them, change. The model's own in it: log entry 21. -/
def Obligations.ForwardedCommandFrameStaysGood : Prop :=
  ∀ (s : State) (frame : List Byte), FromOther frame s → kindOf frame = 2 → commandLength (lengthOf frame) = true →
    s.line.forward.length < 4 →
    ∃ out t, exec (.frameArrival frame) s = .next (arbitrate t) ∧
      t.line.forward = s.line.forward ++ [out] ∧ goodFrame out = true ∧ out.length = frame.length ∧
      out.take 5 = frame.take 5 ∧
      (∃ dup : Bool, (dup = true ↔ IsRepeat frame s) ∧
        ∃ states : Nat → State, states 0 = noted frame s ∧
          (∀ k, 3 * k < lengthOf frame →
            let p := passEntry (destOf frame) (byteAt frame (5 + 3 * k) % 16) dup (wordAt frame (6 + 3 * k))
              (decide (128 ≤ byteAt frame (5 + 3 * k))) (states k)
            states (k + 1) = p.state ∧
            byteAt out (5 + 3 * k) = byteAt frame (5 + 3 * k) % 128 + (if p.governed then 128 else 0) ∧
            wordAt out (6 + 3 * k) = p.value % 65536) ∧
          t = { states (lengthOf frame / 3) with line.forward := s.line.forward ++ [out] }) ∧
      (∀ k, 3 * k < lengthOf frame →
        byteAt out (5 + 3 * k) % 128 = byteAt frame (5 + 3 * k) % 128 ∧
        (entryOwner s (destOf frame) (byteAt frame (5 + 3 * k) % 16) = none →
          byteAt out (5 + 3 * k) = byteAt frame (5 + 3 * k) ∧ wordAt out (6 + 3 * k) = wordAt frame (6 + 3 * k)) ∧
        (∀ i, entryOwner s (destOf frame) (byteAt frame (5 + 3 * k) % 16) = some (.zoneValve i) ∨
            entryOwner s (destOf frame) (byteAt frame (5 + 3 * k) % 16) = some (.zoneBoost i) →
          wordAt out (6 + 3 * k) ≤ wordAt frame (6 + 3 * k)) ∧
        (∀ i, entryOwner s (destOf frame) (byteAt frame (5 + 3 * k) % 16) = some (.consumer i) →
          s.budget.consumers[i].defn.handling = some .govern →
          wordAt out (6 + 3 * k) ≤ wordAt frame (6 + 3 * k))) ∧
      (∀ i : ConsumerIx, t.budget.consumers[i] = { s.budget.consumers[i] with
        requested := t.budget.consumers[i].requested, lastForwarded := t.budget.consumers[i].lastForwarded }) ∧
      (∀ i : ZoneIx, t.zones.zones[i] = { s.zones.zones[i] with
        reqPosition := t.zones.zones[i].reqPosition, capped := t.zones.zones[i].capped
        demand := t.zones.zones[i].demand, lastForwarded := t.zones.zones[i].lastForwarded
        reqStages := t.zones.zones[i].reqStages, lastStages := t.zones.zones[i].lastStages }) ∧
      t = { noted frame s with
        line.forward := t.line.forward, budget.consumers := t.budget.consumers, zones.zones := t.zones.zones }

/-- R6, R21, R174, R175, R177: the three checks of a request in their order, and what becomes of a MANAGE frame
addressed to the part. A duplicate is consumed. With both slots held it is answered BUSY, or dropped and counted when
six BUSY replies are pending. With a slot free it is refused at once with the slot REPLYING, or its slot holds it
CHECKED and it is handed to its owner. A code or handle the payload lacks is answered as 0, which R177 says of
BAD_FORMAT and log entry 31 of BUSY. The model's own in it: log entries 2, 11, 21 and 31. -/
def Obligations.RequestsAreStagedRefusedOrBusy : Prop :=
  (∀ (rights : Rights) (payload : List Byte),
    (payload.length < 2 → checkRequest rights payload = .refuse .badFormat) ∧
    ∀ code handle args, payload = code :: handle :: args →
      (reqOfCode code = none → checkRequest rights payload = .refuse .unknown) ∧
      ∀ r, reqOfCode code = some r →
        (argsFit r args = false → checkRequest rights payload = .refuse .badFormat) ∧
        (argsFit r args = true → holdsRight rights (rightOf r) = false →
          checkRequest rights payload = .refuse .rights) ∧
        (argsFit r args = true → holdsRight rights (rightOf r) = true → checkRequest rights payload = .pass r)) ∧
  ∀ (s : State) (frame : List Byte), FromOther frame s → ManagesPart frame s →
    let source := sourceOf frame
    let payload := payloadOf frame
    let code := payload.getD 0 0
    let handle := payload.getD 1 0
    let u := noted frame s
    (IsRepeat frame s → exec (.frameArrival frame) s = .next (arbitrate u)) ∧
    (¬IsRepeat frame s → s.responder.slot0 ≠ .free → s.responder.slot1 ≠ .free →
      exec (.frameArrival frame) s = .next (arbitrate
        (if (s.line.queue.filter isBusy).length < 6 then
          { u with line.queue := s.line.queue ++ [.busy source [code, handle, 1]] }
        else { u with line.drops := min (s.line.drops + 1) 65535 }))) ∧
    (¬IsRepeat frame s → ∀ slot : SlotIx, slotOf s.responder slot = .free → (slot = 1 → s.responder.slot0 ≠ .free) →
      (∀ st, checkRequest (nodeRec s.line source).rights payload = .refuse st →
        exec (.frameArrival frame) s = .next (arbitrate (setSlot slot .replying
          { u with line.queue := s.line.queue ++
            [.reply slot source [code, handle, BitVec.ofNat 8 (statusCode st)] false] }))) ∧
      (∀ r, checkRequest (nodeRec s.line source).rights payload = .pass r →
        ∃ t, exec (.frameArrival frame) s = .next (arbitrate t) ∧
          slotOf t.responder slot = .checked ⟨source, code, handle, payload.drop 2⟩ ∧
          slotOf t.responder (otherSlot slot) = slotOf s.responder (otherSlot slot) ∧
          (t.responder.first = otherSlot slot ↔ ∃ p, slotOf s.responder (otherSlot slot) = .checked p) ∧
          t.handed = u.handed ++ [takeCommand r slot] ∧
          t = { u with
            responder.slot0 := t.responder.slot0, responder.slot1 := t.responder.slot1
            responder.first := t.responder.first, handed := t.handed }))

/-- R7, R8, R16, R190: the expiries of the line's timers while they run. Silence takes Line In DOWN with a LINE_DOWN
notice; the wake timer makes a WAKE frame pending; the STATUS period forms a STATUS frame of the values in force
unless one is pending. The model's own in it: log entries 2, 5 and 21. -/
def Obligations.LineTimersExpire : Prop :=
  ∀ s : State, s.line.held = false →
    (s.line.up = true → s.line.silenceTimer ≠ none → exec .silenceTimerExpiry s = .next (arbitrate { s with
      line.up := false, line.silenceTimer := none, line.wakeTimer := some 10, line.downSince := s.timeBase
      handed := s.handed ++ [.noticeOffer .lineDown 0 (s.line.lineErrors : Nat)] })) ∧
    (s.line.up = false → s.line.wakeTimer ≠ none → exec .wakeTimerExpiry s = .next (arbitrate { s with
      line.wakePending := true, line.wakeTimer := some 10 })) ∧
    (s.line.statusTimer ≠ none → s.notices.status ≠ none → exec .statusPeriodExpiry s = .next (arbitrate { s with
      line.statusTimer := some 1000 })) ∧
    (s.line.statusTimer ≠ none → s.notices.status = none →
      ∃ p : List Byte, p.length = 14 ∧ byteAt p 0 = modeCode s.mode.mode ∧
        byteAt p 1 = fogCode (fogOf s .one) + 4 * fogCode (fogOf s .two) ∧
        byteAt p 2 = (if covered s .one then 1 else 0) + (if covered s .two then 2 else 0) +
          (if s.line.up then 4 else 0) ∧
        byteAt p 3 * 65536 + wordAt p 4 = s.budget.usable % 16777216 ∧ wordAt p 6 = s.budget.allowance % 65536 ∧
        byteAt p 8 * 65536 + wordAt p 9 = s.scene.loadReported % 16777216 ∧
        byteAt p 11 = s.scene.stepCounter % 256 ∧ wordAt p 12 = s.notices.overflow % 65536 ∧
        exec .statusPeriodExpiry s = .next (arbitrate { s with
          line.statusTimer := some 1000, notices.status := some p }))

/-- R8, R11, R12, R14, R15, R189: a command queued for an address enters the tail of the Command Queue, or replaces
the value of the one pending for that address in place. The arbiter's table, and the frame it takes from each source;
and the completion of a sending, which leaves Line Out free and frees the slot of a reply. The model's own in it: log
entry 21. -/
def Obligations.CommandQueueAndArbiterKeepTheirOrder : Prop :=
  (∀ (s : State) (a : ActAddr) (v : Nat),
    ((∀ w, .actuator a w ∉ s.line.queue) →
      queueCommand a v s = { s with line.queue := s.line.queue ++ [.actuator a v] }) ∧
    ∀ w before rest, s.line.queue = before ++ .actuator a w :: rest → (∀ x, .actuator a x ∉ before ++ rest) →
      queueCommand a v s = { s with line.queue := before ++ .actuator a v :: rest }) ∧
  ∀ s : State,
    (s.line.sending ≠ none → arbitrate s = s) ∧
    (s.line.sending = none →
      let others := s.line.queue ≠ [] ∨ s.notices.queue ≠ [] ∨ s.notices.status ≠ none
      let own := fun (source : SendSource) (dest kind : Nat) (payload : List Byte) (t : State) =>
        { t with
          line.runCount := 0
          line.sending := some ⟨frameOf dest s.line.own kind s.line.originSeq payload, source⟩
          line.originSeq := (s.line.originSeq + 1) % 16 }
      (∀ f rest, s.line.forward = f :: rest →
        (¬others → arbitrate s = { s with
          line.forward := rest, line.sending := some ⟨f, .forwarded⟩, line.runCount := 0 }) ∧
        (others → s.line.runCount < 4 → arbitrate s = { s with
          line.forward := rest, line.sending := some ⟨f, .forwarded⟩, line.runCount := s.line.runCount + 1 })) ∧
      (s.line.forward = [] ∨ 4 ≤ s.line.runCount →
        (∀ a v rest, s.line.queue = .actuator a v :: rest → arbitrate s =
          own .actuator a.node 2 (u8 (128 + a.channel) ++ u16 v) { s with line.queue := rest }) ∧
        (∀ slot dest p restart rest, s.line.queue = .reply slot dest p restart :: rest → arbitrate s =
          own (.reply slot restart) dest 4 p { s with line.queue := rest }) ∧
        (∀ dest p rest, s.line.queue = .busy dest p :: rest → arbitrate s =
          own .busy dest 4 p { s with line.queue := rest }) ∧
        (∀ n rest, s.line.queue = [] → s.notices.queue = n :: rest → arbitrate s =
          own .notice s.line.controller 5 (u8 (noticeCode n.kind) ++ u8 n.subject ++ s32 n.value ++ u32 n.stamp)
            { s with notices.queue := rest }) ∧
        (∀ p, s.line.queue = [] → s.notices.queue = [] → s.notices.status = some p → arbitrate s =
          own .status 63 6 p { s with notices.status := none })) ∧
      (s.line.forward = [] → ¬others → arbitrate s =
        if s.line.wakePending then own .wake 63 7 [] { s with line.wakePending := false } else s)) ∧
    (s.line.held = false → ∀ f,
      (∀ source, s.line.sending = some ⟨f, source⟩ → (∀ slot restart, source ≠ .reply slot restart) →
        exec .lineOutSendComplete s = .next (arbitrate { s with line.sending := none })) ∧
      ∀ slot, s.line.sending = some ⟨f, .reply slot false⟩ →
        exec .lineOutSendComplete s = .next (arbitrate (setSlot slot .free { s with line.sending := none })))

/-! ### Points -/

/-- R31, R32: an entry with FAULT set, and one whose raw value exceeds 2 to the power of the raw width less one, add
one to their count, saturating, and clear the recovery streak; nothing else changes. -/
def Obligations.RejectedEntriesCountAlone : Prop :=
  ∀ (s : State) (i : PointIx) (source channel raw : Nat), Reaches source channel i s →
    sampleEntry source channel true raw s = { s with
      points := s.points.set i { s.points[i] with faults := min (s.points[i].faults + 1) 65535, recovery := 0 } } ∧
    (2 ^ s.points[i].defn.rawWidth - 1 < raw → sampleEntry source channel false raw s = { s with
      points := s.points.set i
        { s.points[i] with rangeCount := min (s.points[i].rangeCount + 1) 65535, recovery := 0 } })

/-- R24, R33 to R38, R44: an entry within range. The candidate is scaled and saturated; a spike is rejected until the
third of its side; an accepted one restarts the stale timer, is counted and timed, and acts by the point's state: it
sets the value in NEVER and FRESH, leaves it in SETTLING, and adds to the recovery streak of a stale point, which
recovers when the streak reaches its recover count. An entry that no enabled point matches is passed over. The model's
own in it: log entries 2 and 7. -/
def Obligations.AcceptedEntriesFollowTheState : Prop :=
  (∀ (s : State) (source channel : Nat) (fault : Bool) (raw : Nat),
    (∀ i : PointIx, s.points[i].defn.node = source ∧ s.points[i].defn.channel = channel →
      s.points[i].state = .unused ∨ s.points[i].state = .disabled) →
    sampleEntry source channel fault raw s = s) ∧
  ∀ (s : State) (i : PointIx) (source channel raw : Nat), Reaches source channel i s →
    raw ≤ 2 ^ s.points[i].defn.rawWidth - 1 →
    let p := s.points[i]
    let scaled := divNearest ((raw : Int) * p.defn.gain) 1024 + p.defn.offset
    let v := if scaled < p.defn.lo then p.defn.lo else if p.defn.hi < scaled then p.defn.hi else scaled
    let tested := 0 < p.defn.maxStep ∧ p.state ≠ .never
    let spike := tested ∧ (p.defn.maxStep : Int) < |v - presentedValue s i|
    let side := if presentedValue s i < v then Side.above else Side.below
    let streak := if 0 < p.spikeCount ∧ p.spikeSide = side then p.spikeCount + 1 else 1
    let accepted := { p with
      clamped := decide (v ≠ scaled), staleTimer := some (p.defn.staleLimit * 100)
      accepted := min (p.accepted + 1) 65535, lastAccepted := some (s.timeBase % 2 ^ 32)
      spikeCount := if tested then 0 else p.spikeCount, spikeSide := if tested then .above else p.spikeSide }
    let fresh := { accepted with state := PointState.fresh, presented := v, ownValue := v, recovery := 0 }
    (spike → streak ≠ 3 → sampleEntry source channel false raw s = { s with
      points := s.points.set i { p with
        clamped := decide (v ≠ scaled), spikes := min (p.spikes + 1) 65535, spikeCount := streak, spikeSide := side
        recovery := 0 } }) ∧
    (spike ∧ streak = 3 ∨ ¬spike →
      (p.state = .fresh → sampleEntry source channel false raw s = { s with
        points := s.points.set i fresh, handed := s.handed ++ [.valueReport i v] }) ∧
      (p.state = .settling → sampleEntry source channel false raw s = { s with
        points := s.points.set i accepted }) ∧
      (p.state = .staleHeld ∨ p.state = .staleSub → p.recovery + 1 ≠ p.defn.recoverCount →
        sampleEntry source channel false raw s = { s with
          points := s.points.set i { accepted with recovery := p.recovery + 1 } }) ∧
      (p.state = .never ∨ ((p.state = .staleHeld ∨ p.state = .staleSub) ∧ p.recovery + 1 = p.defn.recoverCount) →
        ∃ t followers, sampleEntry source channel false raw s = t ∧ t.points[i] = fresh ∧
          (∀ j : PointIx, j ≠ i → t.points[j] =
            if s.points[j].state = .staleHeld ∧ s.points[j].defn.substitute = some i then
              { s.points[j] with state := .staleSub }
            else s.points[j]) ∧
          (∀ e, e ∈ followers ↔ ∃ j : PointIx, j ≠ i ∧ s.points[j].state = .staleHeld ∧
            s.points[j].defn.substitute = some i ∧ e = .noticeOffer .substituteOn j.val i.val) ∧
          t.handed = s.handed ++ (if p.state = .never then [] else [.noticeOffer .pointRecovered i.val v]) ++
            followers ++ [.valueReport i v] ∧
          t = { s with points := t.points, handed := t.handed }))

/-- R26: WRITE_POINT on an UNUSED or DISABLED record, its definition in range, its key free, its substitute and its
followers of its class: the record is DISABLED with that definition, every runtime field is cleared, and the request
is answered DONE. The first check that fails gives the status, and nothing changes: STATE for an enabled record, RANGE
for a definition out of range, CONFLICT for a key held, RANGE for a substitute that does not fit, and CONFLICT for a
follower of another class. The model's own in it: log entries 7 and 21. -/
def Obligations.WritePointLoadsTheDefinition : Prop :=
  (∀ (slot : SlotIx) (q : Request) (s : State) (i : PointIx) (d : PointDef),
    CanTake .writePoint slot q s → pointIxAt q.args 0 = i →
    (s.points[i].state = .unused ∨ s.points[i].state = .disabled) → pointArgs s.line.own q.args = some d →
    (∀ j : PointIx, j ≠ i → s.points[j].state ≠ .unused →
      ¬(s.points[j].defn.node = d.node ∧ s.points[j].defn.channel = d.channel)) →
    (∀ j, d.substitute = some j → j ≠ i ∧ s.points[j].state ≠ .unused ∧ s.points[j].defn.cls = d.cls) →
    (∀ j : PointIx, j ≠ i → s.points[j].state ≠ .unused → s.points[j].defn.substitute = some i →
      s.points[j].defn.cls = d.cls) →
    exec (.writePoint slot) s = .next (answered .writePoint slot q .done []
      { taken .writePoint slot s with
        points := s.points.set i ⟨d, .disabled, 0, 0, false, 0, .above, 0, none, 0, 0, 0, 0, none, none⟩ })) ∧
  ∀ (slot : SlotIx) (q : Request) (s : State) (i : PointIx), CanTake .writePoint slot q s → pointIxAt q.args 0 = i →
    let gives := fun status => AnswersOnly .writePoint slot q status s
    let writable := s.points[i].state = .unused ∨ s.points[i].state = .disabled
    (¬writable → gives .state) ∧
    (writable → pointArgs s.line.own q.args = none → gives .range) ∧
    ∀ d, writable → pointArgs s.line.own q.args = some d →
      let keyHeld := ∃ j : PointIx, j ≠ i ∧ s.points[j].state ≠ .unused ∧ s.points[j].defn.node = d.node ∧
        s.points[j].defn.channel = d.channel
      let fits := ∀ j, d.substitute = some j → j ≠ i ∧ s.points[j].state ≠ .unused ∧ s.points[j].defn.cls = d.cls
      (keyHeld → gives .conflict) ∧
      (¬keyHeld → ¬fits → gives .range) ∧
      (¬keyHeld → fits → (∃ j : PointIx, j ≠ i ∧ s.points[j].state ≠ .unused ∧ s.points[j].defn.substitute = some i ∧
        s.points[j].defn.cls ≠ d.cls) → gives .conflict)

/-- R27, R28, R29: ENABLE_POINT puts a DISABLED point in NEVER with its stale timer started and leaves an enabled one
alone; DISABLE_POINT stops both timers, clears the streaks and, from FRESH or SETTLING, drops the followers to
STALE_HELD with a POINT_STALE notice each; CLEAR_SUBSTITUTE makes the substitute absent in every state but UNUSED and
STALE_SUB. All three are refused with STATE for an UNUSED point, CLEAR_SUBSTITUTE for one in STALE_SUB too, and
DISABLE_POINT of a DISABLED point is DONE and changes nothing. The model's own in it: log entries 2, 7 and 21. -/
def Obligations.PointRequestsChangeThePointAndItsFollowers : Prop :=
  (∀ (slot : SlotIx) (q : Request) (s : State) (i : PointIx),
    CanTake .enablePoint slot q s → pointIxAt q.args 0 = i → s.points[i].state ≠ .unused →
    exec (.enablePoint slot) s = .next (answered .enablePoint slot q .done []
      (if s.points[i].state = .disabled then
        { taken .enablePoint slot s with
          points := s.points.set i
            { s.points[i] with
              state := .never, presented := 0, clamped := false, spikeCount := 0, spikeSide := .above, recovery := 0,
              staleTimer := some (s.points[i].defn.staleLimit * 100) } }
      else taken .enablePoint slot s))) ∧
  (∀ (slot : SlotIx) (q : Request) (s : State) (i : PointIx),
    CanTake .disablePoint slot q s → pointIxAt q.args 0 = i → s.points[i].state ≠ .unused →
    s.points[i].state ≠ .disabled →
    ∃ t, exec (.disablePoint slot) s = .next (answered .disablePoint slot q .done [] t) ∧
      t.points[i] = { s.points[i] with
        state := .disabled, presented := 0, spikeCount := 0, spikeSide := .above, recovery := 0, staleTimer := none,
        settleTimer := none } ∧
      (∀ j : PointIx, j ≠ i →
        t.points[j] =
          if live s.points[i] ∧ s.points[j].state = .staleSub ∧ s.points[j].defn.substitute = some i then
            { s.points[j] with state := .staleHeld, presented := s.points[i].presented }
          else s.points[j]) ∧
      t = { s with
        points := t.points
        handed := s.handed.erase (.disablePoint slot) ++
          (if live s.points[i] then (List.finRange 256).filter fun j =>
            s.points[j].state = .staleSub && s.points[j].defn.substitute = some i
          else []).map fun j => .noticeOffer .pointStale j.val s.points[i].presented }) ∧
  (∀ (slot : SlotIx) (q : Request) (s : State) (i : PointIx),
    CanTake .clearSubstitute slot q s → pointIxAt q.args 0 = i → s.points[i].state ≠ .unused →
    s.points[i].state ≠ .staleSub →
    exec (.clearSubstitute slot) s = .next (answered .clearSubstitute slot q .done []
      { taken .clearSubstitute slot s with
        points := s.points.set i { s.points[i] with defn.substitute := none } })) ∧
  ∀ (slot : SlotIx) (q : Request) (s : State) (i : PointIx), pointIxAt q.args 0 = i →
    let gives := fun (r : Req) (status : Status) => CanTake r slot q s → AnswersOnly r slot q status s
    (s.points[i].state = .unused →
      gives .enablePoint .state ∧ gives .disablePoint .state ∧ gives .clearSubstitute .state) ∧
    (s.points[i].state = .staleSub → gives .clearSubstitute .state) ∧
    (s.points[i].state = .disabled → gives .disablePoint .done)

/-- R40, R41, R43, R44, R46: the expiry of a running stale timer. A FRESH or SETTLING point goes to STALE_SUB when its
substitute is FRESH or SETTLING and to STALE_HELD otherwise, with both timers stopped, and its own followers fall to
STALE_HELD with the value they followed; a point in NEVER stays there, and one that is stale already clears its
streak. The expiry of a running settle timer returns a SETTLING point to FRESH with the value it held, and its
STALE_HELD followers go to STALE_SUB. The model's own in it: log entries 2, 5 and 21. -/
def Obligations.PointTimersAndSettlingMoveThePoint : Prop :=
  (∀ (s : State) (i : PointIx), s.line.held = false → s.points[i].staleTimer ≠ none →
    s.points[i].defn.substitute ≠ some i →
    (live s.points[i] →
      ∃ t, exec (.staleTimerExpiry i) s = .next (arbitrate t) ∧
        t.points[i] = { s.points[i] with
          state := if ∃ j, s.points[i].defn.substitute = some j ∧ live s.points[j] then .staleSub else .staleHeld
          staleTimer := none, settleTimer := none, recovery := 0 } ∧
        (∀ j : PointIx, j ≠ i →
          t.points[j] =
            if s.points[j].state = .staleSub ∧ s.points[j].defn.substitute = some i then
              { s.points[j] with state := .staleHeld, presented := s.points[i].presented }
            else s.points[j]) ∧
        (let fallen := ((List.finRange 256).filter fun j =>
            s.points[j].state = .staleSub && s.points[j].defn.substitute = some i).map fun j =>
              Instr.noticeOffer .pointStale j.val s.points[i].presented
         (∀ j, s.points[i].defn.substitute = some j → live s.points[j] →
          t.handed = s.handed ++ .noticeOffer .substituteOn i.val j.val :: fallen) ∧
         ((∀ j, s.points[i].defn.substitute = some j → ¬live s.points[j]) →
          t.handed = s.handed ++ .noticeOffer .pointStale i.val s.points[i].presented :: fallen)) ∧
        t = { s with points := t.points, handed := t.handed }) ∧
    (s.points[i].state = .never →
      exec (.staleTimerExpiry i) s = .next (arbitrate { s with
        points := s.points.set i { s.points[i] with staleTimer := none }
        handed := s.handed ++ [.noticeOffer .pointStale i.val 0] })) ∧
    (s.points[i].state = .staleHeld ∨ s.points[i].state = .staleSub →
      exec (.staleTimerExpiry i) s = .next (arbitrate { s with
        points := s.points.set i { s.points[i] with staleTimer := none, recovery := 0 } }))) ∧
  (∀ (s : State) (i : PointIx), s.line.held = false → s.points[i].settleTimer ≠ none →
    s.points[i].state = .settling →
    ∃ t, exec (.settleTimerExpiry i) s = .next (arbitrate t) ∧
      t.points[i] = { s.points[i] with state := .fresh, settleTimer := none } ∧
      (∀ j : PointIx, j ≠ i →
        t.points[j] =
          if s.points[j].state = .staleHeld ∧ s.points[j].defn.substitute = some i then
            { s.points[j] with state := .staleSub }
          else s.points[j]) ∧
      t = { s with
        points := t.points
        handed := s.handed ++ ((List.finRange 256).filter fun j =>
          s.points[j].state = .staleHeld && s.points[j].defn.substitute = some i).map fun j =>
            .noticeOffer .substituteOn j.val i.val }) ∧
  ∀ (s : State) (i : PointIx), SettledFrom (· = i) s (settleStart i s) ∧
    settleStart i s = { s with points := (settleStart i s).points }

/-! ### Budget -/

/-- R64 to R66: a reallocation request in IDLE, and an expiry of the running period timer in IDLE, start an
allocation: the settings, the three recovery readings, the profile's reserve and cap scale, the fog states, the
aggregate zone demand and every ENABLED consumer are captured, the marks of the ENABLED consumers are set and the
timer runs from this start. In ALLOCATING either one sets the pending flag. The model's own in it: log entries 2, 5,
21 and 25. -/
def Obligations.ReallocationStartsOrPends : Prop :=
  (∀ s : State, s.line.held = false → s.budget.allocation = none →
    ∃ c, c.settings = s.budget.settings ∧
      (∀ r, s.budget.settings = some r →
        c.supply = readAs s .temperature r.supply ∧ c.ret = readAs s .temperature r.ret ∧
          c.flow = readAs s .flow r.flow) ∧
      c.reserve = (profileInForce s).reserve ∧ c.capScale = (profileInForce s).capScale ∧
      c.fog1 = fogOf s .one ∧ c.fog2 = fogOf s .two ∧
      c.zoneDemand = (s.zones.zones.toList.map fun z => if z.state = .enabled then z.demand else 0).sum ∧
      (∀ i : ConsumerIx, c.consumers[i] =
        if s.budget.consumers[i].state = .enabled then
          some ⟨s.budget.consumers[i].defn, readAs s .temperature s.budget.consumers[i].defn.tempPoint,
            s.budget.consumers[i].requested⟩
        else none) ∧
      exec .reallocationRequest s = .next (arbitrate { s with
        handed := s.handed.erase .reallocationRequest
        budget.allocation := some c
        budget.consumers := s.budget.consumers.map fun r => { r with takingPart := decide (r.state = .enabled) }
        budget.periodTimer := some ((profileInForce s).period * 1000) }) ∧
      (s.budget.periodTimer ≠ none → exec .allocationPeriodExpiry s = .next (arbitrate { s with
        budget.allocation := some c
        budget.consumers := s.budget.consumers.map fun r => { r with takingPart := decide (r.state = .enabled) }
        budget.periodTimer := some ((profileInForce s).period * 1000) }))) ∧
  (∀ s : State, s.line.held = false → s.budget.allocation ≠ none →
    exec .reallocationRequest s = .next (arbitrate { s with
      handed := s.handed.erase .reallocationRequest, budget.pendingFlag := true }) ∧
    (s.budget.periodTimer ≠ none → exec .allocationPeriodExpiry s = .next (arbitrate { s with
      budget.periodTimer := none, budget.pendingFlag := true })))

/-- R51 to R54, R65, R67, R70 to R76, R114: the completion of an allocation publishes Q, Qf, the reserve used, U and
the flags; each consumer whose mark is still set receives its demand, effective values, grant and, where it has a
handling, its allowed position, and every other keeps its own. A DRIVE consumer whose position changed queues a
command and starts settling on its settle point, a GOVERN consumer left above its allowed position queues a corrective
command; the spectator grant is handed to the zones before the electric recomputation, and both shed the zones they
lower. A set pending flag is cleared and starts the next allocation, and otherwise the state is IDLE. Nothing else
changes. The model's own in it: log entries 2, 21, 24 and 26. -/
def Obligations.CompletionPublishesTheAllocation : Prop :=
  ∀ (s : State) (c : Capture), s.line.held = false → s.budget.allocation = some c →
    ∃ t, exec .allocationCompletion s = .next (arbitrate t) ∧
      t.budget.rawHeat = heatOf c ∧
      t.budget.smoothed = smoothHeat (shiftOf c) (heatOf c) s.budget.smoothed ∧
      t.budget.reserveUsed = c.reserve ∧
      t.budget.usable = t.budget.smoothed - c.reserve ∧
      t.budget.inputLost = heatInputLost c ∧ t.budget.degraded = heatDegraded c ∧
      (∀ i : ConsumerIx, s.budget.consumers[i].takingPart = true → ∀ k, c.consumers[i] = some k →
        t.budget.consumers[i].demand = demandOf c k ∧
        t.budget.consumers[i].effCap = effectiveCap c k ∧
        t.budget.consumers[i].effDemand = min (demandOf c k) (effectiveCap c k) ∧
        t.budget.consumers[i].effClass = effectiveClass c k ∧
        t.budget.consumers[i].grant = (grantsOf c t.budget.usable).getD i 0 ∧
        t.budget.consumers[i].allowed =
          (if k.defn.handling = none then s.budget.consumers[i].allowed
          else min (t.budget.consumers[i].grant * 10000 / k.defn.design) 10000)) ∧
      (∀ i : ConsumerIx, s.budget.consumers[i].takingPart = true →
        let r := s.budget.consumers[i]
        let q := t.budget.consumers[i]
        q.lastSent = (if r.defn.handling = some .drive ∧ r.defn.addr ≠ none then some q.allowed else r.lastSent) ∧
        q.lastForwarded =
          (if r.defn.handling = some .govern ∧ r.defn.addr ≠ none then min r.lastForwarded q.allowed
          else r.lastForwarded) ∧
        q.defn = r.defn ∧ q.state = r.state ∧ q.requested = r.requested) ∧
      (∀ i : ConsumerIx, s.budget.consumers[i].takingPart = false →
        t.budget.consumers[i] = { s.budget.consumers[i] with takingPart := t.budget.consumers[i].takingPart }) ∧
      (∀ i : ConsumerIx, t.budget.consumers[i].takingPart =
        (s.budget.pendingFlag && decide (s.budget.consumers[i].state = .enabled))) ∧
      (let drives := fun i : ConsumerIx =>
        let r := s.budget.consumers[i]
        r.takingPart = true ∧ r.defn.handling = some .drive ∧ r.lastSent ≠ some t.budget.consumers[i].allowed
       let sheds := fun i : ConsumerIx =>
        let r := s.budget.consumers[i]
        r.takingPart = true ∧ r.defn.handling = some .govern ∧ t.budget.consumers[i].allowed < r.lastForwarded
       t.line.queue = enqueueAll
        ((List.finRange 8).flatMap (fun i =>
            if drives i ∨ sheds i then
              s.budget.consumers[i].defn.addr.toList.map fun a => (a, t.budget.consumers[i].allowed)
            else []) ++
          (List.finRange 24).flatMap (valveShed s t) ++ (List.finRange 24).flatMap (boostShed s t)) s.line.queue ∧
       SettledFrom (fun p => ∃ i, drives i ∧ s.budget.consumers[i].defn.addr ≠ none ∧
        s.budget.consumers[i].defn.settlePoint = some p) s t) ∧
      t.zones.grant = ((List.finRange 8).find? fun i =>
        s.budget.consumers[i].takingPart && s.budget.consumers[i].defn.kind = .spectator).map
          (fun i => t.budget.consumers[i].grant) ∧
      t.zones = (distributeBoost t.budget.allowance (splitGrant t.zones.grant s)).zones ∧
      t.budget.fanPower = (t.budget.consumers.toList.map fun r =>
        if r.state = .enabled ∧ r.defn.kind = .regen ∧ 0 < r.grant then r.defn.fan else 0).sum ∧
      t.budget.allowance = (profileInForce s).eMax - (s.budget.load + t.budget.fanPower) ∧
      t.budget.overDemand = decide ((profileInForce s).eMax < s.budget.load + t.budget.fanPower) ∧
      t.budget.allocation = (if s.budget.pendingFlag then some (captureInputs t) else none) ∧
      t.budget.periodTimer = (if s.budget.pendingFlag then some ((profileInForce s).period * 1000)
        else s.budget.periodTimer) ∧
      t.budget.pendingFlag = false ∧ t.budget.settings = s.budget.settings ∧ t.budget.load = s.budget.load ∧
      t.handed = s.handed ++
        (if t.budget.inputLost && !s.budget.inputLost then
          [.noticeOffer .heatInputLost 0 ((if c.supply.quality = .none then 1 else 0) +
            (if c.ret.quality = .none then 2 else 0) + (if c.flow.quality = .none then 4 else 0) : Nat)]
        else []) ++
        (if t.budget.overDemand = s.budget.overDemand then []
        else [.noticeOffer (if t.budget.overDemand then .overDemandOn else .overDemandOff) 0
          (s.budget.load + t.budget.fanPower : Nat)]) ∧
      t = { s with
        budget := t.budget, zones := t.zones, points := t.points, line.queue := t.line.queue, handed := t.handed }

/-- R60 to R63, R68 to R70: the demand, the effective cap and the effective class of a captured consumer, by its kind;
and what the floor pass and the need pass grant it out of U, class by class from 0 to 3. A class the remainder holds
is given its floor parts, or its needs, in full. Otherwise the floor parts are cut in proportion, with one unit left
over to each floor part above 0 in ascending index, and the needs by weight, with the units left over to the unmet
needs in ascending index; the classes after it are given nothing in that pass. The grants together stay within U; no
consumer is granted more than the lesser of its demand and its effective cap; where U holds the sum of the floor
parts, every consumer is granted at least its floor part; and where U holds every effective demand, each is granted
it. The premise on the classes is an invariant (`GrantsSound`). -/
def Obligations.GrantsKeepWithinHeatAndDemand : Prop :=
  (∀ (c : Capture) (k : ConsumerCapture),
    let d := k.defn
    let fogNow := match d.sheet with
      | some .one => c.fog1
      | some .two => c.fog2
      | none => .clear
    (d.kind = .subsoil →
      (k.temp.quality = .none → demandOf c k = d.cap) ∧
      (k.temp.quality ≠ .none → d.setpoint ≤ k.temp.value → demandOf c k = d.floor) ∧
      (k.temp.quality ≠ .none → k.temp.value < d.setpoint → k.temp.value ≤ d.setpoint - d.band →
        demandOf c k = d.cap) ∧
      (k.temp.quality ≠ .none → d.setpoint - d.band < k.temp.value → k.temp.value < d.setpoint →
        demandOf c k = d.floor + (d.cap - d.floor) * (d.setpoint - k.temp.value).toNat / d.band)) ∧
    (d.kind = .regen → demandOf c k = match fogNow with
      | .clear => d.demandClear
      | .watch => d.demandWatch
      | .fog => d.demandFog
      | .recover => d.demandRecover) ∧
    (d.kind = .spectator → demandOf c k = c.zoneDemand) ∧
    (d.kind = .preheat ∨ d.kind = .general → demandOf c k = k.requested * d.design / 10000) ∧
    effectiveCap c k = (if d.kind = .spectator then d.cap * c.capScale / 1000 else d.cap) ∧
    effectiveClass c k = if d.kind = .regen ∧ (fogNow = .fog ∨ fogNow = .recover) then 0 else d.cls) ∧
  ∀ (c : Capture) (usable : Nat), (∀ i : ConsumerIx, ∀ k, c.consumers[i] = some k → k.defn.cls ≤ 3) →
    let cls := effectiveClass c
    let full := fun k => min (demandOf c k) (effectiveCap c k)
    let floor := fun k : ConsumerCapture => min k.defn.floor (full k)
    let need := fun k => full k - floor k
    let ofClass := fun (q : Nat) (f : ConsumerCapture → Nat) => captureSum c fun _ k => if cls k = q then f k else 0
    let before := fun (q : Nat) (f : ConsumerCapture → Nat) => captureSum c fun _ k => if cls k < q then f k else 0
    let earlier := fun (i : ConsumerIx) (q : Nat) (f : ConsumerCapture → Nat) =>
      captureSum c fun j k => if cls k = q ∧ j < i then f k else 0
    (grantsOf c usable).sum ≤ usable ∧
    ∀ i : ConsumerIx, ∀ k, c.consumers[i] = some k →
      (let q := cls k
       let left := usable - before q floor
       let cut := fun j => left * floor j / ofClass q floor
       let floorGiven := if ofClass q floor ≤ left then floor k
        else cut k + if 0 < floor k ∧ (earlier i q fun j => if 0 < floor j then 1 else 0) < left - ofClass q cut
          then 1 else 0
       let rest := usable - captureSum c (fun _ j => floor j) - before q need
       let weights := ofClass q fun j => if 0 < need j then j.defn.weight else 0
       let part := fun j => min (need j) (rest * j.defn.weight / weights)
       let needGiven := if ofClass q need ≤ rest then need k
        else part k + min (need k - part k) (rest - ofClass q part - earlier i q fun j => need j - part j)
       (grantsOf c usable).getD i 0 = floorGiven + needGiven) ∧
      (grantsOf c usable).getD i 0 ≤ full k ∧
      (captureSum c (fun _ j => floor j) ≤ usable → floor k ≤ (grantsOf c usable).getD i 0) ∧
      (captureSum c (fun _ j => full j) ≤ usable → (grantsOf c usable).getD i 0 = full k)

/-- R51, R52, R53: what an allocation makes of its captured readings. With the settings unloaded Q is 0 and both flags
are clear. INPUT_LOST is set where a reading is of quality NONE, and Q is then 0; DEGRADED is set where none is but
one is HELD or SUBSTITUTED, and is clear beside INPUT_LOST (log entry 24). Otherwise Q is the product of flow, fluid
constant and temperature drop over 1,000,000, saturated, or 0 without a drop or a flow. At each allocation Qf takes
one smoothing step toward Q with the captured shift. A step takes Qf toward Q by at least one and never past it, by
the whole difference under a shift of 0, and repeated steps reach Q; Qf is 0 after both resets. The model's own in it:
log entries 21 and 24. -/
def Obligations.SmoothedHeatFollowsTheHeat : Prop :=
  (∀ c : Capture,
    (c.settings = none →
      heatOf c = 0 ∧ shiftOf c = 0 ∧ heatInputLost c = false ∧ heatDegraded c = false) ∧
    ∀ r, c.settings = some r →
      let lost := ∃ q ∈ [c.supply, c.ret, c.flow], q.quality = .none
      shiftOf c = r.shift ∧ (heatInputLost c = true ↔ lost) ∧
      (heatDegraded c = true ↔
        ¬lost ∧ ∃ q ∈ [c.supply, c.ret, c.flow], q.quality = .held ∨ q.quality = .substituted) ∧
      (lost → heatOf c = 0) ∧
      (¬lost → c.supply.value ≤ c.ret.value ∨ c.flow.value ≤ 0 → heatOf c = 0) ∧
      (¬lost → c.ret.value < c.supply.value → 0 < c.flow.value → heatOf c =
        min ((c.flow.value * r.fluid * (c.supply.value - c.ret.value)).toNat / 1000000) 999999)) ∧
  (∀ shift q qf : Nat,
    (q = qf → smoothHeat shift q qf = qf) ∧
    (qf < q → smoothHeat shift q qf = qf + max ((q - qf) / 2 ^ shift) 1 ∧ smoothHeat shift q qf ≤ q) ∧
    (q < qf → smoothHeat shift q qf = qf - (qf - q + 2 ^ shift - 1) / 2 ^ shift ∧ q ≤ smoothHeat shift q qf ∧
      smoothHeat shift q qf < qf) ∧
    smoothHeat 0 q qf = q ∧
    (q ≤ 999999 → qf ≤ 999999 → smoothHeat shift q qf ≤ 999999) ∧
    ∃ n, (smoothHeat shift q)^[n] qf = q) ∧
  (∀ (s : State) (c : Capture), s.line.held = false → s.budget.allocation = some c →
    ∃ t, exec .allocationCompletion s = .next (arbitrate t) ∧
      t.budget.smoothed = smoothHeat (shiftOf c) (heatOf c) s.budget.smoothed) ∧
  (∀ own controller pending, (powerOnState own controller pending).budget.smoothed = 0) ∧
  ∀ s, (restartEffect s).budget.smoothed = 0

/-- R75, R76, R113, R114: an electric recomputation, alone or at a lighting load update, works out the fan power of
the ENABLED REGEN consumers with a grant, the allowance and OVER_DEMAND from the ceiling of the mode in force, hands
the allowance to the zones, which shed the boost actuators it lowers, and offers a notice exactly when OVER_DEMAND
changes. No consumer changes. The model's own in it: log entries 2 and 21. -/
def Obligations.RecomputationGivesTheElectricShare : Prop :=
  ∀ (s : State) (load : Nat), s.line.held = false →
    ∀ e, (e = .electricRecompute ∧ load = s.budget.load) ∨ e = .lightingLoadUpdate load →
    ∃ t, exec e s = .next (arbitrate t) ∧
      t.budget.load = load ∧
      t.budget.fanPower = (s.budget.consumers.toList.map fun c =>
        if c.state = .enabled ∧ c.defn.kind = .regen ∧ 0 < c.grant then c.defn.fan else 0).sum ∧
      t.budget.allowance = (profileInForce s).eMax - (load + t.budget.fanPower) ∧
      (t.budget.overDemand = true ↔ (profileInForce s).eMax < load + t.budget.fanPower) ∧
      t.zones = (distributeBoost t.budget.allowance s).zones ∧ t.zones.taken = t.budget.allowance ∧
      t.line.queue = enqueueAll ((List.finRange 24).flatMap (boostShed s t)) s.line.queue ∧
      t.handed = s.handed.erase e ++
        (if t.budget.overDemand = s.budget.overDemand then []
        else [.noticeOffer (if t.budget.overDemand then .overDemandOn else .overDemandOff) 0
          (load + t.budget.fanPower : Nat)]) ∧
      t.budget = { s.budget with
        load := load, fanPower := t.budget.fanPower, allowance := t.budget.allowance
        overDemand := t.budget.overDemand } ∧
      t = { s with budget := t.budget, zones := t.zones, line.queue := t.line.queue, handed := t.handed }

/-- R17, R56, R67, R176: WRITE_CONSUMER on a record that is not ENABLED, its definition in range, no second holder of
its kind and its address free for it: the record is DISABLED with that definition and cleared runtime fields, and the
commands pending for an address it no longer holds leave the Command Queue, and a reallocation request is raised (log
entry 32). The first check that fails gives the status, and nothing changes: RANGE for an index above 7, STATE for an
ENABLED record, RANGE for a definition out of range, CONFLICT for a kind held, and RANGE or CONFLICT for the address.
The model's own in it: log entries 21 and 32. -/
def Obligations.WriteConsumerLoadsTheDefinition : Prop :=
  (∀ (slot : SlotIx) (q : Request) (s : State) (i : ConsumerIx) (d : ConsumerDef),
    CanTake .writeConsumer slot q s → byteAt q.args 0 = i.val → s.budget.consumers[i].state ≠ .enabled →
    consumerArgs q.args = some d →
    (∀ j : ConsumerIx, j ≠ i → s.budget.consumers[j].state ≠ .unused → s.budget.consumers[j].defn.kind = d.kind →
      s.budget.consumers[j].defn.sheet = d.sheet → d.kind = .preheat ∨ d.kind = .general) →
    (∀ a, d.addr = some a → a.node ≠ s.line.own ∧ a.node ≠ 63 ∧ ∀ o, Owns s a o → o = .consumer i) →
    ∃ t, exec (.writeConsumer slot) s = .next (answered .writeConsumer slot q .done [] t) ∧
      t.budget = { s.budget with
        consumers := s.budget.consumers.set i ⟨d, .disabled, 0, 0, 0, d.cls, 0, 0, none, 0, 0, false⟩ } ∧
      t.line.queue = s.line.queue.filter (fun e =>
        !((s.budget.consumers[i].state != .unused) &&
          (match s.budget.consumers[i].defn.addr with
            | some a => decide (d.addr ≠ some a) && isCommandFor a e
            | none => false))) ∧
      t = hand .reallocationRequest
        { taken .writeConsumer slot s with budget := t.budget, line.queue := t.line.queue }) ∧
  ∀ (slot : SlotIx) (q : Request) (s : State), CanTake .writeConsumer slot q s →
    let gives := fun status => AnswersOnly .writeConsumer slot q status s
    (8 ≤ byteAt q.args 0 → gives .range) ∧
    ∀ i : ConsumerIx, byteAt q.args 0 = i.val →
      (s.budget.consumers[i].state = .enabled → gives .state) ∧
      (s.budget.consumers[i].state ≠ .enabled → consumerArgs q.args = none → gives .range) ∧
      ∀ d, s.budget.consumers[i].state ≠ .enabled → consumerArgs q.args = some d →
        let kindHeld := ∃ j : ConsumerIx, j ≠ i ∧ s.budget.consumers[j].state ≠ .unused ∧
          s.budget.consumers[j].defn.kind = d.kind ∧ s.budget.consumers[j].defn.sheet = d.sheet ∧
          (d.kind = .subsoil ∨ d.kind = .regen ∨ d.kind = .spectator)
        (kindHeld → gives .conflict) ∧
        ∀ a, ¬kindHeld → d.addr = some a →
          (AddrForeign s a → gives .range) ∧ (AddrTaken s (· = .consumer i) a → gives .conflict)

/-- R50, R57, R58: WRITE_RECOVERY with settings in range that name points of the classes required loads them;
ENABLE_CONSUMER makes a DISABLED consumer ENABLED with its runtime fields as they stand; DISABLE_CONSUMER makes an
ENABLED one DISABLED with its runtime fields and its mark cleared. Each raises a reallocation request, and nothing
else changes. WRITE_RECOVERY out of range or naming a point that does not fit is refused with RANGE; the other two
with RANGE for an index above 7 and STATE for an UNUSED record, and one that finds its state is DONE and changes
nothing. The model's own in it: log entry 21. -/
def Obligations.ConsumerRequestsRaiseReallocation : Prop :=
  (∀ (slot : SlotIx) (q : Request) (s : State) (r : Recovery), CanTake .writeRecovery slot q s →
    recoveryArgs q.args = some r →
    (s.points[r.supply].state ≠ .unused ∧ s.points[r.supply].defn.cls = .temperature) →
    (s.points[r.ret].state ≠ .unused ∧ s.points[r.ret].defn.cls = .temperature) →
    (s.points[r.flow].state ≠ .unused ∧ s.points[r.flow].defn.cls = .flow) →
    exec (.writeRecovery slot) s = .next (answered .writeRecovery slot q .done []
      (hand .reallocationRequest { taken .writeRecovery slot s with budget.settings := some r }))) ∧
  (∀ (slot : SlotIx) (q : Request) (s : State) (i : ConsumerIx), CanTake .enableConsumer slot q s →
    byteAt q.args 0 = i.val → s.budget.consumers[i].state = .disabled →
    exec (.enableConsumer slot) s = .next (answered .enableConsumer slot q .done []
      (hand .reallocationRequest { taken .enableConsumer slot s with
        budget.consumers := s.budget.consumers.set i { s.budget.consumers[i] with state := .enabled } }))) ∧
  (∀ (slot : SlotIx) (q : Request) (s : State) (i : ConsumerIx), CanTake .disableConsumer slot q s →
    byteAt q.args 0 = i.val → s.budget.consumers[i].state = .enabled →
    exec (.disableConsumer slot) s = .next (answered .disableConsumer slot q .done []
      (hand .reallocationRequest { taken .disableConsumer slot s with
        budget.consumers := s.budget.consumers.set i
          { s.budget.consumers[i] with
            state := .disabled, grant := 0, allowed := 0, demand := 0, effCap := 0, effDemand := 0, takingPart := false,
            lastSent := none, requested := 0, lastForwarded := 0 } }))) ∧
  ∀ (slot : SlotIx) (q : Request) (s : State),
    let gives := fun (r : Req) (status : Status) => CanTake r slot q s → AnswersOnly r slot q status s
    (recoveryArgs q.args = none → gives .writeRecovery .range) ∧
    (∀ r, recoveryArgs q.args = some r →
      (s.points[r.supply].state = .unused ∨ s.points[r.supply].defn.cls ≠ .temperature ∨
        s.points[r.ret].state = .unused ∨ s.points[r.ret].defn.cls ≠ .temperature ∨
        s.points[r.flow].state = .unused ∨ s.points[r.flow].defn.cls ≠ .flow) → gives .writeRecovery .range) ∧
    (8 ≤ byteAt q.args 0 → gives .enableConsumer .range ∧ gives .disableConsumer .range) ∧
    ∀ i : ConsumerIx, byteAt q.args 0 = i.val →
      (s.budget.consumers[i].state = .unused → gives .enableConsumer .state ∧ gives .disableConsumer .state) ∧
      (s.budget.consumers[i].state = .enabled → gives .enableConsumer .done) ∧
      (s.budget.consumers[i].state = .disabled → gives .disableConsumer .done)

/-! ### Fog -/

/-- R85 to R91, R93, R94: a fog period expiry of an ENABLED, uncovered sheet whose main readings all have a quality:
the figures and flags are computed, the fog state becomes the one the evaluation of these figures gives, with what a
transition hands, and the timer runs on. At the expiry of a covered ENABLED sheet the computation is skipped, and the
timer runs on. The evaluation goes by the rows of R91. The model's own in it: log entries 2, 5 and 21. -/
def Obligations.FogPeriodComputesAndEvaluates : Prop :=
  (∀ (s : State) (sh : Sheet), s.line.held = false → (sheetRec s.fog sh).state = .enabled →
    (sheetRec s.fog sh).fogTimer ≠ none → covered s sh = false →
    (∀ r ∈ mainReadings s (sheetRec s.fog sh).defn, r.quality ≠ .none) →
    ∃ t, exec (.fogPeriodExpiry sh) s = .next (arbitrate t) ∧
      (let d := (sheetRec s.fog sh).defn
       let r := sheetRec t.fog sh
       let e := vapourPressure s.fog.dew (presentedValue s d.air) (presentedValue s d.humidity)
       r.defn = d ∧ r.state = .enabled ∧ r.fogTimer = some (d.fogPeriod * 1000) ∧ r.inputLost = false ∧
       (r.airLimit = true ↔ presentedValue s d.air < -2000 ∨ 4300 < presentedValue s d.air) ∧
       r.dewPoint = dewPointOf s.fog.dew e ∧
       (r.dewLow = true ↔ e < dewEntry s.fog.dew 0) ∧
       (r.dewHigh = true ↔ dewEntry s.fog.dew 0 ≤ e ∧ dewEntry s.fog.dew 63 ≤ e) ∧
       r.mixing = presentedValue s d.ice + Int.tdiv ((presentedValue s d.near - presentedValue s d.ice) * d.k) 256 ∧
       r.margin = r.mixing - r.dewPoint ∧
       (r.degraded = true ↔ ∃ m ∈ mainReadings s d, m.quality = .held ∨ m.quality = .substituted) ∧
       (r.hazeValid = true ↔ ∃ i, d.haze = some i ∧ s.points[i].state = .fresh ∧ s.points[i].defn.cls = .haze) ∧
       (∀ i, d.haze = some i → s.points[i].state = .fresh → s.points[i].defn.cls = .haze →
        r.hazeValue = (presentedValue s i).toNat) ∧
       (r.hazeValid = false → r.hazeValue = (sheetRec s.fog sh).hazeValue) ∧
       r.fog = evaluatedFog { r with fog := fogOf s sh } ∧
       r.recoverTimer =
        if fogOf s sh = .fog ∧ r.fog = .recover then some (d.recoverTime * 1000)
        else if fogOf s sh = .recover ∧ r.fog = .fog then none
        else (sheetRec s.fog sh).recoverTimer) ∧
      (∀ other, other ≠ sh → sheetRec t.fog other = sheetRec s.fog other) ∧
      t.fog.dew = s.fog.dew ∧ t.fog.loaded = s.fog.loaded ∧ t.fog.caps = s.fog.caps ∧
      t.handed = s.handed ++
        (if fogOf t sh = fogOf s sh then []
        else [.noticeOffer .fogState (sheetNumber sh) (4 * fogCode (fogOf s sh) + fogCode (fogOf t sh) : Nat),
            .capHanding sh (capsInForce t sh)] ++ (if fogOf s sh = .clear then [.hazeCut sh] else []) ++
          [.reallocationRequest]) ∧
      t = { s with fog := t.fog, handed := t.handed }) ∧
  (∀ (s : State) (sh : Sheet), s.line.held = false → (sheetRec s.fog sh).state = .enabled →
    (sheetRec s.fog sh).fogTimer ≠ none → covered s sh = true →
    exec (.fogPeriodExpiry sh) s = .next (arbitrate (setSheet sh { sheetRec s.fog sh with
      fogTimer := some ((sheetRec s.fog sh).defn.fogPeriod * 1000) } s))) ∧
  ∀ r : SheetRec,
    let condition := r.margin < r.defn.fogMargin ∨ (r.hazeValid = true ∧ r.defn.hazeLimit < r.hazeValue)
    let clearHaze := r.hazeValid = false ∨ r.hazeValue ≤ r.defn.hazeClear
    (r.fog = .clear ∨ r.fog = .watch ∨ r.fog = .recover → condition → evaluatedFog r = .fog) ∧
    (r.fog = .clear → ¬condition → (evaluatedFog r = .watch ↔ r.margin < r.defn.watchMargin)) ∧
    (r.fog = .clear → ¬condition → (evaluatedFog r = .clear ↔ r.defn.watchMargin ≤ r.margin)) ∧
    (r.fog = .watch → ¬condition →
      (evaluatedFog r = .clear ↔ r.defn.watchMargin + r.defn.hysteresis ≤ r.margin)) ∧
    (r.fog = .watch → ¬condition →
      (evaluatedFog r = .watch ↔ r.margin < r.defn.watchMargin + r.defn.hysteresis)) ∧
    (r.fog = .fog → (evaluatedFog r = .recover ↔ r.defn.fogMargin + r.defn.hysteresis ≤ r.margin ∧ clearHaze)) ∧
    (r.fog = .fog → (evaluatedFog r = .fog ↔ ¬(r.defn.fogMargin + r.defn.hysteresis ≤ r.margin ∧ clearHaze))) ∧
    (r.fog = .recover → ¬condition → evaluatedFog r = .recover)

/-- R87, R88: over a strictly rising Dew Table. The forward lookup saturates the bowl air to −20.00 to 43.00 °C, with
AIR_LIMIT when that changes it, and interpolates between the two entries about it. The vapour pressure is that
pressure by the humidity. The inverse lookup gives −20.00 °C with DEW_LOW below the first entry, 43.00 °C with
DEW_HIGH from the last entry on, and between them, with both flags clear, the degree whose entry the pressure has
reached and the hundredths of its quotient, 0 to 99. -/
def Obligations.DewPointLiesOnTheTable : Prop :=
  ∀ (dew : Vector Nat 64), (∀ k, k < 63 → dewEntry dew k < dewEntry dew (k + 1)) →
    (∀ air : Int, (airLimitFlag air = true ↔ air < -2000 ∨ 4300 < air) ∧
      (4300 ≤ air → saturationPressure dew air = dewEntry dew 63) ∧
      (air < -2000 → saturationPressure dew air = dewEntry dew 0) ∧
      ∀ k f : Nat, k < 63 → f < 100 → air = 100 * ((k : Int) - 20) + f →
        saturationPressure dew air = dewEntry dew k + (dewEntry dew (k + 1) - dewEntry dew k) * f / 100 ∧
        dewEntry dew k ≤ saturationPressure dew air ∧ saturationPressure dew air ≤ dewEntry dew (k + 1)) ∧
    (∀ air humidity : Int,
      vapourPressure dew air humidity = saturationPressure dew air * humidity.toNat / 10000 ∧
      (humidity ≤ 10000 → vapourPressure dew air humidity ≤ saturationPressure dew air) ∧
      (4300 ≤ air → humidity = 10000 → dewPointOf dew (vapourPressure dew air humidity) = 4300 ∧
        dewHighFlag dew (vapourPressure dew air humidity) = true) ∧
      (air ≤ -2000 → humidity = 10000 → dewPointOf dew (vapourPressure dew air humidity) = -2000 ∧
        dewLowFlag dew (vapourPressure dew air humidity) = false ∧
        dewHighFlag dew (vapourPressure dew air humidity) = false)) ∧
    ∀ e : Nat,
      -2000 ≤ dewPointOf dew e ∧ dewPointOf dew e ≤ 4300 ∧
      (e < dewEntry dew 0 → dewPointOf dew e = -2000 ∧ dewLowFlag dew e = true ∧ dewHighFlag dew e = false) ∧
      (dewEntry dew 63 ≤ e → dewPointOf dew e = 4300 ∧ dewLowFlag dew e = false ∧ dewHighFlag dew e = true) ∧
      ∀ k, k < 63 → dewEntry dew k ≤ e → e < dewEntry dew (k + 1) →
        let quotient := 100 * (e - dewEntry dew k) / (dewEntry dew (k + 1) - dewEntry dew k)
        dewPointOf dew e = 100 * ((k : Int) - 20) + quotient ∧ quotient < 100 ∧
        dewLowFlag dew e = false ∧ dewHighFlag dew e = false

/-- R86, R92 to R94: an expiry that finds a main reading of quality NONE sets INPUT_LOST, keeps every figure, and
moves a sheet in CLEAR, and no other, to WATCH with what that transition hands; the recover timer's expiry moves a
sheet in RECOVER to CLEAR. The model's own in it: log entries 2, 5 and 21. -/
def Obligations.LostInputAndRecoveryMoveTheSheet : Prop :=
  (∀ (s : State) (sh : Sheet), s.line.held = false → (sheetRec s.fog sh).state = .enabled →
    (sheetRec s.fog sh).fogTimer ≠ none → covered s sh = false →
    (∃ r ∈ mainReadings s (sheetRec s.fog sh).defn, r.quality = .none) →
    ∃ t, exec (.fogPeriodExpiry sh) s = .next (arbitrate t) ∧
      sheetRec t.fog sh = { sheetRec s.fog sh with
        inputLost := true, degraded := false
        fogTimer := some ((sheetRec s.fog sh).defn.fogPeriod * 1000)
        fog := if fogOf s sh = .clear then .watch else fogOf s sh } ∧
      (∀ other, other ≠ sh → sheetRec t.fog other = sheetRec s.fog other) ∧
      t.fog.dew = s.fog.dew ∧ t.fog.loaded = s.fog.loaded ∧ t.fog.caps = s.fog.caps ∧
      t = { s with
        fog := t.fog
        handed := s.handed ++ if fogOf s sh = .clear then
          [.noticeOffer .fogState (sheetNumber sh) 1, .capHanding sh s.fog.caps.watch, .hazeCut sh,
            .reallocationRequest] else [] }) ∧
  (∀ (s : State) (sh : Sheet), s.line.held = false → (sheetRec s.fog sh).recoverTimer ≠ none →
    fogOf s sh = .recover →
    exec (.recoverTimerExpiry sh) s = .next (arbitrate
      (let t := setSheet sh { sheetRec s.fog sh with recoverTimer := none, fog := .clear } s
       { t with handed := s.handed ++ [.noticeOffer .fogState (sheetNumber sh) 12,
          .capHanding sh s.fog.caps.clear, .reallocationRequest] })))

/-- R79, R81, R96: LOAD_DEW_TABLE with both sheets not ENABLED and a rising segment that fits its loaded neighbours,
or with NEW_TABLE set, loads the segment; WRITE_SHEET on a record that is not ENABLED, with points of the classes
required, loads the definition; WRITE_FOG_CAPS replaces the table and hands both sheets' caps. The first check that
fails gives the status, and nothing changes: LOAD_DEW_TABLE is refused with STATE while a sheet is ENABLED and with
RANGE otherwise, WRITE_SHEET with RANGE for the number, STATE for an ENABLED record and RANGE for a field or a point,
WRITE_FOG_CAPS with RANGE. The model's own in it: log entries 2 and 21. -/
def Obligations.FogWritesReplaceTheirTables : Prop :=
  (∀ (slot : SlotIx) (q : Request) (s : State) (g : Fin 4) (fresh : Bool),
    CanTake .loadDewTable slot q s → byteAt q.args 0 = g.val → byteAt q.args 1 = (if fresh then 1 else 0) →
    s.fog.sheet1.state ≠ .enabled → s.fog.sheet2.state ≠ .enabled →
    0 < wordAt q.args 2 → (∀ k, k < 15 → wordAt q.args (2 + 2 * k) < wordAt q.args (4 + 2 * k)) →
    (fresh = false →
      (∀ b : Fin 4, b.val + 1 = g.val → s.fog.loaded[b] = true →
        dewEntry s.fog.dew (16 * g.val - 1) < wordAt q.args 2) ∧
      (∀ b : Fin 4, b.val = g.val + 1 → s.fog.loaded[b] = true →
        wordAt q.args 32 < dewEntry s.fog.dew (16 * b.val))) →
    ∃ t, exec (.loadDewTable slot) s = .next (answered .loadDewTable slot q .done [] t) ∧
      (∀ k : Fin 64, t.fog.dew[k] =
        if k.val / 16 = g.val then wordAt q.args (2 + 2 * (k.val % 16))
        else if fresh then 0 else s.fog.dew[k]) ∧
      (∀ b : Fin 4, t.fog.loaded[b] = (decide (b = g) || (!fresh && s.fog.loaded[b]))) ∧
      t = { taken .loadDewTable slot s with fog := { s.fog with dew := t.fog.dew, loaded := t.fog.loaded } }) ∧
  (∀ (slot : SlotIx) (q : Request) (s : State) (sh : Sheet) (d : SheetDef),
    CanTake .writeSheet slot q s → byteAt q.args 0 = sheetNumber sh → (sheetRec s.fog sh).state ≠ .enabled →
    sheetArgs q.args = some d →
    (∀ i, i = d.ice ∨ i = d.near ∨ i = d.air →
      s.points[i].state ≠ .unused ∧ s.points[i].defn.cls = .temperature) →
    (s.points[d.humidity].state ≠ .unused ∧ s.points[d.humidity].defn.cls = .humidity) →
    (∀ i, d.haze = some i → s.points[i].state ≠ .unused ∧ s.points[i].defn.cls = .haze) →
    exec (.writeSheet slot) s = .next (answered .writeSheet slot q .done []
      (setSheet sh ⟨d, .disabled, .clear, 0, 0, 0, 0, false, false, false, false, false, false, none, none⟩
        (taken .writeSheet slot s)))) ∧
  (∀ (slot : SlotIx) (q : Request) (s : State) (t : CapTable), CanTake .writeFogCaps slot q s →
    capTableArgs q.args = some t →
    exec (.writeFogCaps slot) s = .next (answered .writeFogCaps slot q .done []
      { s with
        fog.caps := t
        handed := s.handed.erase (.writeFogCaps slot) ++
          [.capHanding .one (capsOf t (fogOf s .one)), .capHanding .two (capsOf t (fogOf s .two))] })) ∧
  ∀ (slot : SlotIx) (q : Request) (s : State),
    let gives := fun (r : Req) (status : Status) => CanTake r slot q s → AnswersOnly r slot q status s
    let idle := s.fog.sheet1.state ≠ .enabled ∧ s.fog.sheet2.state ≠ .enabled
    (¬idle → gives .loadDewTable .state) ∧
    (idle → 3 < byteAt q.args 0 ∨ 1 < byteAt q.args 1 ∨ wordAt q.args 2 = 0 ∨
        (∃ k, k < 15 ∧ wordAt q.args (4 + 2 * k) ≤ wordAt q.args (2 + 2 * k)) → gives .loadDewTable .range) ∧
    (∀ g : Fin 4, idle → byteAt q.args 0 = g.val → byteAt q.args 1 = 0 →
      (∃ b : Fin 4, s.fog.loaded[b] = true ∧
        (b.val + 1 = g.val ∧ wordAt q.args 2 ≤ dewEntry s.fog.dew (16 * g.val - 1) ∨
          b.val = g.val + 1 ∧ dewEntry s.fog.dew (16 * b.val) ≤ wordAt q.args 32)) → gives .loadDewTable .range) ∧
    (byteAt q.args 0 ≠ 1 → byteAt q.args 0 ≠ 2 → gives .writeSheet .range) ∧
    (∀ sh, byteAt q.args 0 = sheetNumber sh →
      ((sheetRec s.fog sh).state = .enabled → gives .writeSheet .state) ∧
      ((sheetRec s.fog sh).state ≠ .enabled → sheetArgs q.args = none → gives .writeSheet .range) ∧
      ∀ d, (sheetRec s.fog sh).state ≠ .enabled → sheetArgs q.args = some d →
        (∃ i cls, ((i = d.ice ∨ i = d.near ∨ i = d.air) ∧ cls = .temperature ∨ i = d.humidity ∧ cls = .humidity ∨
            d.haze = some i ∧ cls = .haze) ∧ (s.points[i].state = .unused ∨ s.points[i].defn.cls ≠ cls)) →
        gives .writeSheet .range) ∧
    (capTableArgs q.args = none → gives .writeFogCaps .range)

/-- R82, R83, R93, R94: ENABLE_FOG on a DISABLED sheet with all four table segments loaded starts its timer and, where
the sheet is uncovered and in CLEAR, moves it to WATCH with a haze cut; DISABLE_FOG stops both timers and moves a
state other than CLEAR to CLEAR, keeping the figures. Each raises a reallocation request. A sheet number other than 1
and 2 is refused with RANGE, an UNLOADED sheet, and an enable before all four segments are loaded, with STATE; a
request that finds its state is DONE and changes nothing. The model's own in it: log entries 2 and 21. -/
def Obligations.FogMonitorIsEnabledAndDisabled : Prop :=
  (∀ (slot : SlotIx) (q : Request) (s : State) (sh : Sheet), CanTake .enableFog slot q s →
    byteAt q.args 0 = sheetNumber sh → (sheetRec s.fog sh).state = .disabled →
    (∀ b : Fin 4, s.fog.loaded[b] = true) → fogOf s sh = .clear →
    exec (.enableFog slot) s = .next (answered .enableFog slot q .done []
      (let t := setSheet sh { sheetRec s.fog sh with
          state := .enabled, fog := if covered s sh then .clear else .watch
          fogTimer := some ((sheetRec s.fog sh).defn.fogPeriod * 1000) } s
       { t with handed := s.handed.erase (.enableFog slot) ++
          (if covered s sh then []
          else [.noticeOffer .fogState (sheetNumber sh) 1, .capHanding sh s.fog.caps.watch, .hazeCut sh]) ++
          [.reallocationRequest] }))) ∧
  (∀ (slot : SlotIx) (q : Request) (s : State) (sh : Sheet), CanTake .disableFog slot q s →
    byteAt q.args 0 = sheetNumber sh → (sheetRec s.fog sh).state = .enabled →
    exec (.disableFog slot) s = .next (answered .disableFog slot q .done []
      (let t := setSheet sh { sheetRec s.fog sh with
          state := .disabled, fog := .clear, fogTimer := none, recoverTimer := none } s
       { t with handed := s.handed.erase (.disableFog slot) ++
          (if fogOf s sh = .clear then []
          else [.noticeOffer .fogState (sheetNumber sh) (4 * fogCode (fogOf s sh) : Nat),
            .capHanding sh s.fog.caps.clear]) ++ [.reallocationRequest] }))) ∧
  ∀ (slot : SlotIx) (q : Request) (s : State),
    let gives := fun (r : Req) (status : Status) => CanTake r slot q s → AnswersOnly r slot q status s
    (byteAt q.args 0 ≠ 1 → byteAt q.args 0 ≠ 2 → gives .enableFog .range ∧ gives .disableFog .range) ∧
    ∀ sh, byteAt q.args 0 = sheetNumber sh →
      ((sheetRec s.fog sh).state = .unused → gives .enableFog .state ∧ gives .disableFog .state) ∧
      ((sheetRec s.fog sh).state = .disabled → (∃ b : Fin 4, s.fog.loaded[b] = false) → gives .enableFog .state) ∧
      ((sheetRec s.fog sh).state = .enabled → gives .enableFog .done) ∧
      ((sheetRec s.fog sh).state = .disabled → gives .disableFog .done)

/-! ### Zones -/

/-- R106, R107, R108, R111, R114: three caps handed for a sheet become its cap set; each zone of the sheet takes the
cap of its ring, and an ENABLED one is recapped, has its allowed values lowered to the new capped position and
permitted stages, and its last forwarded values lowered to what is then allowed, with a corrective command for each
one lowered, in ascending zone index and the valve's first. Caps the set already holds change nothing. The model's own
in it: log entries 2, 15 and 21. -/
def Obligations.CapHandingLowersTheZones : Prop :=
  ∀ (s : State) (sh : Sheet) (c : Caps), s.line.held = false →
    (capSet s.zones sh = c →
      exec (.capHanding sh c) s = .next (arbitrate { s with handed := s.handed.erase (.capHanding sh c) })) ∧
    (capSet s.zones sh ≠ c →
      ∃ t, exec (.capHanding sh c) s = .next (arbitrate t) ∧
        capSet t.zones sh = c ∧ (∀ other, other ≠ sh → capSet t.zones other = capSet s.zones other) ∧
        t.zones.grant = s.zones.grant ∧ t.zones.taken = s.zones.taken ∧ t.zones.left = s.zones.left ∧
        (∀ i : ZoneIx, s.zones.zones[i].defn.sheet ≠ some sh → t.zones.zones[i] = s.zones.zones[i]) ∧
        (∀ i : ZoneIx, s.zones.zones[i].defn.sheet = some sh → s.zones.zones[i].state ≠ .enabled →
          t.zones.zones[i] = { s.zones.zones[i] with fogCap := capOf c s.zones.zones[i].defn.ring }) ∧
        (∀ i : ZoneIx, s.zones.zones[i].defn.sheet = some sh → s.zones.zones[i].state = .enabled →
          let z := s.zones.zones[i]
          let cap := capOf c z.defn.ring
          let capped := min z.reqPosition (10 * cap)
          let stages := if z.defn.boost = none then 0 else min z.reqStages (z.defn.stageCount * cap / 1000)
          t.zones.zones[i] = { z with
            fogCap := cap, capped := capped, demand := capped * z.defn.design / 10000
            allowed := min z.allowed capped, lastForwarded := min z.lastForwarded (min z.allowed capped)
            allowedStages := min z.allowedStages stages
            lastStages := if z.defn.boost = none then z.lastStages
              else min z.lastStages (min z.allowedStages stages) }) ∧
        t = { s with
          zones := t.zones
          line.queue := enqueueAll (((List.finRange 24).filter fun i : ZoneIx =>
            s.zones.zones[i].defn.sheet = some sh).flatMap fun i => valveShed s t i ++ boostShed s t i) s.line.queue
          handed := s.handed.erase (.capHanding sh c) })

/-- R109, R110, R114: a split of a grant G gives each ENABLED zone a share: its demand where G holds the aggregate,
and otherwise G times its demand over the aggregate, rounded down, with one of the units left over to each zone with a
demand, in ascending index. The shares together are the lesser of G and the aggregate demand, no share exceeds its
zone's demand, and each is the demand itself when G holds the aggregate; the allowed position is the lesser of the
capped position and the position of the share. With no grant the share is the demand and the allowed position the
capped position. A valve left above its allowed position is shed. Nothing else changes. -/
def Obligations.SplitSharesTheGrant : Prop :=
  ∀ (s : State),
    (∀ g : Nat,
      (∀ i : ZoneIx,
        let d := fun j : ZoneIx => if s.zones.zones[j].state = .enabled then s.zones.zones[j].demand else 0
        let part := fun j => g * d j / zoneSum d
        (zoneShares g s.zones).getD i 0 = if zoneSum d ≤ g then d i
          else part i +
            if 0 < d i ∧ (zoneSum fun j => if j < i ∧ 0 < d j then 1 else 0) < g - zoneSum part then 1 else 0) ∧
      (zoneShares g s.zones).sum = min g (zoneAggregate s) ∧
      (∀ i : ZoneIx, (zoneShares g s.zones).getD i 0 ≤ zoneDemand s.zones.zones[i]) ∧
      (zoneAggregate s ≤ g → ∀ i : ZoneIx, (zoneShares g s.zones).getD i 0 = zoneDemand s.zones.zones[i]) ∧
      (splitGrant (some g) s).zones.grant = some g ∧
      ∀ i : ZoneIx, s.zones.zones[i].state = .enabled →
        (splitGrant (some g) s).zones.zones[i].share = (zoneShares g s.zones).getD i 0 ∧
        (splitGrant (some g) s).zones.zones[i].allowed =
          min s.zones.zones[i].capped ((zoneShares g s.zones).getD i 0 * 10000 / s.zones.zones[i].defn.design)) ∧
    ((splitGrant none s).zones.grant = none ∧
    ∀ i : ZoneIx, s.zones.zones[i].state = .enabled →
      (splitGrant none s).zones.zones[i].share = s.zones.zones[i].demand ∧
      (splitGrant none s).zones.zones[i].allowed = s.zones.zones[i].capped) ∧
    ∀ grant : Option Nat,
      let t := splitGrant grant s
      (∀ i : ZoneIx, t.zones.zones[i] = if s.zones.zones[i].state = .enabled then
          { s.zones.zones[i] with
            share := t.zones.zones[i].share, allowed := t.zones.zones[i].allowed
            lastForwarded := min s.zones.zones[i].lastForwarded t.zones.zones[i].allowed }
        else s.zones.zones[i]) ∧
      t = { s with
        zones := { s.zones with zones := t.zones.zones, grant := grant }
        line.queue := enqueueAll ((List.finRange 24).flatMap (valveShed s t)) s.line.queue }

/-- R112, R113, R114: a boost distribution serves the zones in ascending index. Each ENABLED zone with a boost
actuator and a stage power above 0 is allowed the greatest number of its permitted stages that what is left can carry,
every other zone none; what is left at the end is the allowance less all that was given. A boost actuator left above
its allowed stages is shed, in ascending zone index. Nothing else changes. -/
def Obligations.BoostGoesToTheZonesInOrder : Prop :=
  ∀ (a : Nat) (s : State),
    let z := fun i : ZoneIx => (distributeBoost a s).zones.zones[i]
    let leftAt := fun i : ZoneIx => a - ((List.finRange 24).map fun j => if j < i then stagePowerOf (z j) else 0).sum
    (∀ i : ZoneIx, s.zones.zones[i].state = .enabled → s.zones.zones[i].defn.boost ≠ none →
      0 < s.zones.zones[i].defn.stagePower →
      (z i).allowedStages ≤ permittedStages s.zones.zones[i] ∧ stagePowerOf (z i) ≤ leftAt i ∧
      ((z i).allowedStages = permittedStages s.zones.zones[i] ∨
        leftAt i < ((z i).allowedStages + 1) * s.zones.zones[i].defn.stagePower)) ∧
    (∀ i : ZoneIx, s.zones.zones[i].state ≠ .enabled ∨ s.zones.zones[i].defn.boost = none →
      (z i).allowedStages = 0) ∧
    (distributeBoost a s).zones.taken = a ∧
    (distributeBoost a s).zones.left + ((List.finRange 24).map fun j => stagePowerOf (z j)).sum = a ∧
    (∀ i : ZoneIx, z i = { s.zones.zones[i] with
      allowedStages := (z i).allowedStages
      lastStages := if s.zones.zones[i].state = .enabled ∧ s.zones.zones[i].defn.boost ≠ none then
        min s.zones.zones[i].lastStages (z i).allowedStages else s.zones.zones[i].lastStages }) ∧
    distributeBoost a s = { s with
      zones := { s.zones with
        zones := (distributeBoost a s).zones.zones, taken := a, left := (distributeBoost a s).zones.left }
      line.queue := enqueueAll ((List.finRange 24).flatMap (boostShed s (distributeBoost a s))) s.line.queue }

/-- R17, R101, R102, R103: WRITE_ZONE on a record that is not ENABLED, its definition in range and its addresses free
for it and different: the record is DISABLED with that definition, the fog cap of its sheet and ring, and cleared
runtime fields, and the commands pending for addresses it no longer holds leave the Command Queue. ENABLE_ZONE makes a
DISABLED zone ENABLED; DISABLE_ZONE makes an ENABLED one DISABLED with its runtime fields at 0 and its fog cap kept.
Each of these two raises a reallocation request and queues no command. The first check that fails gives the status,
and nothing changes: RANGE for an index above 23, STATE for a write of an ENABLED record, RANGE for a definition out
of range, RANGE or CONFLICT for the valve's address and then the boost actuator's, CONFLICT for one address of both
(this order of the addresses: log entry 14), and STATE for an UNUSED record; an enable or disable that finds its state
is DONE and changes nothing. The model's own in it: log entries 14 and 21. -/
def Obligations.ZoneRequestsChangeTheZone : Prop :=
  (∀ (slot : SlotIx) (q : Request) (s : State) (i : ZoneIx) (d : ZoneDef),
    CanTake .writeZone slot q s → byteAt q.args 0 = i.val → s.zones.zones[i].state ≠ .enabled →
    zoneArgs q.args = some d →
    (∀ a, a = d.valve ∨ d.boost = some a →
      a.node ≠ s.line.own ∧ a.node ≠ 63 ∧ ∀ o, Owns s a o → o = .zoneValve i ∨ o = .zoneBoost i) →
    d.boost ≠ some d.valve →
    ∃ t, exec (.writeZone slot) s = .next (answered .writeZone slot q .done [] t) ∧
      t.zones = { s.zones with
        zones := s.zones.zones.set i {
          defn := d, state := .disabled, reqPosition := 0, capped := 0, demand := 0, share := 0, allowed := 0,
          lastForwarded := 0, reqStages := 0, allowedStages := 0, lastStages := 0
          fogCap := match d.sheet with
            | none => 1000
            | some sh => capOf (capSet s.zones sh) d.ring } } ∧
      t.line.queue = s.line.queue.filter (fun e =>
        !((s.zones.zones[i].state != .unused) &&
          ((s.zones.zones[i].defn.valve :: s.zones.zones[i].defn.boost.toList).any fun a =>
            decide (a ≠ d.valve ∧ d.boost ≠ some a) && isCommandFor a e))) ∧
      t = { taken .writeZone slot s with zones := t.zones, line.queue := t.line.queue }) ∧
  (∀ (slot : SlotIx) (q : Request) (s : State) (i : ZoneIx), CanTake .enableZone slot q s →
    byteAt q.args 0 = i.val → s.zones.zones[i].state = .disabled →
    exec (.enableZone slot) s = .next (answered .enableZone slot q .done []
      (hand .reallocationRequest { taken .enableZone slot s with
        zones.zones := s.zones.zones.set i { s.zones.zones[i] with state := .enabled } }))) ∧
  (∀ (slot : SlotIx) (q : Request) (s : State) (i : ZoneIx), CanTake .disableZone slot q s →
    byteAt q.args 0 = i.val → s.zones.zones[i].state = .enabled →
    exec (.disableZone slot) s = .next (answered .disableZone slot q .done []
      (hand .reallocationRequest { taken .disableZone slot s with
        zones.zones := s.zones.zones.set i
          { s.zones.zones[i] with
            state := .disabled, reqPosition := 0, capped := 0, demand := 0, share := 0, allowed := 0, lastForwarded := 0,
            reqStages := 0, allowedStages := 0, lastStages := 0 } }))) ∧
  ∀ (slot : SlotIx) (q : Request) (s : State),
    let gives := fun (r : Req) (status : Status) => CanTake r slot q s → AnswersOnly r slot q status s
    (24 ≤ byteAt q.args 0 → gives .writeZone .range ∧ gives .enableZone .range ∧ gives .disableZone .range) ∧
    ∀ i : ZoneIx, byteAt q.args 0 = i.val →
      (s.zones.zones[i].state = .unused → gives .enableZone .state ∧ gives .disableZone .state) ∧
      (s.zones.zones[i].state = .enabled → gives .writeZone .state ∧ gives .enableZone .done) ∧
      (s.zones.zones[i].state = .disabled → gives .disableZone .done) ∧
      (s.zones.zones[i].state ≠ .enabled → zoneArgs q.args = none → gives .writeZone .range) ∧
      ∀ d, s.zones.zones[i].state ≠ .enabled → zoneArgs q.args = some d →
        let mine := fun o => o = .zoneValve i ∨ o = .zoneBoost i
        (AddrForeign s d.valve → gives .writeZone .range) ∧ (AddrTaken s mine d.valve → gives .writeZone .conflict) ∧
        ∀ a, AddrFree s mine d.valve → d.boost = some a →
          (AddrForeign s a → gives .writeZone .range) ∧ (AddrTaken s mine a → gives .writeZone .conflict) ∧
          (AddrFree s mine a → a = d.valve → gives .writeZone .conflict)

/-! ### Scene buffers -/

/-- R130 to R133, R138: the transfer engine. At its check it starts nothing while it is BUSY or no pair is eligible;
otherwise the eligible pair with the lowest index goes to TRANSFER on both sides. The completion exchanges the slots
of the two sides: the commit side is IDLE with COMMITTED and PLAYED clear, the output side IDLE with COMMITTED set,
PLAYED clear and the next generation; TRANSFERRED is offered, no scene moves, and the engine makes its check on the
state so left, at which the pair just served is not started again. The model's own in it: log entries 2 and 21. -/
def Obligations.TransferCheckAndCompletion : Prop :=
  ((∀ (u : SceneUnit) (n : PairIx), eligible u n = true ↔
    u.buffers[commitSide n].type = .paired ∧ u.buffers[commitSide n].state = .idle ∧
    u.buffers[commitSide n].committed = true ∧ u.buffers[outputSide n].state = .idle ∧
    (u.buffers[commitSide n].commitMode = .streaming →
      u.buffers[outputSide n].committed = false ∨ u.buffers[outputSide n].played = true)) ∧
  ∀ s : State,
    (s.scene.engine ≠ none → checkTransfers s = s) ∧
    ((∀ n, eligible s.scene n = false) → checkTransfers s = s) ∧
    ∀ n, s.scene.engine = none → eligible s.scene n = true → (∀ m, m < n → eligible s.scene m = false) →
      let t := checkTransfers s
      t.scene.engine = some n ∧
        t.scene.buffers[commitSide n] = { s.scene.buffers[commitSide n] with state := .transfer } ∧
        t.scene.buffers[outputSide n] = { s.scene.buffers[outputSide n] with state := .transfer } ∧
        (∀ i : BufferIx, i ≠ commitSide n → i ≠ outputSide n → t.scene.buffers[i] = s.scene.buffers[i]) ∧
        t = { s with scene := { s.scene with engine := some n, buffers := t.scene.buffers } }) ∧
  ∀ (s : State) (n : PairIx), s.line.held = false → s.scene.engine = some n →
    ∃ t, exec .transferCompletion s = .next (arbitrate t) ∧
      t = checkTransfers { s with
        scene.engine := none
        scene.buffers := (s.scene.buffers.set (commitSide n) { s.scene.buffers[commitSide n] with
            state := .idle, slot := s.scene.buffers[outputSide n].slot, committed := false, played := false
            lastPlayed := s.scene.buffers[outputSide n].lastPlayed }).set (outputSide n)
          { s.scene.buffers[outputSide n] with
            state := .idle, slot := s.scene.buffers[commitSide n].slot, committed := true, played := false
            generation := (s.scene.buffers[outputSide n].generation + 1) % 256 }
        handed := s.handed ++ [.noticeOffer .transferred (2 * n.val)
          ((s.scene.buffers[outputSide n].generation + 1) % 256 : Nat)] } ∧
      t.scene.buffers[commitSide n] = { s.scene.buffers[commitSide n] with
        state := .idle, slot := s.scene.buffers[outputSide n].slot, committed := false, played := false
        lastPlayed := s.scene.buffers[outputSide n].lastPlayed } ∧
      t.scene.buffers[outputSide n] = { s.scene.buffers[outputSide n] with
        state := .idle, slot := s.scene.buffers[commitSide n].slot, committed := true, played := false
        generation := (s.scene.buffers[outputSide n].generation + 1) % 256 } ∧
      t.scene.engine ≠ some n ∧
      (∀ i : BufferIx, i ≠ commitSide n → i ≠ outputSide n →
        (∀ m, t.scene.engine = some m → i ≠ commitSide m ∧ i ≠ outputSide m) →
        t.scene.buffers[i] = s.scene.buffers[i]) ∧
      (∀ m, t.scene.engine = some m → ∀ i : BufferIx, i = commitSide m ∨ i = outputSide m →
        t.scene.buffers[i] = { s.scene.buffers[i] with state := .transfer }) ∧
      t = { s with
        scene := { s.scene with engine := t.scene.engine, buffers := t.scene.buffers }
        handed := s.handed ++ [.noticeOffer .transferred (2 * n.val)
          ((s.scene.buffers[outputSide n].generation + 1) % 256 : Nat)] }

/-- R123 to R126: LOCK_BUFFER, UNLOCK_BUFFER, WRITE_SCENE and COMMIT on a single buffer or a commit side. The lock
moves an enabled buffer to LOCKED and a disabled one to DISABLED_LOCKED, the unlock reverses it and gives the engine
its check, a write to a locked buffer replaces its slot's scene and clears COMMITTED, and a commit of a locked buffer
sets COMMITTED as the next generation; a single buffer's PLAYED is cleared by both. The first check that fails gives
the status, and nothing changes: RANGE for a buffer above 63, PAIR_ERROR for an output side, LOCK_ERROR for a lock and
COLLIDE for a write in TRANSFER, STATE for a write or a commit of a buffer not locked, RANGE for a scene out of range.
The model's own in it: log entries 18 and 21. -/
def Obligations.EditingRequestsActOnTheBuffer : Prop :=
  (∀ (slot : SlotIx) (q : Request) (s : State) (i : BufferIx), byteAt q.args 0 = i.val →
    ¬(s.scene.buffers[i].type = .paired ∧ i.val % 2 = 1) →
    (CanTake .lockBuffer slot q s → s.scene.buffers[i].state ≠ .transfer →
      exec (.lockBuffer slot) s = .next (answered .lockBuffer slot q .done []
        { taken .lockBuffer slot s with
          scene.buffers := s.scene.buffers.set i { s.scene.buffers[i] with
            state := if s.scene.buffers[i].state = .disabled ∨ s.scene.buffers[i].state = .disabledLocked
              then .disabledLocked else .locked } })) ∧
    (CanTake .unlockBuffer slot q s →
      exec (.unlockBuffer slot) s = .next (answered .unlockBuffer slot q .done []
        (checkTransfers { taken .unlockBuffer slot s with
          scene.buffers := s.scene.buffers.set i { s.scene.buffers[i] with
            state := if s.scene.buffers[i].state = .locked then .idle
              else if s.scene.buffers[i].state = .disabledLocked then .disabled
              else s.scene.buffers[i].state } }))) ∧
    (∀ sc, CanTake .writeScene slot q s →
      s.scene.buffers[i].state = .locked ∨ s.scene.buffers[i].state = .disabledLocked → sceneArgs q.args = some sc →
      exec (.writeScene slot) s = .next (answered .writeScene slot q .done []
        { taken .writeScene slot s with
          scene.store := s.scene.store.set s.scene.buffers[i].slot sc
          scene.buffers := s.scene.buffers.set i { s.scene.buffers[i] with
            committed := false
            played := decide (s.scene.buffers[i].type = .paired) && s.scene.buffers[i].played } })) ∧
    (CanTake .commit slot q s →
      s.scene.buffers[i].state = .locked ∨ s.scene.buffers[i].state = .disabledLocked →
      exec (.commit slot) s = .next (answered .commit slot q .done []
        { taken .commit slot s with
          scene.buffers := s.scene.buffers.set i { s.scene.buffers[i] with
            committed := true, generation := (s.scene.buffers[i].generation + 1) % 256
            played := decide (s.scene.buffers[i].type = .paired) && s.scene.buffers[i].played } }))) ∧
  ∀ (slot : SlotIx) (q : Request) (s : State),
    let gives := fun (r : Req) (status : Status) => CanTake r slot q s → AnswersOnly r slot q status s
    (64 ≤ byteAt q.args 0 →
      gives .lockBuffer .range ∧ gives .unlockBuffer .range ∧ gives .writeScene .range ∧ gives .commit .range) ∧
    ∀ i : BufferIx, byteAt q.args 0 = i.val →
      let b := s.scene.buffers[i]
      (b.type = .paired ∧ i.val % 2 = 1 →
        gives .lockBuffer .pairError ∧ gives .unlockBuffer .pairError ∧ gives .writeScene .pairError ∧
          gives .commit .pairError) ∧
      (¬(b.type = .paired ∧ i.val % 2 = 1) →
        (b.state = .transfer → gives .lockBuffer .lockError ∧ gives .writeScene .collide) ∧
        (b.state ≠ .locked → b.state ≠ .disabledLocked → gives .commit .state) ∧
        (b.state ≠ .transfer → b.state ≠ .locked → b.state ≠ .disabledLocked → gives .writeScene .state) ∧
        (b.state = .locked ∨ b.state = .disabledLocked → sceneArgs q.args = none → gives .writeScene .range))

/-- R121, R122: CONFIGURE_BUFFER of a DISABLED single buffer as SINGLE sets its filter and PRIORITY; of an even index
with both buffers of the pair DISABLED as PAIRED it makes the pair, with the commit mode on the commit side and the
filter and PRIORITY on the output side, and a change of type clears COMMITTED, PLAYED and the last played step; of
either side of a DISABLED pair as SINGLE it makes both buffers single. Fields out of range are refused with RANGE, and
any other failed check with STATE. The premise on the types is an invariant (`PairsSound`). The model's own in it: log
entry 21. -/
def Obligations.ConfigureBufferSetsThePair : Prop :=
  (∀ (slot : SlotIx) (q : Request) (s : State) (i : BufferIx) (c : BufferConfig), CanTake .configureBuffer slot q s →
    byteAt q.args 0 = i.val → bufferArgs q.args = some c → s.scene.buffers[i].state = .disabled →
    (c.type = .paired → i.val % 2 = 0) →
    (c.type = .paired ∨ s.scene.buffers[i].type = .paired → s.scene.buffers[partner i].state = .disabled) →
    (s.scene.buffers[partner i].type = s.scene.buffers[i].type) →
    exec (.configureBuffer slot) s = .next (answered .configureBuffer slot q .done []
      (let b := s.scene.buffers[i]
       let p := s.scene.buffers[partner i]
       let clear := fun x : Buffer =>
        if x.type = c.type then x else { x with type := c.type, committed := false, played := false, lastPlayed := none }
       let filter := fun x : Buffer =>
        { x with filterValue := c.filterValue, filterMask := c.filterMask, priority := c.priority }
       let t := taken .configureBuffer slot s
       match c.type, b.type with
       | .paired, _ => setBuffer (partner i) (filter (clear p)) (setBuffer i { clear b with commitMode := c.commitMode } t)
       | .single, .single => setBuffer i (filter b) t
       | .single, .paired => setBuffer (partner i) (clear p) (setBuffer i (filter (clear b)) t)))) ∧
  ∀ (slot : SlotIx) (q : Request) (s : State), CanTake .configureBuffer slot q s →
    let gives := fun status => AnswersOnly .configureBuffer slot q status s
    (64 ≤ byteAt q.args 0 ∨ bufferArgs q.args = none → gives .range) ∧
    ∀ (i : BufferIx) (c : BufferConfig), byteAt q.args 0 = i.val → bufferArgs q.args = some c →
      (c.type = .paired → i.val % 2 = 1 ∨ s.scene.buffers[i].state ≠ .disabled ∨
        s.scene.buffers[partner i].state ≠ .disabled → gives .state) ∧
      (c.type = .single → s.scene.buffers[i].state ≠ .disabled ∨
        (s.scene.buffers[i].type = .paired ∧ s.scene.buffers[partner i].state ≠ .disabled) → gives .state)

/-- R127, R128: ENABLE_BUFFER and DISABLE_BUFFER move a single buffer between disabled and enabled, keeping its lock,
and a pair by its output side, both sides together; an enable that is taken gives the engine its check. A buffer above
63 is refused with RANGE; a commit side, and a disable of a single buffer in SELECTED or of an output side in SELECTED
or TRANSFER, is answered IGNORED; a request that finds its state is DONE and changes nothing. The model's own in it:
log entries 18 and 21. -/
def Obligations.BuffersAreEnabledAndDisabled : Prop :=
  (∀ (slot : SlotIx) (q : Request) (s : State) (i : BufferIx), byteAt q.args 0 = i.val →
    let b := s.scene.buffers[i]
    let p := s.scene.buffers[partner i]
    let on := fun x : Buffer => { x with
      state := if x.state = .disabled then .idle else if x.state = .disabledLocked then .locked else x.state }
    let off := fun x : Buffer => { x with
      state := if x.state = .idle then .disabled else if x.state = .locked then .disabledLocked else x.state }
    (CanTake .enableBuffer slot q s → b.type = .single → b.state = .disabled ∨ b.state = .disabledLocked →
      exec (.enableBuffer slot) s = .next (answered .enableBuffer slot q .done []
        (checkTransfers (setBuffer i (on b) (taken .enableBuffer slot s))))) ∧
    (CanTake .enableBuffer slot q s → b.type = .paired → i.val % 2 = 1 → b.state = .disabled →
      exec (.enableBuffer slot) s = .next (answered .enableBuffer slot q .done []
        (checkTransfers (setBuffer (partner i) (on p) (setBuffer i (on b) (taken .enableBuffer slot s)))))) ∧
    (CanTake .disableBuffer slot q s → b.type = .single → b.state ≠ .selected →
      exec (.disableBuffer slot) s = .next (answered .disableBuffer slot q .done []
        (setBuffer i (off b) (taken .disableBuffer slot s)))) ∧
    (CanTake .disableBuffer slot q s → b.type = .paired → i.val % 2 = 1 → b.state = .idle →
      exec (.disableBuffer slot) s = .next (answered .disableBuffer slot q .done []
        (setBuffer (partner i) (off p) (setBuffer i (off b) (taken .disableBuffer slot s)))))) ∧
  ∀ (slot : SlotIx) (q : Request) (s : State),
    let gives := fun (r : Req) (status : Status) => CanTake r slot q s → AnswersOnly r slot q status s
    (64 ≤ byteAt q.args 0 → gives .enableBuffer .range ∧ gives .disableBuffer .range) ∧
    ∀ i : BufferIx, byteAt q.args 0 = i.val →
      let b := s.scene.buffers[i]
      (b.type = .paired → i.val % 2 = 0 → gives .enableBuffer .ignored ∧ gives .disableBuffer .ignored) ∧
      (b.type = .single ∨ i.val % 2 = 1 → b.state ≠ .disabled → b.state ≠ .disabledLocked →
        gives .enableBuffer .done) ∧
      (b.type = .single → b.state = .selected → gives .disableBuffer .ignored) ∧
      (b.type = .paired → i.val % 2 = 1 →
        (b.state = .selected ∨ b.state = .transfer → gives .disableBuffer .ignored) ∧
        (b.state = .disabled → gives .disableBuffer .done))

/-! ### Steps and groups -/

/-- R135, R136, R141, R149: a step start with a buffer enabled restarts the timer with the period in force, advances
the counter modulo 64, abandons a search in flight with SEARCH_LATE, returns SELECTED buffers to IDLE, captures the
IDLE and COMMITTED single buffers and output sides in ascending index, gives the engine its check on the buffers so
left, and begins the search of the new step; no group, scene or slot changes, and the results of the last completed
search stand (log entry 30). With no buffer enabled the search of an empty view completes at the step start itself.
The model's own in it: log entries 2, 5, 21 and 30. -/
def Obligations.StepStartCapturesTheView : Prop :=
  (∀ s : State, s.line.held = false →
    (∃ i : BufferIx, s.scene.buffers[i].state ≠ .disabled ∧ s.scene.buffers[i].state ≠ .disabledLocked) →
    ∃ t, exec .stepStart s = .next (arbitrate t) ∧
      t = checkTransfers { s with
        scene.stepCounter := (s.scene.stepCounter + 1) % 64, scene.stepTimer := some s.scene.stepPeriod
        scene.search := some ((s.scene.stepCounter + 1) % 64), scene.view := t.scene.view
        scene.buffers := s.scene.buffers.map fun b => if b.state = .selected then { b with state := .idle } else b
        handed := t.handed } ∧
      t.scene.results = s.scene.results ∧ t.scene.loadReported = s.scene.loadReported ∧
      t.scene.stepCounter = (s.scene.stepCounter + 1) % 64 ∧ t.scene.search = some t.scene.stepCounter ∧
      t.scene.stepTimer = some s.scene.stepPeriod ∧ t.scene.stepPeriod = s.scene.stepPeriod ∧
      t.scene.view.map (·.buffer) = (List.finRange 64).filter (fun i =>
        (s.scene.buffers[i].state = .idle || s.scene.buffers[i].state = .selected) && s.scene.buffers[i].committed &&
          !(s.scene.buffers[i].type = .paired && i.val % 2 = 0)) ∧
      (∀ c ∈ t.scene.view,
        c.generation = s.scene.buffers[c.buffer].generation ∧ c.priority = s.scene.buffers[c.buffer].priority ∧
        c.filterValue = s.scene.buffers[c.buffer].filterValue ∧
        c.filterMask = s.scene.buffers[c.buffer].filterMask ∧
        c.scene = s.scene.store[s.scene.buffers[c.buffer].slot]) ∧
      (∀ i : BufferIx, t.scene.buffers[i] = { s.scene.buffers[i] with
        state := if s.scene.engine = none ∧ ∃ n, t.scene.engine = some n ∧ (i = commitSide n ∨ i = outputSide n)
          then .transfer
          else if s.scene.buffers[i].state = .selected then .idle else s.scene.buffers[i].state }) ∧
      (s.scene.engine ≠ none → t.scene.engine = s.scene.engine) ∧
      t.scene.groups = s.scene.groups ∧ t.scene.store = s.scene.store ∧
      t.handed = s.handed ++ (match s.scene.search with
        | some step => [.noticeOffer .searchLate 0 (step : Nat)]
        | none => []) ∧
      t = { s with scene := t.scene, handed := t.handed }) ∧
  ∀ s : State, s.line.held = false →
    (∀ i : BufferIx, s.scene.buffers[i].state = .disabled ∨ s.scene.buffers[i].state = .disabledLocked) →
    exec .stepStart s = .next (arbitrate (finishSearch ((s.scene.stepCounter + 1) % 64) { s with
      scene.stepCounter := (s.scene.stepCounter + 1) % 64, scene.stepTimer := some s.scene.stepPeriod
      scene.view := []
      handed := s.handed ++ (match s.scene.search with
        | some step => [.noticeOffer .searchLate 0 (step : Nat)]
        | none => []) }))

/-- R148: a candidate whose filter matches the step is of class 0 with PRIORITY and of class 1 without, and any other
is of class 2. For a view in ascending buffer index, the winner of a group is its candidate of the lowest class 0 or 1
and, among those, of the lowest index, with the level and fade of its entry; a hold with a candidate has candidates of
class 2 alone; a hold with none has no candidate. A winner of the search has won a group that is ENABLED. -/
def Obligations.SearchFindsTheFirstOfTheLowestClass : Prop :=
  (∀ (step : Nat) (c : Candidate), candidateClass step c =
    if step &&& c.filterMask = c.filterValue &&& c.filterMask then (if c.priority then 0 else 1) else 2) ∧
  (∀ (view : List Candidate) (step : Nat) (g : GroupIx), (searchResults view step)[g] = searchGroup view step g) ∧
  (∀ (s : State) (c : Candidate), isWinner s c = true ↔ ∃ g : GroupIx, ∃ w,
    s.scene.groups[g].state = .enabled ∧ s.scene.results[g] = .winner w ∧ w.buffer = c.buffer) ∧
  ∀ (view : List Candidate) (step : Nat) (g : GroupIx), view.Pairwise (fun c d => c.buffer < d.buffer) →
    match searchGroup view step g with
    | .winner w => w.cls ≤ 1 ∧ ∃ c ∈ view, ∃ e, entryFor g c = some e ∧ candidateClass step c = w.cls ∧
        w = ⟨c.buffer, w.cls, c.generation, c.priority, e.level, e.fade⟩ ∧
        ∀ d ∈ view, (entryFor g d).isSome → w.cls ≤ candidateClass step d ∧
          (candidateClass step d = w.cls → c.buffer ≤ d.buffer)
    | .hold => (∃ d ∈ view, (entryFor g d).isSome) ∧ ∀ d ∈ view, (entryFor g d).isSome → candidateClass step d = 2
    | .none => ∀ d ∈ view, entryFor g d = none

/-- R151 to R154: the level worked out for a group. A haze-blocked group stands at 0 with no driver and no fade; any
other stands at or below the ceiling of the mode in force unless its driver carries PRIORITY; a new winner with a fade
begins it from the current level, one without takes its level at once, the driver that wins again moves its fade on by
one, a hold with a class 2 candidate keeps driver and fade, and a hold without a candidate leaves nothing driving the
group. A fade lies between its start and its target and ends on the target. -/
def Obligations.GroupLevelsFollowDriverCeilingAndHaze : Prop :=
  (∀ (s : State) (r : SearchResult) (g : Group),
    let h := levelledGroup s r g
    (blockedNow s g.defn = true →
      h.level = 0 ∧ h.driver = none ∧ h.fade = none ∧ h.hazeBlocked = true) ∧
    (blockedNow s g.defn = false →
      h.hazeBlocked = false ∧ (h.level ≤ (profileInForce s).ceiling ∨ ∃ d, h.driver = some d ∧ d.priority = true)) ∧
    (blockedNow s g.defn = false → ∀ w, r = .winner w →
      (∀ d, g.driver = some d → ¬(d.buffer = w.buffer ∧ d.generation = w.generation)) →
      h.driver = some ⟨w.buffer, w.generation, w.priority⟩ ∧
      (0 < w.fade → h.fade = some ⟨g.level, w.level, w.fade, 0⟩ ∧ h.level =
        if w.priority then g.level else min g.level (profileInForce s).ceiling) ∧
      (w.fade = 0 → h.fade = none ∧ h.level =
        if w.priority then w.level else min w.level (profileInForce s).ceiling)) ∧
    (blockedNow s g.defn = false → ∀ w d, r = .winner w → g.driver = some d → d.buffer = w.buffer →
      d.generation = w.generation →
      let under := fun level : Nat => if w.priority then level else min level (profileInForce s).ceiling
      h.driver = some ⟨w.buffer, w.generation, w.priority⟩ ∧
      (∀ f, g.fade = some f →
        let f' := { f with elapsed := if f.elapsed < f.length then f.elapsed + 1 else f.elapsed }
        h.fade = some f' ∧ h.level = under (fadeLevel f')) ∧
      (g.fade = none → h.fade = none ∧ h.level = under w.level)) ∧
    (blockedNow s g.defn = false → r = .hold →
      h.driver = g.driver ∧ h.fade = g.fade ∧
      ((∃ d, g.driver = some d ∧ d.priority = true) → h.level = g.level) ∧
      ((∀ d, g.driver = some d → d.priority = false) → h.level = min g.level (profileInForce s).ceiling)) ∧
    (blockedNow s g.defn = false → r = .none →
      h.driver = none ∧ h.fade = none ∧ h.level = min g.level (profileInForce s).ceiling) ∧
    h.defn = g.defn ∧ h.state = g.state ∧ h.lastSent = g.lastSent) ∧
  ∀ f : Fade, 0 < f.length → f.elapsed ≤ f.length →
    (fadeLevel f : Int) = f.start + Int.tdiv (((f.target : Int) - f.start) * f.elapsed) f.length ∧
    min f.start f.target ≤ fadeLevel f ∧ fadeLevel f ≤ max f.start f.target ∧
    (f.elapsed = 0 → fadeLevel f = f.start) ∧ (f.elapsed = f.length → fadeLevel f = f.target)

/-- R137, R138, R150, R156 to R158: the completion of a search. Every ENABLED group takes the level worked out for it
and is last sent that level, with a command where it was last sent another or none; settling starts on the haze point
of each sheet that a flash winner reaches by a group near it that is not blocked; the load is reported; each winner
still IDLE with its captured generation is SELECTED with PLAYED set and this step as its last played step, its commit
side carries the copy, and no other buffer changes; the search is IDLE. Slots, scenes and generations do not change.
The model's own in it: log entries 2, 16, 21 and 30. -/
def Obligations.SearchCompletionSetsLevelsAndMarks : Prop :=
  ∀ (s : State) (step : Nat), s.line.held = false → s.scene.search = some step →
    ∃ t, exec .searchCompletion s = .next (arbitrate t) ∧
      t.scene.search = none ∧
      (∀ i : GroupIx, s.scene.groups[i].state = .enabled →
        t.scene.groups[i] =
          { levelledGroup s (searchGroup s.scene.view step i) s.scene.groups[i] with
            lastSent := some (levelledGroup s (searchGroup s.scene.view step i) s.scene.groups[i]).level }) ∧
      (∀ i : GroupIx, s.scene.groups[i].state ≠ .enabled → t.scene.groups[i] = s.scene.groups[i]) ∧
      t.scene.loadReported = (t.scene.groups.toList.map fun g =>
        if g.state = .enabled then g.defn.rated * g.level / 1000 else 0).sum ∧
      t.handed = s.handed ++ [.lightingLoadUpdate t.scene.loadReported] ∧
      t.line.queue = enqueueAll ((List.finRange 32).flatMap (fun i : GroupIx =>
        if s.scene.groups[i].state = .enabled ∧ s.scene.groups[i].lastSent ≠ some t.scene.groups[i].level then
          [(s.scene.groups[i].defn.dimmer, t.scene.groups[i].level)] else [])) s.line.queue ∧
      SettledFrom (fun p => ∃ sh, (sheetRec s.fog sh).state ≠ .unused ∧ (sheetRec s.fog sh).defn.haze = some p ∧
        ∃ c ∈ s.scene.view, c.scene.flash = true ∧ ∃ i : GroupIx, ∃ w,
          s.scene.groups[i].state = .enabled ∧ searchGroup s.scene.view step i = .winner w ∧ w.buffer = c.buffer ∧
          t.scene.groups[i].hazeBlocked = false ∧
          (match sh with
            | .one => s.scene.groups[i].defn.near1
            | .two => s.scene.groups[i].defn.near2) = true) s t ∧
      (let marked := fun i : BufferIx =>
        s.scene.buffers[i].state = .idle ∧ isCommitSide i s.scene.buffers[i] = false ∧
        ∃ c ∈ s.scene.view, c.buffer = i ∧ c.generation = s.scene.buffers[i].generation ∧
          ∃ g : GroupIx, ∃ w, s.scene.groups[g].state = .enabled ∧ searchGroup s.scene.view step g = .winner w ∧
            w.buffer = i
       let copies := fun i : BufferIx =>
        marked (partner i) ∧ isOutputSide (partner i) s.scene.buffers[partner i] = true
       ∀ i : BufferIx,
        (marked i → t.scene.buffers[i] = { s.scene.buffers[i] with
          state := .selected, played := true, lastPlayed := some step }) ∧
        (¬marked i → copies i → t.scene.buffers[i] = { s.scene.buffers[i] with
          played := true, lastPlayed := some step }) ∧
        (¬marked i → ¬copies i → t.scene.buffers[i] = s.scene.buffers[i])) ∧
      t = { s with
        line.queue := t.line.queue, points := t.points, handed := t.handed
        scene := { s.scene with
          search := none, results := searchResults s.scene.view step, groups := t.scene.groups
          buffers := t.scene.buffers, loadReported := t.scene.loadReported } }

/-- R155, R158: a haze cut of a sheet sets every ENABLED haze source of it to level 0 with no fade and no driver,
queues a 0 for its dimmer in place of any command pending for it, leaves every other group and every other pending
entry, and reports the load. The model's own in it: log entries 2 and 21. -/
def Obligations.HazeCutDarkensTheSheet : Prop :=
  ∀ (s : State) (sh : Sheet), s.line.held = false →
    ∃ t, exec (.hazeCut sh) s = .next (arbitrate t) ∧
      (∀ i : GroupIx, HazeGroup sh s.scene.groups[i] →
        t.scene.groups[i] = { s.scene.groups[i] with
          level := 0, fade := none, driver := none, hazeBlocked := true, lastSent := some 0 } ∧
        QueueEntry.actuator s.scene.groups[i].defn.dimmer 0 ∈ t.line.queue ∧
        ∀ v, QueueEntry.actuator s.scene.groups[i].defn.dimmer v ∈ t.line.queue → v = 0) ∧
      (∀ i : GroupIx, ¬HazeGroup sh s.scene.groups[i] → t.scene.groups[i] = s.scene.groups[i]) ∧
      (∀ e, (∀ i : GroupIx, HazeGroup sh s.scene.groups[i] →
          isCommandFor s.scene.groups[i].defn.dimmer e = false) → (e ∈ t.line.queue ↔ e ∈ s.line.queue)) ∧
      t.scene.loadReported = (t.scene.groups.toList.map fun g =>
        if g.state = .enabled then g.defn.rated * g.level / 1000 else 0).sum ∧
      t = { s with
        line.queue := t.line.queue
        scene := { s.scene with groups := t.scene.groups, loadReported := t.scene.loadReported }
        handed := s.handed.erase (.hazeCut sh) ++ [.lightingLoadUpdate t.scene.loadReported] }

/-- R142, R144, R145, R146, R17: SET_STEP_PERIOD of 5 to 10000 ms sets the period and leaves the running timer, and
any other is refused with RANGE; WRITE_GROUP on a record that is not ENABLED, in range and with its address free for
it, loads the definition and removes a command pending for the address left; ENABLE_GROUP admits a DISABLED group at
level 0, sent a 0 where its sheet is blocked; DISABLE_GROUP keeps the level and queues nothing. The first check of
WRITE_GROUP that fails gives the status, and nothing changes: RANGE for an index above 31, STATE for an ENABLED
record, RANGE for a definition out of range, RANGE or CONFLICT for the address. The other two are refused with RANGE
for the index and STATE for an UNUSED record, and one that finds its state is DONE and changes nothing. The model's
own in it: log entry 21. -/
def Obligations.GroupRequestsChangeTheGroup : Prop :=
  (∀ (slot : SlotIx) (q : Request) (s : State), CanTake .setStepPeriod slot q s →
    5 ≤ wordAt q.args 0 → wordAt q.args 0 ≤ 10000 →
    exec (.setStepPeriod slot) s = .next (answered .setStepPeriod slot q .done []
      { taken .setStepPeriod slot s with scene.stepPeriod := wordAt q.args 0 })) ∧
  (∀ (slot : SlotIx) (q : Request) (s : State), CanTake .setStepPeriod slot q s →
    wordAt q.args 0 < 5 ∨ 10000 < wordAt q.args 0 →
    exec (.setStepPeriod slot) s = .next (answered .setStepPeriod slot q .range [] (taken .setStepPeriod slot s))) ∧
  (∀ (slot : SlotIx) (q : Request) (s : State) (i : GroupIx) (d : GroupDef), CanTake .writeGroup slot q s →
    byteAt q.args 0 = i.val → s.scene.groups[i].state ≠ .enabled → groupArgs q.args = some d →
    d.dimmer.node ≠ s.line.own → d.dimmer.node ≠ 63 → (∀ o, Owns s d.dimmer o → o = .group i) →
    exec (.writeGroup slot) s = .next (answered .writeGroup slot q .done []
      { taken .writeGroup slot s with
        scene.groups := s.scene.groups.set i ⟨d, .disabled, 0, none, none, false, none⟩
        line.queue := s.line.queue.filter (fun e =>
          !((s.scene.groups[i].state != .unused) && decide (s.scene.groups[i].defn.dimmer ≠ d.dimmer) &&
            isCommandFor s.scene.groups[i].defn.dimmer e)) })) ∧
  (∀ (slot : SlotIx) (q : Request) (s : State) (i : GroupIx), CanTake .enableGroup slot q s →
    byteAt q.args 0 = i.val → s.scene.groups[i].state = .disabled →
    let blocked := s.scene.groups[i].defn.hazeSource = true ∧ ∃ sh : Sheet,
      s.scene.groups[i].defn.sheet = some sh ∧ covered s sh = false ∧ fogOf s sh ≠ .clear
    (blocked → exec (.enableGroup slot) s = .next (answered .enableGroup slot q .done []
      (setGroup i ⟨s.scene.groups[i].defn, .enabled, 0, none, none, true, some 0⟩
        (queueCommand s.scene.groups[i].defn.dimmer 0 (taken .enableGroup slot s))))) ∧
    (¬blocked → exec (.enableGroup slot) s = .next (answered .enableGroup slot q .done []
      (setGroup i ⟨s.scene.groups[i].defn, .enabled, 0, none, none, false, none⟩ (taken .enableGroup slot s))))) ∧
  (∀ (slot : SlotIx) (q : Request) (s : State) (i : GroupIx), CanTake .disableGroup slot q s →
    byteAt q.args 0 = i.val → s.scene.groups[i].state = .enabled →
    exec (.disableGroup slot) s = .next (answered .disableGroup slot q .done []
      (setGroup i { s.scene.groups[i] with
        state := .disabled, fade := none, driver := none, hazeBlocked := false, lastSent := none }
        (taken .disableGroup slot s)))) ∧
  ∀ (slot : SlotIx) (q : Request) (s : State),
    let gives := fun (r : Req) (status : Status) => CanTake r slot q s → AnswersOnly r slot q status s
    (32 ≤ byteAt q.args 0 → gives .writeGroup .range ∧ gives .enableGroup .range ∧ gives .disableGroup .range) ∧
    ∀ i : GroupIx, byteAt q.args 0 = i.val →
      (s.scene.groups[i].state = .unused → gives .enableGroup .state ∧ gives .disableGroup .state) ∧
      (s.scene.groups[i].state = .enabled → gives .writeGroup .state ∧ gives .enableGroup .done) ∧
      (s.scene.groups[i].state = .disabled → gives .disableGroup .done) ∧
      (s.scene.groups[i].state ≠ .enabled → groupArgs q.args = none → gives .writeGroup .range) ∧
      ∀ d, s.scene.groups[i].state ≠ .enabled → groupArgs q.args = some d →
        (AddrForeign s d.dimmer → gives .writeGroup .range) ∧
        (AddrTaken s (· = .group i) d.dimmer → gives .writeGroup .conflict)

/-! ### Modes -/

/-- R160, R164, R165, R166: a report that is a wake takes the arena from SETBACK to the exit target, and any other
report has no effect; SET_MODE of a mode not in force enters it, writing the previous-mode memory on entry into
SETBACK, and one of the mode in force has no effect, and an unknown mode is refused with RANGE. A change hands a MODE
notice, a reallocation request and an electric recomputation. No command but a value report, SET_MODE and power-on
reset changes the arena mode. The model's own in it: log entries 2 and 21. -/
def Obligations.ModeChangesByWakeAndRequest : Prop :=
  (∀ (c : Instr) (s t : State), exec c s = .next t → t.mode.mode ≠ s.mode.mode →
    (∃ i v, c = .valueReport i v) ∨ (∃ slot, c = .setMode slot) ∨ ∃ own controller, c = .powerOnReset own controller) ∧
  (∀ (s : State) (i : PointIx) (v : Int), s.line.held = false →
    let wake := s.mode.mode = .setback ∧ i ∈ s.mode.setbackProfile.wakePoints ∧
      (s.points[i].defn.cls = .count ∨ s.points[i].defn.cls = .position) ∧ 0 < v
    let target := match s.mode.setbackProfile.exitTarget with
      | .previous => s.mode.previous
      | .practice => .practice
      | .event => .event
    (wake → exec (.valueReport i v) s = .next (arbitrate { s with
      mode.mode := target
      handed := s.handed.erase (.valueReport i v) ++
        [.noticeOffer .mode 0 (65536 * i.val + 28 + modeCode target : Nat), .reallocationRequest,
          .electricRecompute] })) ∧
    (¬wake → exec (.valueReport i v) s = .next (arbitrate { s with
      handed := s.handed.erase (.valueReport i v) }))) ∧
  (∀ (slot : SlotIx) (q : Request) (s : State), CanTake .setMode slot q s → 3 < byteAt q.args 0 →
    exec (.setMode slot) s = .next (answered .setMode slot q .range [] (taken .setMode slot s))) ∧
  ∀ (slot : SlotIx) (q : Request) (s : State) (m : Mode), CanTake .setMode slot q s → byteAt q.args 0 = modeCode m →
    (m = s.mode.mode → exec (.setMode slot) s = .next (answered .setMode slot q .done [] (taken .setMode slot s))) ∧
    (m ≠ s.mode.mode → exec (.setMode slot) s = .next (answered .setMode slot q .done [] { s with
      mode.mode := m
      mode.previous := if m = .setback then s.mode.mode else s.mode.previous
      handed := s.handed.erase (.setMode slot) ++
        [.noticeOffer .mode 0 (4 * modeCode s.mode.mode + modeCode m : Nat), .reallocationRequest,
          .electricRecompute] }))

/-- R97, R98, R163, R169, R170: WRITE_PROFILE in range replaces the profile of its mode, with a reallocation request
when that mode is in force; COVER_SHEET and UNCOVER_SHEET of a sheet not yet so change its cover flag and its fog
state and hand its caps. A cover request that finds its flag has no effect. An unknown mode or sheet number, a profile
out of range, and a wake point named twice, UNUSED or of another class are refused with RANGE. The model's own in it:
log entries 2 and 21. -/
def Obligations.ProfilesAndCoversAreSet : Prop :=
  (∀ (slot : SlotIx) (q : Request) (s : State) (m : Mode) (p : Profile), CanTake .writeProfile slot q s →
    byteAt q.args 0 = modeCode m → profileArgs m q.args = some p → p.wakePoints.Nodup →
    (∀ i ∈ p.wakePoints, s.points[i].state ≠ .unused ∧
      (s.points[i].defn.cls = .count ∨ s.points[i].defn.cls = .position)) →
    ∃ t, exec (.writeProfile slot) s = .next (answered .writeProfile slot q .done [] t) ∧
      profileOf t.mode m = p ∧ (∀ n, n ≠ m → profileOf t.mode n = profileOf s.mode n) ∧
      t.mode.mode = s.mode.mode ∧ t.mode.previous = s.mode.previous ∧ (∀ sh, covered t sh = covered s sh) ∧
      t = { s with
        mode := t.mode
        handed := s.handed.erase (.writeProfile slot) ++
          if m = s.mode.mode then [.reallocationRequest] else [] }) ∧
  (∀ (slot : SlotIx) (q : Request) (s : State) (sh : Sheet), CanTake .coverSheet slot q s →
    byteAt q.args 0 = sheetNumber sh →
    (covered s sh = true →
      exec (.coverSheet slot) s = .next (answered .coverSheet slot q .done [] (taken .coverSheet slot s))) ∧
    (covered s sh = false →
      ∃ t, exec (.coverSheet slot) s = .next (answered .coverSheet slot q .done [] t) ∧
        covered t sh = true ∧ (∀ other, other ≠ sh → covered t other = covered s other) ∧
        sheetRec t.fog sh = { sheetRec s.fog sh with fog := .clear, recoverTimer := none } ∧
        (∀ other, other ≠ sh → sheetRec t.fog other = sheetRec s.fog other) ∧
        t.handed = s.handed.erase (.coverSheet slot) ++
          (if fogOf s sh = .clear then []
          else [.noticeOffer .fogState (sheetNumber sh) (4 * fogCode (fogOf s sh) : Nat)]) ++
          [.capHanding sh s.fog.caps.clear, .reallocationRequest] ∧
        t = { s with mode.cover1 := t.mode.cover1, mode.cover2 := t.mode.cover2, fog := t.fog, handed := t.handed })) ∧
  (∀ (slot : SlotIx) (q : Request) (s : State),
    let gives := fun (r : Req) (status : Status) => CanTake r slot q s → AnswersOnly r slot q status s
    (3 < byteAt q.args 0 → gives .writeProfile .range) ∧
    (∀ m, byteAt q.args 0 = modeCode m → profileArgs m q.args = none → gives .writeProfile .range) ∧
    (∀ m p, byteAt q.args 0 = modeCode m → profileArgs m q.args = some p →
      ¬p.wakePoints.Nodup ∨ (∃ i ∈ p.wakePoints, s.points[i].state = .unused ∨
        (s.points[i].defn.cls ≠ .count ∧ s.points[i].defn.cls ≠ .position)) → gives .writeProfile .range) ∧
    (byteAt q.args 0 ≠ 1 → byteAt q.args 0 ≠ 2 → gives .coverSheet .range ∧ gives .uncoverSheet .range)) ∧
  ∀ (slot : SlotIx) (q : Request) (s : State) (sh : Sheet), CanTake .uncoverSheet slot q s →
    byteAt q.args 0 = sheetNumber sh →
    (covered s sh = false →
      exec (.uncoverSheet slot) s = .next (answered .uncoverSheet slot q .done [] (taken .uncoverSheet slot s))) ∧
    (covered s sh = true → fogOf s sh = .clear →
      ∃ t, exec (.uncoverSheet slot) s = .next (answered .uncoverSheet slot q .done [] t) ∧
        covered t sh = false ∧ (∀ other, other ≠ sh → covered t other = covered s other) ∧
        (∀ other, other ≠ sh → sheetRec t.fog other = sheetRec s.fog other) ∧
        ((sheetRec s.fog sh).state = .enabled →
          sheetRec t.fog sh = { sheetRec s.fog sh with fog := .watch } ∧
          t.handed = s.handed.erase (.uncoverSheet slot) ++
            [.noticeOffer .fogState (sheetNumber sh) 1, .capHanding sh s.fog.caps.watch, .hazeCut sh,
              .reallocationRequest]) ∧
        ((sheetRec s.fog sh).state ≠ .enabled →
          sheetRec t.fog sh = sheetRec s.fog sh ∧
          t.handed = s.handed.erase (.uncoverSheet slot) ++
            [.capHanding sh s.fog.caps.clear, .reallocationRequest]) ∧
        t = { s with mode.cover1 := t.mode.cover1, mode.cover2 := t.mode.cover2, fog := t.fog, handed := t.handed })

/-! ### Reads, rights and notices -/

/-- R30, R59, R84, R104, R129, R147, R172, R195: the read requests of the owning blocks are answered DONE with results
of the length their layouts give, which carry the record as it stands, and change no field. An index, number or mode
outside its range is refused with RANGE. The model's own in it: log entries 9, 13, 19, 21 and 27. -/
def Obligations.ReadsAnswerTheRecordAndChangeNothing : Prop :=
  ∀ (slot : SlotIx) (q : Request) (s : State),
    let reads := fun (r : Req) (e : Instr) (results : List Byte) =>
      exec e s = .next (answered r slot q .done results (taken r slot s))
    let refused := fun r : Req => CanTake r slot q s → AnswersOnly r slot q .range s
    (∀ b, q.args = [b] → (8 ≤ b.toNat → refused .readBudget) ∧ (24 ≤ b.toNat → refused .readZone) ∧
      (32 ≤ b.toNat → refused .readGroup) ∧ (b.toNat = 0 ∨ 8 ≤ b.toNat → refused .readSheet) ∧
      (64 ≤ b.toNat → refused .readBuffer) ∧ (4 ≤ b.toNat → refused .readProfile)) ∧
    (∀ i : PointIx, CanTake .readPoint slot q s → pointIxAt q.args 0 = i →
      ∃ b : List Byte, reads .readPoint (.readPoint slot) b ∧ b.length = 44 ∧
        (let p := s.points[i]
         b = pointDefBytes p.defn ++ u8 (pointStateCode p.state + 16 * qualityCode (qualityOf p.state)) ++
          s24 (presentedValue s i) ++ s24 p.ownValue ++
          u8 ((if p.clamped then 1 else 0) + (if p.spikeSide = .below then 2 else 0) + 4 * p.spikeCount +
            (if p.lastAccepted = none then 0 else 16) + 32 * p.recovery) ++
          (match p.lastAccepted with | some time => u32 time | none => [255, 255, 255, 255]) ++
          u16 p.accepted ++ u16 p.rangeCount ++ u16 p.spikes ++ u16 p.faults) ∧
        byteAt b 24 = pointStateCode s.points[i].state + 16 * qualityCode (qualityOf s.points[i].state) ∧
        (-8388608 ≤ presentedValue s i → presentedValue s i < 8388608 → s24At b 25 = presentedValue s i) ∧
        wordAt b 36 = s.points[i].accepted % 65536 ∧ wordAt b 42 = s.points[i].faults % 65536) ∧
    (∀ i : ConsumerIx, CanTake .readBudget slot q s → q.args = [BitVec.ofNat 8 i.val] →
      ∃ b : List Byte, reads .readBudget (.readBudget slot) b ∧ b.length = 45 ∧
        (let c := s.budget.consumers[i]
         b = consumerDefBytes c.defn ++ u8 (recordStateCode c.state + 4 * c.effClass) ++ u24 c.demand ++ u16 c.effCap ++
          u16 c.effDemand ++ u16 c.grant ++ u16 c.allowed ++
          (if c.defn.handling = some .drive then
            (match c.lastSent with | some v => u16 v | none => [255, 255]) ++ u16 0
          else u16 c.requested ++ u16 c.lastForwarded)) ∧
        wordAt b 37 = s.budget.consumers[i].grant % 65536 ∧ wordAt b 39 = s.budget.consumers[i].allowed % 65536) ∧
    (CanTake .readBudget slot q s → q.args = [] →
      ∃ b : List Byte, reads .readBudget (.readBudget slot) b ∧ b.length = 28 ∧
        (let u := s.budget
         b = (match u.settings with
            | some r => u8 r.supply.val ++ u8 r.ret.val ++ u8 r.flow.val ++ u16 r.fluid ++ u8 r.shift
            | none => [255, 255, 255, 0, 0, 0]) ++
          u24 u.rawHeat ++ u24 u.smoothed ++ u16 u.reserveUsed ++ u24 u.usable ++
          u8 ((if u.inputLost then 1 else 0) + if u.degraded then 2 else 0) ++
          u8 (if u.allocation = none then 0 else 1) ++ u8 (if u.pendingFlag then 1 else 0) ++ u24 u.load ++
          u16 u.fanPower ++ u16 u.allowance ++ u8 (if u.overDemand then 1 else 0)) ∧
        byteAt b 14 * 65536 + wordAt b 15 = s.budget.usable % 16777216 ∧ wordAt b 25 = s.budget.allowance % 65536) ∧
    (∀ sh, CanTake .readSheet slot q s → q.args = [BitVec.ofNat 8 (sheetNumber sh)] →
      ∃ b : List Byte, reads .readSheet (.readSheet slot) b ∧ b.length = 34 ∧
        (let r := sheetRec s.fog sh
         b = u8 (recordStateCode r.state) ++ sheetDefBytes r.defn ++ u8 (fogCode r.fog) ++ s16 r.dewPoint ++
          s16 r.mixing ++ s16 r.margin ++ u16 r.hazeValue ++
          u8 ((if r.inputLost then 1 else 0) + (if r.degraded then 2 else 0) + (if r.airLimit then 4 else 0) +
            (if r.dewLow then 8 else 0) + (if r.dewHigh then 16 else 0) + (if r.hazeValid then 32 else 0) +
            (if r.fogTimer = none then 0 else 64) + if r.recoverTimer = none then 0 else 128) ++
          (match r.recoverTimer with | some ms => u16 (ms / 1000) | none => [255, 255])) ∧
        byteAt b 22 = fogCode (fogOf s sh) ∧
        (-32768 ≤ (sheetRec s.fog sh).margin → (sheetRec s.fog sh).margin < 32768 →
          swordAt b 27 = (sheetRec s.fog sh).margin)) ∧
    (CanTake .readSheet slot q s → q.args = [3] →
      ∃ b : List Byte, reads .readSheet (.readSheet slot) b ∧ b.length = 25 ∧
        b = ([FogState.clear, .watch, .fog, .recover].flatMap fun f =>
            let c := capsOf s.fog.caps f
            u16 c.iceEdge ++ u16 c.mid ++ u16 c.upper) ++
          u8 ((if s.fog.loaded[0] then 1 else 0) + (if s.fog.loaded[1] then 2 else 0) +
            (if s.fog.loaded[2] then 4 else 0) + (if s.fog.loaded[3] then 8 else 0) +
            if ∀ g : Fin 4, s.fog.loaded[g] = true then 16 else 0) ∧
        wordAt b 6 = s.fog.caps.watch.iceEdge % 65536) ∧
    (∀ g : Fin 4, CanTake .readSheet slot q s → q.args = [BitVec.ofNat 8 (4 + g.val)] →
      ∃ b : List Byte, reads .readSheet (.readSheet slot) b ∧ b.length = 32 ∧
        ∀ k, k < 16 → wordAt b (2 * k) = dewEntry s.fog.dew (16 * g.val + k) % 65536) ∧
    (∀ i : ZoneIx, CanTake .readZone slot q s → q.args = [BitVec.ofNat 8 i.val] →
      ∃ b : List Byte, reads .readZone (.readZone slot) b ∧ b.length = 30 ∧
        (let z := s.zones.zones[i]
         b = zoneDefBytes z.defn ++ u8 (recordStateCode z.state) ++ u16 z.reqPosition ++ u16 z.fogCap ++ u16 z.capped ++
          u16 z.demand ++ u16 z.share ++ u16 z.allowed ++ u16 z.lastForwarded ++ u8 z.reqStages ++ u8 z.allowedStages ++
          u8 z.lastStages) ∧
        wordAt b 23 = s.zones.zones[i].allowed % 65536 ∧ byteAt b 28 = s.zones.zones[i].allowedStages % 256) ∧
    (CanTake .readZone slot q s → q.args = [] →
      ∃ b : List Byte, reads .readZone (.readZone slot) b ∧ b.length = 21 ∧
        b = ([s.zones.capSet1, s.zones.capSet2].flatMap fun c => u16 c.iceEdge ++ u16 c.mid ++ u16 c.upper) ++
          u24 (zoneAggregate s) ++ (match s.zones.grant with | some g => u16 g | none => [255, 255]) ++
          u16 s.zones.taken ++ u16 s.zones.left ∧
        byteAt b 12 * 65536 + wordAt b 13 = zoneAggregate s % 16777216 ∧
        (∀ g, s.zones.grant = some g → wordAt b 15 = g % 65536) ∧ (s.zones.grant = none → wordAt b 15 = 65535)) ∧
    (∀ i : BufferIx, CanTake .readBuffer slot q s → byteAt q.args 0 = i.val →
      ∃ b : List Byte, reads .readBuffer (.readBuffer slot) b ∧
        b.length = 11 + 4 * s.scene.store[s.scene.buffers[i].slot].entries.length ∧
        (let r := s.scene.buffers[i]
         let sc := s.scene.store[r.slot]
         b = u8 (bufferTypeCode r.type) ++
          u8 (if r.type = .single then 0 else if i.val % 2 = 0 then 1 else 2) ++
          (if r.type = .single then [255]
          else u8 (commitModeCode (if i.val % 2 = 0 then r.commitMode
            else s.scene.buffers[partner i].commitMode))) ++
          u8 r.filterValue ++ u8 r.filterMask ++
          u8 ((if r.priority then 1 else 0) + (if r.committed then 2 else 0) + (if r.played then 4 else 0) +
            (if r.state = .locked ∨ r.state = .disabledLocked then 8 else 0) + if sc.flash then 16 else 0) ++
          u8 (bufferStateCode r.state) ++ u8 r.generation ++
          (match r.lastPlayed with | some k => u8 k | none => [255]) ++ u8 r.slot.val ++ u8 sc.entries.length ++
          sc.entries.flatMap fun e => u8 e.group.val ++ u16 e.level ++ u8 e.fade) ∧
        byteAt b 6 = bufferStateCode s.scene.buffers[i].state ∧ byteAt b 7 = s.scene.buffers[i].generation % 256) ∧
    (∀ i : GroupIx, CanTake .readGroup slot q s → q.args = [BitVec.ofNat 8 i.val] →
      ∃ b : List Byte, reads .readGroup (.readGroup slot) b ∧ b.length = 20 ∧
        (let g := s.scene.groups[i]
         b = groupDefBytes g.defn ++ u8 (recordStateCode g.state) ++ u16 g.level ++
          u8 ((if g.fade = none then 0 else 1) + (if g.driver = none then 0 else 2) +
            (match g.driver with | some d => if d.priority then 4 else 0 | none => 0) +
            if g.hazeBlocked then 8 else 0) ++
          (match g.fade with
            | some f => u16 f.start ++ u16 f.target ++ u8 f.length ++ u8 f.elapsed
            | none => [0, 0, 0, 0, 0, 0]) ++
          (match g.driver with | some d => u8 d.buffer.val ++ u8 d.generation | none => [0, 0]) ++
          (match g.lastSent with | some v => u16 v | none => [255, 255])) ∧
        wordAt b 7 = s.scene.groups[i].level % 65536) ∧
    (CanTake .readGroup slot q s → q.args = [] →
      ∃ b : List Byte, reads .readGroup (.readGroup slot) b ∧ b.length = 8 ∧
        (let u := s.scene
         b = u16 u.stepPeriod ++ u8 u.stepCounter ++
          (match u.search with | some step => [1] ++ u8 step | none => [0, 255]) ++ u24 u.loadReported) ∧
        byteAt b 2 = s.scene.stepCounter % 256) ∧
    ∀ m, CanTake .readProfile slot q s → byteAt q.args 0 = modeCode m →
      ∃ b : List Byte, reads .readProfile (.readProfile slot) b ∧
        b = u8 (modeCode s.mode.mode) ++ u8 (modeCode s.mode.previous) ++
          u8 ((if covered s .one then 1 else 0) + if covered s .two then 2 else 0) ++
          profileBytes m (profileOf s.mode m) ∧
        b.length = 15 + (profileOf s.mode m).wakePoints.length ∧ byteAt b 0 = modeCode s.mode.mode ∧
        byteAt b 1 = modeCode s.mode.previous ∧ wordAt b 4 = (profileOf s.mode m).eMax % 65536

/-- R10, R179, R180, R182: READ_STATUS is answered with 22 bytes, arms the overrun notice, and with CLEAR_CAUSE set
clears the reset cause record; WRITE_RIGHTS replaces one node's rights where some node then holds ADMIN; FREEZE_RIGHTS
sets the freeze flag, after which WRITE_RIGHTS is refused with STATE. An undefined flag bit of READ_STATUS, and
WRITE_RIGHTS of the part's own node or one above 62, is refused with RANGE. That a READ_STATUS taken while a restart
is pending clears nothing is the model's reading (log entry 10). The model's own in it: log entry 21. -/
def Obligations.ResponderRequestsAreAnswered : Prop :=
  (∀ (slot : SlotIx) (q : Request) (s : State),
    (CanTake .readStatus slot q s → 1 < byteAt q.args 0 → AnswersOnly .readStatus slot q .range s) ∧
    (CanTake .writeRights slot q s → 62 < byteAt q.args 0 ∨ byteAt q.args 0 = s.line.own →
      AnswersOnly .writeRights slot q .range s)) ∧
  (∀ (slot : SlotIx) (q : Request) (s : State) (clear : Bool), CanTake .readStatus slot q s →
    byteAt q.args 0 = (if clear then 1 else 0) →
    ∃ b : List Byte, b.length = 22 ∧ wordAt b 0 = 3480 ∧ byteAt b 2 = 1 ∧ byteAt b 3 = s.line.own % 256 ∧
      byteAt b 4 = s.line.controller % 256 ∧ byteAt b 5 = modeCode s.mode.mode ∧
      byteAt b 6 = (if s.line.up then 1 else 0) ∧ wordAt b 7 = s.line.lineErrors % 65536 ∧
      wordAt b 9 = s.line.overruns % 65536 ∧ wordAt b 11 = s.line.drops % 65536 ∧
      byteAt b 13 = (if s.notices.causePower then 1 else 0) + (if s.notices.causeRestart then 2 else 0) +
        (if s.responder.frozen then 4 else 0) ∧
      wordAt b 14 * 65536 + wordAt b 16 = s.notices.seconds % 4294967296 ∧ wordAt b 18 = s.notices.mask.toNat ∧
      wordAt b 20 = s.notices.overflow % 65536 ∧
      exec (.readStatus slot) s = .next (answered .readStatus slot q .done b
        (let t := { taken .readStatus slot s with line.overrunArmed := true }
         if clear = true ∧ s.responder.restartPending = false then
          { t with notices.causePower := false, notices.causeRestart := false }
         else t))) ∧
  (∀ (slot : SlotIx) (q : Request) (s : State) (n : Fin 64), CanTake .writeRights slot q s →
    byteAt q.args 0 = n.val → n.val ≤ 62 → n.val ≠ s.line.own →
    let b := byteAt q.args 1
    let rights : Rights := ⟨b % 2 = 1, b / 2 % 2 = 1, b / 4 % 2 = 1, b / 8 % 2 = 1⟩
    (s.responder.frozen = true →
      exec (.writeRights slot) s = .next (answered .writeRights slot q .state [] (taken .writeRights slot s))) ∧
    (s.responder.frozen = false →
      (rights.admin = true ∨ ∃ m : Fin 64, m ≠ n ∧ m.val ≤ 62 ∧ s.line.nodes[m].rights.admin = true) →
      exec (.writeRights slot) s = .next (answered .writeRights slot q .done [] { taken .writeRights slot s with
        line.nodes := s.line.nodes.set n { s.line.nodes[n] with rights := rights } })) ∧
    (s.responder.frozen = false → rights.admin = false →
      (∀ m : Fin 64, m ≠ n → m.val ≤ 62 → s.line.nodes[m].rights.admin = false) →
      exec (.writeRights slot) s = .next (answered .writeRights slot q .conflict [] (taken .writeRights slot s)))) ∧
  ∀ (slot : SlotIx) (q : Request) (s : State), CanTake .freezeRights slot q s →
    (s.responder.frozen = false → exec (.freezeRights slot) s = .next (answered .freezeRights slot q .done []
      { taken .freezeRights slot s with responder.frozen := true })) ∧
    (s.responder.frozen = true →
      exec (.freezeRights slot) s = .next (answered .freezeRights slot q .state [] (taken .freezeRights slot s)))

/-- R185 to R188: an offering of an enabled kind replaces the queued notice of its kind and subject in place, or
enters the tail of a queue with room, or is counted; one of a suppressed kind is discarded. The seconds counter
advances by one and stays at its limit. WRITE_NOTICE_MASK replaces the mask in whole, and a kind beyond the thirteen
is refused with RANGE. The model's own in it: log entries 2 and 21. -/
def Obligations.NoticesAreQueuedCoalescedOrCounted : Prop :=
  (∀ (s : State) (k : NoticeKind) (subject : Nat) (value : Int), s.line.held = false →
    let n : Notice := ⟨k, subject, value, s.notices.seconds⟩
    let same := fun m : Notice => m.kind = k ∧ m.subject = subject
    let t := { s with handed := s.handed.erase (.noticeOffer k subject value) }
    (kindEnabled s.notices.mask k = false → exec (.noticeOffer k subject value) s = .next (arbitrate t)) ∧
    (kindEnabled s.notices.mask k = true → (∃ m ∈ s.notices.queue, same m) →
      exec (.noticeOffer k subject value) s = .next (arbitrate { t with
        notices.queue := s.notices.queue.map fun m => if m.kind = k ∧ m.subject = subject then n else m })) ∧
    (kindEnabled s.notices.mask k = true → (∀ m ∈ s.notices.queue, ¬same m) →
      (s.notices.queue.length < 32 →
        exec (.noticeOffer k subject value) s = .next (arbitrate { t with
          notices.queue := s.notices.queue ++ [n] })) ∧
      (32 ≤ s.notices.queue.length →
        exec (.noticeOffer k subject value) s = .next (arbitrate { t with
          notices.overflow := min (s.notices.overflow + 1) 65535 })))) ∧
  (∀ s : State, s.line.held = false → exec .secondsTick s = .next (arbitrate { s with
    notices.seconds := min (s.notices.seconds + 1) 4294967295 })) ∧
  (∀ (slot : SlotIx) (q : Request) (s : State), CanTake .writeNoticeMask slot q s → 8192 ≤ wordAt q.args 0 →
    exec (.writeNoticeMask slot) s =
      .next (answered .writeNoticeMask slot q .range [] (taken .writeNoticeMask slot s))) ∧
  ∀ (slot : SlotIx) (q : Request) (s : State), CanTake .writeNoticeMask slot q s → wordAt q.args 0 < 8192 →
    ∃ t, exec (.writeNoticeMask slot) s = .next (answered .writeNoticeMask slot q .done [] t) ∧
      (∀ k, kindEnabled t.notices.mask k = (wordAt q.args 0).testBit (noticeCode k - 1)) ∧
      t = { taken .writeNoticeMask slot s with notices.mask := t.notices.mask }

/-! ### Layouts -/

/-- Chapter 11.5, R26, R50, R56, R81, R96, R101, R121, R125, R144, R163, R194: arguments of the length their request
allows are read as a definition exactly when it lies in the ranges of its chapter and they are its layout; what is
read as none is what the owner refuses with RANGE. The layout is that of the definition's read, or, where READ_BUFFER
places a buffer's configuration and scene among other fields, that of the request. The model's own in it: log entries
9 and 17. -/
def Obligations.DefinitionsReadBackAsWritten : Prop :=
  ∀ a : List Byte,
    (argsFit .writePoint a = true → ∀ own d,
      pointArgs own a = some d ↔ PointInRange own d ∧ pointDefBytes d = a.drop 1) ∧
    (argsFit .writeRecovery a = true → ∀ r,
      recoveryArgs a = some r ↔ RecoveryInRange r ∧ recoveryBytes (some r) = a) ∧
    (argsFit .writeConsumer a = true → ∀ d,
      consumerArgs a = some d ↔ ConsumerInRange d ∧ consumerDefBytes d = a.drop 1) ∧
    (argsFit .loadDewTable a = true → (dewArgs a).flatMap u16 = a.drop 2) ∧
    (argsFit .writeSheet a = true → ∀ d, sheetArgs a = some d ↔ SheetInRange d ∧ sheetDefBytes d = a.drop 1) ∧
    (argsFit .writeFogCaps a = true → ∀ t, capTableArgs a = some t ↔ CapsInRange t ∧ capTableBytes t = a) ∧
    (argsFit .writeZone a = true → ∀ d, zoneArgs a = some d ↔ ZoneInRange d ∧ zoneDefBytes d = a.drop 1) ∧
    (argsFit .writeGroup a = true → ∀ d, groupArgs a = some d ↔ GroupInRange d ∧ groupDefBytes d = a.drop 1) ∧
    (argsFit .writeScene a = true → ∀ sc, sceneArgs a = some sc ↔ SceneInRange sc ∧
      u8 (if sc.flash then 1 else 0) ++ u8 sc.entries.length ++ sc.entries.flatMap entryBytes = a.drop 1) ∧
    (argsFit .configureBuffer a = true → ∀ c, bufferArgs a = some c ↔ ConfigInRange c ∧
      u8 (bufferTypeCode c.type) ++ u8 (commitModeCode c.commitMode) ++ u8 c.filterValue ++ u8 c.filterMask ++
        u8 (if c.priority then 1 else 0) = a.drop 1) ∧
    (argsFit .writeProfile a = true → ∀ m p, byteAt a 0 = modeCode m →
      (profileArgs m a = some p ↔ ProfileInRange m p ∧ profileBytes m p = a))

/-- Chapter 11.1, R14, R193: a frame the part forms passes its own frame test, and its fields read back. -/
def Obligations.FormedFramesAreGoodFrames : Prop :=
  ∀ (dest source kind seq : Nat) (payload : List Byte),
    dest < 256 → source ≤ 62 → kind < 256 → seq < 16 → payload.length ≤ 48 →
    let frame := frameOf dest source kind seq payload
    goodFrame frame = true ∧ destOf frame = dest ∧ sourceOf frame = source ∧ kindOf frame = kind ∧
      byteAt frame 3 = seq ∧ seqOf frame = seq ∧ lengthOf frame = payload.length ∧ payloadOf frame = payload

/-! ### Invariants -/

/-- Every power-on state meets every invariant. -/
def Obligations.PowerOnMeetsEveryInvariant : Prop :=
  ∀ (own controller : Strap) (pending : List Instr),
    let s := powerOnState own controller pending
    NoticeQueueSound s ∧ CommandQueueSound s ∧ RepliesSound s ∧ LineOutSound s ∧ CountsInRange s ∧ ModeSound s ∧
    IndexSound s ∧ PointsSound s ∧ GrantsSound s ∧ BoostSound s ∧ ForwardedSound s ∧ SlotsSound s ∧ TransferSound s ∧
    PairsSound s ∧ HazeSound s

/-- R9, R11, R12, R14, R15, R21, R174, R188: every step keeps the queues of Line Out sound. -/
def Obligations.StepKeepsTheQueuesSound : Prop :=
  ∀ s t : State, step s = .next t →
    (NoticeQueueSound s → NoticeQueueSound t) ∧ (CommandQueueSound s → CommandQueueSound t) ∧
    (LineOutSound s → LineOutSound t) ∧ (RepliesSound s → RepliesSound t)

/-- R1, R4, R5, R9, R21, R31, R32, R34, R35, R119, R141, R160, R185, R188: every step keeps every count in its range,
and the previous-mode memory other than SETBACK. -/
def Obligations.StepKeepsTheCountsInRange : Prop :=
  ∀ s t : State, step s = .next t → (CountsInRange s → CountsInRange t) ∧ (ModeSound s → ModeSound t)

/-- R17: every step keeps each actuator address with at most one owner, none on the part's own node or on 63. -/
def Obligations.StepKeepsTheActuatorIndexSound : Prop :=
  ∀ s t : State, IndexSound s → step s = .next t → IndexSound t

/-- R39, R42, R43, R45, R46: every step keeps the points sound: a point in STALE_SUB follows a FRESH or SETTLING one.
-/
def Obligations.StepKeepsThePointsSound : Prop :=
  ∀ s t : State, PointsSound s → step s = .next t → PointsSound t

/-- R58, R66, R67, R70: every step keeps the grants together within the usable heat. -/
def Obligations.StepKeepsTheGrantsWithinTheHeat : Prop :=
  ∀ s t : State, GrantsSound s → step s = .next t → GrantsSound t

/-- R107, R111, R113 to R115: every step keeps the boost stages within the allowance last computed, and no zone's last
forwarded values above what it is allowed. -/
def Obligations.StepKeepsTheZonesSound : Prop :=
  ∀ s t : State, step s = .next t → (BoostSound s → BoostSound t) ∧ (ForwardedSound s → ForwardedSound t)

/-- R118 to R120, R131, R132: every step keeps the mapping of buffers to slots a permutation, TRANSFER to the two
sides of the pair in flight, and the two buffers of a pair of one type, a pair's sides enabled, disabled and in
TRANSFER together, no commit side SELECTED and no output side locked. The model's own in it: log entry 16. -/
def Obligations.StepKeepsTheBuffersSound : Prop :=
  ∀ s t : State, step s = .next t →
    (SlotsSound s → SlotsSound t) ∧ (TransferSound s → TransferSound t) ∧ (PairsSound s → PairsSound t)

/-- R94, R97, R154, R155: every step keeps every uncovered sheet that is not CLEAR dark, or its haze cut handed. The
model's own in it: log entries 2 and 8. -/
def Obligations.StepKeepsTheSheetsDark : Prop :=
  ∀ s t : State, HazeSound s → step s = .next t → HazeSound t
end

