-- ==== Sys2Proof/Laws/State.lean ====
section
/-! SUPPORT. What each named update of State leaves in each field: one lemma per field per update, true by definition,
so that no later proof unfolds a record update. -/

namespace Sys2Proof.Machine

variable (s : State)


/-! ### hand -/

@[simp] theorem hand_line (e : Instr) : (hand e s).line = s.line := rfl
@[simp] theorem hand_points (e : Instr) : (hand e s).points = s.points := rfl
@[simp] theorem hand_budget (e : Instr) : (hand e s).budget = s.budget := rfl
@[simp] theorem hand_fog (e : Instr) : (hand e s).fog = s.fog := rfl
@[simp] theorem hand_zones (e : Instr) : (hand e s).zones = s.zones := rfl
@[simp] theorem hand_scene (e : Instr) : (hand e s).scene = s.scene := rfl
@[simp] theorem hand_mode (e : Instr) : (hand e s).mode = s.mode := rfl
@[simp] theorem hand_responder (e : Instr) : (hand e s).responder = s.responder := rfl
@[simp] theorem hand_notices (e : Instr) : (hand e s).notices = s.notices := rfl
@[simp] theorem hand_timeBase (e : Instr) : (hand e s).timeBase = s.timeBase := rfl
@[simp] theorem hand_handed (e : Instr) : (hand e s).handed = s.handed ++ [e] := rfl
@[simp] theorem hand_pending (e : Instr) : (hand e s).pending = s.pending := rfl

/-! ### handAll -/

@[simp] theorem handAll_line (es : List Instr) : (handAll es s).line = s.line := rfl
@[simp] theorem handAll_points (es : List Instr) : (handAll es s).points = s.points := rfl
@[simp] theorem handAll_budget (es : List Instr) : (handAll es s).budget = s.budget := rfl
@[simp] theorem handAll_fog (es : List Instr) : (handAll es s).fog = s.fog := rfl
@[simp] theorem handAll_zones (es : List Instr) : (handAll es s).zones = s.zones := rfl
@[simp] theorem handAll_scene (es : List Instr) : (handAll es s).scene = s.scene := rfl
@[simp] theorem handAll_mode (es : List Instr) : (handAll es s).mode = s.mode := rfl
@[simp] theorem handAll_responder (es : List Instr) : (handAll es s).responder = s.responder := rfl
@[simp] theorem handAll_notices (es : List Instr) : (handAll es s).notices = s.notices := rfl
@[simp] theorem handAll_timeBase (es : List Instr) : (handAll es s).timeBase = s.timeBase := rfl
@[simp] theorem handAll_handed (es : List Instr) : (handAll es s).handed = s.handed ++ es := rfl
@[simp] theorem handAll_pending (es : List Instr) : (handAll es s).pending = s.pending := rfl

/-! ### offer -/

@[simp] theorem offer_line (k : NoticeKind) (n : Nat) (v : Int) : (offer k n v s).line = s.line := rfl
@[simp] theorem offer_points (k : NoticeKind) (n : Nat) (v : Int) : (offer k n v s).points = s.points := rfl
@[simp] theorem offer_budget (k : NoticeKind) (n : Nat) (v : Int) : (offer k n v s).budget = s.budget := rfl
@[simp] theorem offer_fog (k : NoticeKind) (n : Nat) (v : Int) : (offer k n v s).fog = s.fog := rfl
@[simp] theorem offer_zones (k : NoticeKind) (n : Nat) (v : Int) : (offer k n v s).zones = s.zones := rfl
@[simp] theorem offer_scene (k : NoticeKind) (n : Nat) (v : Int) : (offer k n v s).scene = s.scene := rfl
@[simp] theorem offer_mode (k : NoticeKind) (n : Nat) (v : Int) : (offer k n v s).mode = s.mode := rfl
@[simp] theorem offer_responder (k : NoticeKind) (n : Nat) (v : Int) : (offer k n v s).responder = s.responder := rfl
@[simp] theorem offer_notices (k : NoticeKind) (n : Nat) (v : Int) : (offer k n v s).notices = s.notices := rfl
@[simp] theorem offer_timeBase (k : NoticeKind) (n : Nat) (v : Int) : (offer k n v s).timeBase = s.timeBase := rfl
@[simp] theorem offer_handed (k : NoticeKind) (n : Nat) (v : Int) :
    (offer k n v s).handed =
      s.handed ++ [.noticeOffer k n v] := rfl
@[simp] theorem offer_pending (k : NoticeKind) (n : Nat) (v : Int) : (offer k n v s).pending = s.pending := rfl

/-! ### takeHanded -/

@[simp] theorem takeHanded_line (e : Instr) : (takeHanded e s).line = s.line := rfl
@[simp] theorem takeHanded_points (e : Instr) : (takeHanded e s).points = s.points := rfl
@[simp] theorem takeHanded_budget (e : Instr) : (takeHanded e s).budget = s.budget := rfl
@[simp] theorem takeHanded_fog (e : Instr) : (takeHanded e s).fog = s.fog := rfl
@[simp] theorem takeHanded_zones (e : Instr) : (takeHanded e s).zones = s.zones := rfl
@[simp] theorem takeHanded_scene (e : Instr) : (takeHanded e s).scene = s.scene := rfl
@[simp] theorem takeHanded_mode (e : Instr) : (takeHanded e s).mode = s.mode := rfl
@[simp] theorem takeHanded_responder (e : Instr) : (takeHanded e s).responder = s.responder := rfl
@[simp] theorem takeHanded_notices (e : Instr) : (takeHanded e s).notices = s.notices := rfl
@[simp] theorem takeHanded_timeBase (e : Instr) : (takeHanded e s).timeBase = s.timeBase := rfl
@[simp] theorem takeHanded_handed (e : Instr) : (takeHanded e s).handed = s.handed.erase e := rfl
@[simp] theorem takeHanded_pending (e : Instr) : (takeHanded e s).pending = s.pending := rfl

/-! ### queueCommand -/

@[simp] theorem queueCommand_line (a : ActAddr) (v : Nat) :
    (queueCommand a v s).line =
      { s.line with queue := enqueueCommand a v s.line.queue } := rfl
@[simp] theorem queueCommand_points (a : ActAddr) (v : Nat) : (queueCommand a v s).points = s.points := rfl
@[simp] theorem queueCommand_budget (a : ActAddr) (v : Nat) : (queueCommand a v s).budget = s.budget := rfl
@[simp] theorem queueCommand_fog (a : ActAddr) (v : Nat) : (queueCommand a v s).fog = s.fog := rfl
@[simp] theorem queueCommand_zones (a : ActAddr) (v : Nat) : (queueCommand a v s).zones = s.zones := rfl
@[simp] theorem queueCommand_scene (a : ActAddr) (v : Nat) : (queueCommand a v s).scene = s.scene := rfl
@[simp] theorem queueCommand_mode (a : ActAddr) (v : Nat) : (queueCommand a v s).mode = s.mode := rfl
@[simp] theorem queueCommand_responder (a : ActAddr) (v : Nat) : (queueCommand a v s).responder = s.responder := rfl
@[simp] theorem queueCommand_notices (a : ActAddr) (v : Nat) : (queueCommand a v s).notices = s.notices := rfl
@[simp] theorem queueCommand_timeBase (a : ActAddr) (v : Nat) : (queueCommand a v s).timeBase = s.timeBase := rfl
@[simp] theorem queueCommand_handed (a : ActAddr) (v : Nat) : (queueCommand a v s).handed = s.handed := rfl
@[simp] theorem queueCommand_pending (a : ActAddr) (v : Nat) : (queueCommand a v s).pending = s.pending := rfl

/-! ### queueEntry -/

@[simp] theorem queueEntry_line (e : QueueEntry) :
    (queueEntry e s).line =
      { s.line with queue := s.line.queue ++ [e] } := rfl
@[simp] theorem queueEntry_points (e : QueueEntry) : (queueEntry e s).points = s.points := rfl
@[simp] theorem queueEntry_budget (e : QueueEntry) : (queueEntry e s).budget = s.budget := rfl
@[simp] theorem queueEntry_fog (e : QueueEntry) : (queueEntry e s).fog = s.fog := rfl
@[simp] theorem queueEntry_zones (e : QueueEntry) : (queueEntry e s).zones = s.zones := rfl
@[simp] theorem queueEntry_scene (e : QueueEntry) : (queueEntry e s).scene = s.scene := rfl
@[simp] theorem queueEntry_mode (e : QueueEntry) : (queueEntry e s).mode = s.mode := rfl
@[simp] theorem queueEntry_responder (e : QueueEntry) : (queueEntry e s).responder = s.responder := rfl
@[simp] theorem queueEntry_notices (e : QueueEntry) : (queueEntry e s).notices = s.notices := rfl
@[simp] theorem queueEntry_timeBase (e : QueueEntry) : (queueEntry e s).timeBase = s.timeBase := rfl
@[simp] theorem queueEntry_handed (e : QueueEntry) : (queueEntry e s).handed = s.handed := rfl
@[simp] theorem queueEntry_pending (e : QueueEntry) : (queueEntry e s).pending = s.pending := rfl

/-! ### dropCommands -/

@[simp] theorem dropCommands_line (gone : List ActAddr) :
    (dropCommands gone s).line =
      { s.line with queue := s.line.queue.filter fun e => !gone.any fun a => isCommandFor a e } := rfl
@[simp] theorem dropCommands_points (gone : List ActAddr) : (dropCommands gone s).points = s.points := rfl
@[simp] theorem dropCommands_budget (gone : List ActAddr) : (dropCommands gone s).budget = s.budget := rfl
@[simp] theorem dropCommands_fog (gone : List ActAddr) : (dropCommands gone s).fog = s.fog := rfl
@[simp] theorem dropCommands_zones (gone : List ActAddr) : (dropCommands gone s).zones = s.zones := rfl
@[simp] theorem dropCommands_scene (gone : List ActAddr) : (dropCommands gone s).scene = s.scene := rfl
@[simp] theorem dropCommands_mode (gone : List ActAddr) : (dropCommands gone s).mode = s.mode := rfl
@[simp] theorem dropCommands_responder (gone : List ActAddr) : (dropCommands gone s).responder = s.responder := rfl
@[simp] theorem dropCommands_notices (gone : List ActAddr) : (dropCommands gone s).notices = s.notices := rfl
@[simp] theorem dropCommands_timeBase (gone : List ActAddr) : (dropCommands gone s).timeBase = s.timeBase := rfl
@[simp] theorem dropCommands_handed (gone : List ActAddr) : (dropCommands gone s).handed = s.handed := rfl
@[simp] theorem dropCommands_pending (gone : List ActAddr) : (dropCommands gone s).pending = s.pending := rfl

/-! ### beginOwn -/

@[simp] theorem beginOwn_line (src : SendSource) (dest kind : Nat) (payload : List Byte) :
    (beginOwn src dest kind payload s).line =
      { s.line with sending := some ⟨frameOf dest s.line.own kind s.line.originSeq payload, src⟩, originSeq := (s.line.originSeq + 1) % 16 } := rfl
@[simp] theorem beginOwn_points (src : SendSource) (dest kind : Nat) (payload : List Byte) :
    (beginOwn src dest kind payload s).points =
      s.points := rfl
@[simp] theorem beginOwn_budget (src : SendSource) (dest kind : Nat) (payload : List Byte) :
    (beginOwn src dest kind payload s).budget =
      s.budget := rfl
@[simp] theorem beginOwn_fog (src : SendSource) (dest kind : Nat) (payload : List Byte) :
    (beginOwn src dest kind payload s).fog =
      s.fog := rfl
@[simp] theorem beginOwn_zones (src : SendSource) (dest kind : Nat) (payload : List Byte) :
    (beginOwn src dest kind payload s).zones =
      s.zones := rfl
@[simp] theorem beginOwn_scene (src : SendSource) (dest kind : Nat) (payload : List Byte) :
    (beginOwn src dest kind payload s).scene =
      s.scene := rfl
@[simp] theorem beginOwn_mode (src : SendSource) (dest kind : Nat) (payload : List Byte) :
    (beginOwn src dest kind payload s).mode =
      s.mode := rfl
@[simp] theorem beginOwn_responder (src : SendSource) (dest kind : Nat) (payload : List Byte) :
    (beginOwn src dest kind payload s).responder =
      s.responder := rfl
@[simp] theorem beginOwn_notices (src : SendSource) (dest kind : Nat) (payload : List Byte) :
    (beginOwn src dest kind payload s).notices =
      s.notices := rfl
@[simp] theorem beginOwn_timeBase (src : SendSource) (dest kind : Nat) (payload : List Byte) :
    (beginOwn src dest kind payload s).timeBase =
      s.timeBase := rfl
@[simp] theorem beginOwn_handed (src : SendSource) (dest kind : Nat) (payload : List Byte) :
    (beginOwn src dest kind payload s).handed =
      s.handed := rfl
@[simp] theorem beginOwn_pending (src : SendSource) (dest kind : Nat) (payload : List Byte) :
    (beginOwn src dest kind payload s).pending =
      s.pending := rfl

/-! ### sendForwarded -/

@[simp] theorem sendForwarded_line (f : List Byte) (rest : List (List Byte)) (n : Nat) :
    (sendForwarded f rest n s).line =
      { s.line with forward := rest, sending := some ⟨f, .forwarded⟩, runCount := n } := rfl
@[simp] theorem sendForwarded_points (f : List Byte) (rest : List (List Byte)) (n : Nat) :
    (sendForwarded f rest n s).points =
      s.points := rfl
@[simp] theorem sendForwarded_budget (f : List Byte) (rest : List (List Byte)) (n : Nat) :
    (sendForwarded f rest n s).budget =
      s.budget := rfl
@[simp] theorem sendForwarded_fog (f : List Byte) (rest : List (List Byte)) (n : Nat) :
    (sendForwarded f rest n s).fog =
      s.fog := rfl
@[simp] theorem sendForwarded_zones (f : List Byte) (rest : List (List Byte)) (n : Nat) :
    (sendForwarded f rest n s).zones =
      s.zones := rfl
@[simp] theorem sendForwarded_scene (f : List Byte) (rest : List (List Byte)) (n : Nat) :
    (sendForwarded f rest n s).scene =
      s.scene := rfl
@[simp] theorem sendForwarded_mode (f : List Byte) (rest : List (List Byte)) (n : Nat) :
    (sendForwarded f rest n s).mode =
      s.mode := rfl
@[simp] theorem sendForwarded_responder (f : List Byte) (rest : List (List Byte)) (n : Nat) :
    (sendForwarded f rest n s).responder =
      s.responder := rfl
@[simp] theorem sendForwarded_notices (f : List Byte) (rest : List (List Byte)) (n : Nat) :
    (sendForwarded f rest n s).notices =
      s.notices := rfl
@[simp] theorem sendForwarded_timeBase (f : List Byte) (rest : List (List Byte)) (n : Nat) :
    (sendForwarded f rest n s).timeBase =
      s.timeBase := rfl
@[simp] theorem sendForwarded_handed (f : List Byte) (rest : List (List Byte)) (n : Nat) :
    (sendForwarded f rest n s).handed =
      s.handed := rfl
@[simp] theorem sendForwarded_pending (f : List Byte) (rest : List (List Byte)) (n : Nat) :
    (sendForwarded f rest n s).pending =
      s.pending := rfl

/-! ### setPoint -/

@[simp] theorem setPoint_line (i : PointIx) (p : Point) : (setPoint i p s).line = s.line := rfl
@[simp] theorem setPoint_points (i : PointIx) (p : Point) : (setPoint i p s).points = s.points.set i p := rfl
@[simp] theorem setPoint_budget (i : PointIx) (p : Point) : (setPoint i p s).budget = s.budget := rfl
@[simp] theorem setPoint_fog (i : PointIx) (p : Point) : (setPoint i p s).fog = s.fog := rfl
@[simp] theorem setPoint_zones (i : PointIx) (p : Point) : (setPoint i p s).zones = s.zones := rfl
@[simp] theorem setPoint_scene (i : PointIx) (p : Point) : (setPoint i p s).scene = s.scene := rfl
@[simp] theorem setPoint_mode (i : PointIx) (p : Point) : (setPoint i p s).mode = s.mode := rfl
@[simp] theorem setPoint_responder (i : PointIx) (p : Point) : (setPoint i p s).responder = s.responder := rfl
@[simp] theorem setPoint_notices (i : PointIx) (p : Point) : (setPoint i p s).notices = s.notices := rfl
@[simp] theorem setPoint_timeBase (i : PointIx) (p : Point) : (setPoint i p s).timeBase = s.timeBase := rfl
@[simp] theorem setPoint_handed (i : PointIx) (p : Point) : (setPoint i p s).handed = s.handed := rfl
@[simp] theorem setPoint_pending (i : PointIx) (p : Point) : (setPoint i p s).pending = s.pending := rfl

/-! ### setConsumer -/

@[simp] theorem setConsumer_line (i : ConsumerIx) (c : Consumer) : (setConsumer i c s).line = s.line := rfl
@[simp] theorem setConsumer_points (i : ConsumerIx) (c : Consumer) : (setConsumer i c s).points = s.points := rfl
@[simp] theorem setConsumer_budget (i : ConsumerIx) (c : Consumer) :
    (setConsumer i c s).budget =
      { s.budget with consumers := s.budget.consumers.set i c } := rfl
@[simp] theorem setConsumer_fog (i : ConsumerIx) (c : Consumer) : (setConsumer i c s).fog = s.fog := rfl
@[simp] theorem setConsumer_zones (i : ConsumerIx) (c : Consumer) : (setConsumer i c s).zones = s.zones := rfl
@[simp] theorem setConsumer_scene (i : ConsumerIx) (c : Consumer) : (setConsumer i c s).scene = s.scene := rfl
@[simp] theorem setConsumer_mode (i : ConsumerIx) (c : Consumer) : (setConsumer i c s).mode = s.mode := rfl
@[simp] theorem setConsumer_responder (i : ConsumerIx) (c : Consumer) :
    (setConsumer i c s).responder =
      s.responder := rfl
@[simp] theorem setConsumer_notices (i : ConsumerIx) (c : Consumer) : (setConsumer i c s).notices = s.notices := rfl
@[simp] theorem setConsumer_timeBase (i : ConsumerIx) (c : Consumer) :
    (setConsumer i c s).timeBase =
      s.timeBase := rfl
@[simp] theorem setConsumer_handed (i : ConsumerIx) (c : Consumer) : (setConsumer i c s).handed = s.handed := rfl
@[simp] theorem setConsumer_pending (i : ConsumerIx) (c : Consumer) : (setConsumer i c s).pending = s.pending := rfl

/-! ### setZone -/

@[simp] theorem setZone_line (i : ZoneIx) (z : Zone) : (setZone i z s).line = s.line := rfl
@[simp] theorem setZone_points (i : ZoneIx) (z : Zone) : (setZone i z s).points = s.points := rfl
@[simp] theorem setZone_budget (i : ZoneIx) (z : Zone) : (setZone i z s).budget = s.budget := rfl
@[simp] theorem setZone_fog (i : ZoneIx) (z : Zone) : (setZone i z s).fog = s.fog := rfl
@[simp] theorem setZone_zones (i : ZoneIx) (z : Zone) :
    (setZone i z s).zones =
      { s.zones with zones := s.zones.zones.set i z } := rfl
@[simp] theorem setZone_scene (i : ZoneIx) (z : Zone) : (setZone i z s).scene = s.scene := rfl
@[simp] theorem setZone_mode (i : ZoneIx) (z : Zone) : (setZone i z s).mode = s.mode := rfl
@[simp] theorem setZone_responder (i : ZoneIx) (z : Zone) : (setZone i z s).responder = s.responder := rfl
@[simp] theorem setZone_notices (i : ZoneIx) (z : Zone) : (setZone i z s).notices = s.notices := rfl
@[simp] theorem setZone_timeBase (i : ZoneIx) (z : Zone) : (setZone i z s).timeBase = s.timeBase := rfl
@[simp] theorem setZone_handed (i : ZoneIx) (z : Zone) : (setZone i z s).handed = s.handed := rfl
@[simp] theorem setZone_pending (i : ZoneIx) (z : Zone) : (setZone i z s).pending = s.pending := rfl

/-! ### setBuffer -/

@[simp] theorem setBuffer_line (i : BufferIx) (b : Buffer) : (setBuffer i b s).line = s.line := rfl
@[simp] theorem setBuffer_points (i : BufferIx) (b : Buffer) : (setBuffer i b s).points = s.points := rfl
@[simp] theorem setBuffer_budget (i : BufferIx) (b : Buffer) : (setBuffer i b s).budget = s.budget := rfl
@[simp] theorem setBuffer_fog (i : BufferIx) (b : Buffer) : (setBuffer i b s).fog = s.fog := rfl
@[simp] theorem setBuffer_zones (i : BufferIx) (b : Buffer) : (setBuffer i b s).zones = s.zones := rfl
@[simp] theorem setBuffer_scene (i : BufferIx) (b : Buffer) :
    (setBuffer i b s).scene =
      { s.scene with buffers := s.scene.buffers.set i b } := rfl
@[simp] theorem setBuffer_mode (i : BufferIx) (b : Buffer) : (setBuffer i b s).mode = s.mode := rfl
@[simp] theorem setBuffer_responder (i : BufferIx) (b : Buffer) : (setBuffer i b s).responder = s.responder := rfl
@[simp] theorem setBuffer_notices (i : BufferIx) (b : Buffer) : (setBuffer i b s).notices = s.notices := rfl
@[simp] theorem setBuffer_timeBase (i : BufferIx) (b : Buffer) : (setBuffer i b s).timeBase = s.timeBase := rfl
@[simp] theorem setBuffer_handed (i : BufferIx) (b : Buffer) : (setBuffer i b s).handed = s.handed := rfl
@[simp] theorem setBuffer_pending (i : BufferIx) (b : Buffer) : (setBuffer i b s).pending = s.pending := rfl

/-! ### setGroup -/

@[simp] theorem setGroup_line (i : GroupIx) (g : Group) : (setGroup i g s).line = s.line := rfl
@[simp] theorem setGroup_points (i : GroupIx) (g : Group) : (setGroup i g s).points = s.points := rfl
@[simp] theorem setGroup_budget (i : GroupIx) (g : Group) : (setGroup i g s).budget = s.budget := rfl
@[simp] theorem setGroup_fog (i : GroupIx) (g : Group) : (setGroup i g s).fog = s.fog := rfl
@[simp] theorem setGroup_zones (i : GroupIx) (g : Group) : (setGroup i g s).zones = s.zones := rfl
@[simp] theorem setGroup_scene (i : GroupIx) (g : Group) :
    (setGroup i g s).scene =
      { s.scene with groups := s.scene.groups.set i g } := rfl
@[simp] theorem setGroup_mode (i : GroupIx) (g : Group) : (setGroup i g s).mode = s.mode := rfl
@[simp] theorem setGroup_responder (i : GroupIx) (g : Group) : (setGroup i g s).responder = s.responder := rfl
@[simp] theorem setGroup_notices (i : GroupIx) (g : Group) : (setGroup i g s).notices = s.notices := rfl
@[simp] theorem setGroup_timeBase (i : GroupIx) (g : Group) : (setGroup i g s).timeBase = s.timeBase := rfl
@[simp] theorem setGroup_handed (i : GroupIx) (g : Group) : (setGroup i g s).handed = s.handed := rfl
@[simp] theorem setGroup_pending (i : GroupIx) (g : Group) : (setGroup i g s).pending = s.pending := rfl

/-! ### setNode -/

@[simp] theorem setNode_line (n : Nat) (r : NodeRec) :
    (setNode n r s).line =
      { s.line with nodes := s.line.nodes.set (Fin.ofNat 64 n : Fin 64) r } := rfl
@[simp] theorem setNode_points (n : Nat) (r : NodeRec) : (setNode n r s).points = s.points := rfl
@[simp] theorem setNode_budget (n : Nat) (r : NodeRec) : (setNode n r s).budget = s.budget := rfl
@[simp] theorem setNode_fog (n : Nat) (r : NodeRec) : (setNode n r s).fog = s.fog := rfl
@[simp] theorem setNode_zones (n : Nat) (r : NodeRec) : (setNode n r s).zones = s.zones := rfl
@[simp] theorem setNode_scene (n : Nat) (r : NodeRec) : (setNode n r s).scene = s.scene := rfl
@[simp] theorem setNode_mode (n : Nat) (r : NodeRec) : (setNode n r s).mode = s.mode := rfl
@[simp] theorem setNode_responder (n : Nat) (r : NodeRec) : (setNode n r s).responder = s.responder := rfl
@[simp] theorem setNode_notices (n : Nat) (r : NodeRec) : (setNode n r s).notices = s.notices := rfl
@[simp] theorem setNode_timeBase (n : Nat) (r : NodeRec) : (setNode n r s).timeBase = s.timeBase := rfl
@[simp] theorem setNode_handed (n : Nat) (r : NodeRec) : (setNode n r s).handed = s.handed := rfl
@[simp] theorem setNode_pending (n : Nat) (r : NodeRec) : (setNode n r s).pending = s.pending := rfl

/-! ### forwardFrame -/

@[simp] theorem forwardFrame_line (f : List Byte) :
    (forwardFrame f s).line =
      { s.line with forward := s.line.forward ++ [f] } := rfl
@[simp] theorem forwardFrame_points (f : List Byte) : (forwardFrame f s).points = s.points := rfl
@[simp] theorem forwardFrame_budget (f : List Byte) : (forwardFrame f s).budget = s.budget := rfl
@[simp] theorem forwardFrame_fog (f : List Byte) : (forwardFrame f s).fog = s.fog := rfl
@[simp] theorem forwardFrame_zones (f : List Byte) : (forwardFrame f s).zones = s.zones := rfl
@[simp] theorem forwardFrame_scene (f : List Byte) : (forwardFrame f s).scene = s.scene := rfl
@[simp] theorem forwardFrame_mode (f : List Byte) : (forwardFrame f s).mode = s.mode := rfl
@[simp] theorem forwardFrame_responder (f : List Byte) : (forwardFrame f s).responder = s.responder := rfl
@[simp] theorem forwardFrame_notices (f : List Byte) : (forwardFrame f s).notices = s.notices := rfl
@[simp] theorem forwardFrame_timeBase (f : List Byte) : (forwardFrame f s).timeBase = s.timeBase := rfl
@[simp] theorem forwardFrame_handed (f : List Byte) : (forwardFrame f s).handed = s.handed := rfl
@[simp] theorem forwardFrame_pending (f : List Byte) : (forwardFrame f s).pending = s.pending := rfl

/-! ### reportValue -/

@[simp] theorem reportValue_line (i : PointIx) (v : Int) : (reportValue i v s).line = s.line := rfl
@[simp] theorem reportValue_points (i : PointIx) (v : Int) : (reportValue i v s).points = s.points := rfl
@[simp] theorem reportValue_budget (i : PointIx) (v : Int) : (reportValue i v s).budget = s.budget := rfl
@[simp] theorem reportValue_fog (i : PointIx) (v : Int) : (reportValue i v s).fog = s.fog := rfl
@[simp] theorem reportValue_zones (i : PointIx) (v : Int) : (reportValue i v s).zones = s.zones := rfl
@[simp] theorem reportValue_scene (i : PointIx) (v : Int) : (reportValue i v s).scene = s.scene := rfl
@[simp] theorem reportValue_mode (i : PointIx) (v : Int) : (reportValue i v s).mode = s.mode := rfl
@[simp] theorem reportValue_responder (i : PointIx) (v : Int) : (reportValue i v s).responder = s.responder := rfl
@[simp] theorem reportValue_notices (i : PointIx) (v : Int) : (reportValue i v s).notices = s.notices := rfl
@[simp] theorem reportValue_timeBase (i : PointIx) (v : Int) : (reportValue i v s).timeBase = s.timeBase := rfl
@[simp] theorem reportValue_handed (i : PointIx) (v : Int) :
    (reportValue i v s).handed =
      s.handed ++ [.valueReport i v] := rfl
@[simp] theorem reportValue_pending (i : PointIx) (v : Int) : (reportValue i v s).pending = s.pending := rfl

/-! ### reportLoad -/

@[simp] theorem reportLoad_line : (reportLoad s).line = s.line := rfl
@[simp] theorem reportLoad_points : (reportLoad s).points = s.points := rfl
@[simp] theorem reportLoad_budget : (reportLoad s).budget = s.budget := rfl
@[simp] theorem reportLoad_fog : (reportLoad s).fog = s.fog := rfl
@[simp] theorem reportLoad_zones : (reportLoad s).zones = s.zones := rfl
@[simp] theorem reportLoad_scene : (reportLoad s).scene = { s.scene with loadReported := lightingLoad s } := rfl
@[simp] theorem reportLoad_mode : (reportLoad s).mode = s.mode := rfl
@[simp] theorem reportLoad_responder : (reportLoad s).responder = s.responder := rfl
@[simp] theorem reportLoad_notices : (reportLoad s).notices = s.notices := rfl
@[simp] theorem reportLoad_timeBase : (reportLoad s).timeBase = s.timeBase := rfl
@[simp] theorem reportLoad_handed : (reportLoad s).handed = s.handed ++ [.lightingLoadUpdate (lightingLoad s)] := rfl
@[simp] theorem reportLoad_pending : (reportLoad s).pending = s.pending := rfl

/-! ### handCaps -/

@[simp] theorem handCaps_line (sh : Sheet) : (handCaps sh s).line = s.line := rfl
@[simp] theorem handCaps_points (sh : Sheet) : (handCaps sh s).points = s.points := rfl
@[simp] theorem handCaps_budget (sh : Sheet) : (handCaps sh s).budget = s.budget := rfl
@[simp] theorem handCaps_fog (sh : Sheet) : (handCaps sh s).fog = s.fog := rfl
@[simp] theorem handCaps_zones (sh : Sheet) : (handCaps sh s).zones = s.zones := rfl
@[simp] theorem handCaps_scene (sh : Sheet) : (handCaps sh s).scene = s.scene := rfl
@[simp] theorem handCaps_mode (sh : Sheet) : (handCaps sh s).mode = s.mode := rfl
@[simp] theorem handCaps_responder (sh : Sheet) : (handCaps sh s).responder = s.responder := rfl
@[simp] theorem handCaps_notices (sh : Sheet) : (handCaps sh s).notices = s.notices := rfl
@[simp] theorem handCaps_timeBase (sh : Sheet) : (handCaps sh s).timeBase = s.timeBase := rfl
@[simp] theorem handCaps_handed (sh : Sheet) :
    (handCaps sh s).handed =
      s.handed ++ [.capHanding sh (capsInForce s sh)] := rfl
@[simp] theorem handCaps_pending (sh : Sheet) : (handCaps sh s).pending = s.pending := rfl

/-! ### tickMs -/

@[simp] theorem tickMs_line :
    (tickMs s).line =
      { s.line with silenceTimer := countDown s.line.silenceTimer, wakeTimer := countDown s.line.wakeTimer, statusTimer := countDown s.line.statusTimer } := rfl
@[simp] theorem tickMs_points : (tickMs s).points = s.points.map tickPoint := rfl
@[simp] theorem tickMs_budget :
    (tickMs s).budget =
      { s.budget with periodTimer := countDown s.budget.periodTimer } := rfl
@[simp] theorem tickMs_fog :
    (tickMs s).fog =
      { s.fog with sheet1 := tickSheet s.fog.sheet1, sheet2 := tickSheet s.fog.sheet2 } := rfl
@[simp] theorem tickMs_zones : (tickMs s).zones = s.zones := rfl
@[simp] theorem tickMs_scene : (tickMs s).scene = { s.scene with stepTimer := countDown s.scene.stepTimer } := rfl
@[simp] theorem tickMs_mode : (tickMs s).mode = s.mode := rfl
@[simp] theorem tickMs_responder : (tickMs s).responder = s.responder := rfl
@[simp] theorem tickMs_notices : (tickMs s).notices = s.notices := rfl
@[simp] theorem tickMs_timeBase : (tickMs s).timeBase = s.timeBase + 1 := rfl
@[simp] theorem tickMs_handed : (tickMs s).handed = s.handed := rfl
@[simp] theorem tickMs_pending : (tickMs s).pending = s.pending := rfl

/-! ### tickSeconds -/

@[simp] theorem tickSeconds_line : (tickSeconds s).line = s.line := rfl
@[simp] theorem tickSeconds_points : (tickSeconds s).points = s.points := rfl
@[simp] theorem tickSeconds_budget : (tickSeconds s).budget = s.budget := rfl
@[simp] theorem tickSeconds_fog : (tickSeconds s).fog = s.fog := rfl
@[simp] theorem tickSeconds_zones : (tickSeconds s).zones = s.zones := rfl
@[simp] theorem tickSeconds_scene : (tickSeconds s).scene = s.scene := rfl
@[simp] theorem tickSeconds_mode : (tickSeconds s).mode = s.mode := rfl
@[simp] theorem tickSeconds_responder : (tickSeconds s).responder = s.responder := rfl
@[simp] theorem tickSeconds_notices :
    (tickSeconds s).notices =
      { s.notices with seconds := min (s.notices.seconds + 1) 4294967295 } := rfl
@[simp] theorem tickSeconds_timeBase : (tickSeconds s).timeBase = s.timeBase := rfl
@[simp] theorem tickSeconds_handed : (tickSeconds s).handed = s.handed := rfl
@[simp] theorem tickSeconds_pending : (tickSeconds s).pending = s.pending := rfl

/-! ### assertReset -/

@[simp] theorem assertReset_line :
    (assertReset s).line =
      { s.line with held := true, relay := false, sending := none } := rfl
@[simp] theorem assertReset_points : (assertReset s).points = s.points := rfl
@[simp] theorem assertReset_budget : (assertReset s).budget = s.budget := rfl
@[simp] theorem assertReset_fog : (assertReset s).fog = s.fog := rfl
@[simp] theorem assertReset_zones : (assertReset s).zones = s.zones := rfl
@[simp] theorem assertReset_scene : (assertReset s).scene = s.scene := rfl
@[simp] theorem assertReset_mode : (assertReset s).mode = s.mode := rfl
@[simp] theorem assertReset_responder : (assertReset s).responder = s.responder := rfl
@[simp] theorem assertReset_notices : (assertReset s).notices = s.notices := rfl
@[simp] theorem assertReset_timeBase : (assertReset s).timeBase = s.timeBase := rfl
@[simp] theorem assertReset_handed : (assertReset s).handed = [] := rfl
@[simp] theorem assertReset_pending : (assertReset s).pending = s.pending := rfl

/-! ### setSlot -/

@[simp] theorem setSlot_line (i : SlotIx) (v : SlotState) :
    (setSlot i v s).line = s.line := by unfold setSlot; split <;> rfl
@[simp] theorem setSlot_points (i : SlotIx) (v : SlotState) :
    (setSlot i v s).points = s.points := by unfold setSlot; split <;> rfl
@[simp] theorem setSlot_budget (i : SlotIx) (v : SlotState) :
    (setSlot i v s).budget = s.budget := by unfold setSlot; split <;> rfl
@[simp] theorem setSlot_fog (i : SlotIx) (v : SlotState) :
    (setSlot i v s).fog = s.fog := by unfold setSlot; split <;> rfl
@[simp] theorem setSlot_zones (i : SlotIx) (v : SlotState) :
    (setSlot i v s).zones = s.zones := by unfold setSlot; split <;> rfl
@[simp] theorem setSlot_scene (i : SlotIx) (v : SlotState) :
    (setSlot i v s).scene = s.scene := by unfold setSlot; split <;> rfl
@[simp] theorem setSlot_mode (i : SlotIx) (v : SlotState) :
    (setSlot i v s).mode = s.mode := by unfold setSlot; split <;> rfl
@[simp] theorem setSlot_notices (i : SlotIx) (v : SlotState) :
    (setSlot i v s).notices = s.notices := by unfold setSlot; split <;> rfl
@[simp] theorem setSlot_timeBase (i : SlotIx) (v : SlotState) :
    (setSlot i v s).timeBase = s.timeBase := by unfold setSlot; split <;> rfl
@[simp] theorem setSlot_handed (i : SlotIx) (v : SlotState) :
    (setSlot i v s).handed = s.handed := by unfold setSlot; split <;> rfl
@[simp] theorem setSlot_pending (i : SlotIx) (v : SlotState) :
    (setSlot i v s).pending = s.pending := by unfold setSlot; split <;> rfl

/-! ### setSheet -/

@[simp] theorem setSheet_line (sh : Sheet) (r : SheetRec) : (setSheet sh r s).line = s.line := by cases sh <;> rfl
@[simp] theorem setSheet_points (sh : Sheet) (r : SheetRec) :
    (setSheet sh r s).points = s.points := by cases sh <;> rfl
@[simp] theorem setSheet_budget (sh : Sheet) (r : SheetRec) :
    (setSheet sh r s).budget = s.budget := by cases sh <;> rfl
@[simp] theorem setSheet_zones (sh : Sheet) (r : SheetRec) : (setSheet sh r s).zones = s.zones := by cases sh <;> rfl
@[simp] theorem setSheet_scene (sh : Sheet) (r : SheetRec) : (setSheet sh r s).scene = s.scene := by cases sh <;> rfl
@[simp] theorem setSheet_mode (sh : Sheet) (r : SheetRec) : (setSheet sh r s).mode = s.mode := by cases sh <;> rfl
@[simp] theorem setSheet_responder (sh : Sheet) (r : SheetRec) :
    (setSheet sh r s).responder = s.responder := by cases sh <;> rfl
@[simp] theorem setSheet_notices (sh : Sheet) (r : SheetRec) :
    (setSheet sh r s).notices = s.notices := by cases sh <;> rfl
@[simp] theorem setSheet_timeBase (sh : Sheet) (r : SheetRec) :
    (setSheet sh r s).timeBase = s.timeBase := by cases sh <;> rfl
@[simp] theorem setSheet_handed (sh : Sheet) (r : SheetRec) :
    (setSheet sh r s).handed = s.handed := by cases sh <;> rfl
@[simp] theorem setSheet_pending (sh : Sheet) (r : SheetRec) :
    (setSheet sh r s).pending = s.pending := by cases sh <;> rfl

/-! ### setCover -/

@[simp] theorem setCover_line (sh : Sheet) (b : Bool) : (setCover sh b s).line = s.line := by cases sh <;> rfl
@[simp] theorem setCover_points (sh : Sheet) (b : Bool) : (setCover sh b s).points = s.points := by cases sh <;> rfl
@[simp] theorem setCover_budget (sh : Sheet) (b : Bool) : (setCover sh b s).budget = s.budget := by cases sh <;> rfl
@[simp] theorem setCover_fog (sh : Sheet) (b : Bool) : (setCover sh b s).fog = s.fog := by cases sh <;> rfl
@[simp] theorem setCover_zones (sh : Sheet) (b : Bool) : (setCover sh b s).zones = s.zones := by cases sh <;> rfl
@[simp] theorem setCover_scene (sh : Sheet) (b : Bool) : (setCover sh b s).scene = s.scene := by cases sh <;> rfl
@[simp] theorem setCover_responder (sh : Sheet) (b : Bool) :
    (setCover sh b s).responder = s.responder := by cases sh <;> rfl
@[simp] theorem setCover_notices (sh : Sheet) (b : Bool) :
    (setCover sh b s).notices = s.notices := by cases sh <;> rfl
@[simp] theorem setCover_timeBase (sh : Sheet) (b : Bool) :
    (setCover sh b s).timeBase = s.timeBase := by cases sh <;> rfl
@[simp] theorem setCover_handed (sh : Sheet) (b : Bool) : (setCover sh b s).handed = s.handed := by cases sh <;> rfl
@[simp] theorem setCover_pending (sh : Sheet) (b : Bool) :
    (setCover sh b s).pending = s.pending := by cases sh <;> rfl

end Sys2Proof.Machine
end

