-- ==== Sys2Proof/Laws/Ops.lean ====
section
/-! SUPPORT. What each shared operation can do, said once: tables, the arbiter, the shape of every command, and the
taking of a request. -/

namespace Sys2Proof.Machine

/-! ### Folds over a table's indices -/

theorem foldl_keeps {α β : Type} (g : State → α) (f : State → β → State) (h : ∀ s b, g (f s b) = g s)
    (l : List β) (s : State) : g (l.foldl f s) = g s := by
  induction l generalizing s with
  | nil => rfl
  | cons b l ih => rw [List.foldl_cons, ih, h]

theorem foldl_invariant {β : Type} (P : State → Prop) (f : State → β → State) (h : ∀ s b, P s → P (f s b))
    (l : List β) (s : State) (hs : P s) : P (l.foldl f s) := by
  induction l generalizing s with
  | nil => exact hs
  | cons b l ih => exact ih _ (h s b hs)

/-! ### Tables -/

theorem getElem_mapFrom {α : Type} (f : Nat → α → α) (as : List α) (k i : Nat) (h : i < as.length) :
    (mapFrom f k as)[i]'(by rw [length_mapFrom]; exact h) = f (k + i) as[i] := by
  induction as generalizing k i with
  | nil => exact absurd h (by simp)
  | cons a as ih =>
    cases i with
    | zero => simp [mapFrom]
    | succ i =>
      simp only [mapFrom, List.getElem_cons_succ]
      rw [ih (k + 1) i (by simpa using h), Nat.add_assoc, Nat.add_comm 1 i]

/-- A whole-table update gives each record the function of its index and itself. -/
theorem getElem_mapTable {α : Type} {n : Nat} (f : Nat → α → α) (v : Vector α n) (i : Nat) (h : i < n) :
    (mapTable f v)[i] = f i v[i] := by
  have := getElem_mapFrom f v.toList 0 i (by simpa using h)
  simp only [Nat.zero_add] at this
  simpa [mapTable] using this

theorem mem_indicesFrom {α : Type} (p : α → Bool) (as : List α) (k j : Nat) :
    j ∈ indicesFrom p k as ↔ ∃ h : j - k < as.length, k ≤ j ∧ p as[j - k] = true := by
  induction as generalizing k with
  | nil => simp [indicesFrom]
  | cons a as ih =>
    have key : j ∈ indicesFrom p (k + 1) as ↔ k < j ∧ ∃ h : j - k < (a :: as).length, p (a :: as)[j - k] = true := by
      rw [ih (k + 1)]
      constructor
      · rintro ⟨h, hk, hp⟩
        refine ⟨hk, by simp only [List.length_cons]; omega, ?_⟩
        have e : j - k = (j - (k + 1)) + 1 := by omega
        simp only [e, List.getElem_cons_succ]
        exact hp
      · rintro ⟨hk, h, hp⟩
        have e : j - k = (j - (k + 1)) + 1 := by omega
        simp only [e, List.getElem_cons_succ] at hp
        exact ⟨by simp only [List.length_cons] at h; omega, hk, hp⟩
    unfold indicesFrom
    split
    · next hp =>
      rw [List.mem_cons, key]
      constructor
      · rintro (rfl | ⟨hk, h, hp'⟩)
        · exact ⟨by simp, Nat.le_refl _, by simpa using hp⟩
        · exact ⟨h, Nat.le_of_lt hk, hp'⟩
      · rintro ⟨h, hk, hp'⟩
        rcases Nat.lt_or_eq_of_le hk with hlt | rfl
        · exact Or.inr ⟨hlt, h, hp'⟩
        · exact Or.inl rfl
    · next hp =>
      rw [key]
      constructor
      · rintro ⟨hk, h, hp'⟩
        exact ⟨h, Nat.le_of_lt hk, hp'⟩
      · rintro ⟨h, hk, hp'⟩
        rcases Nat.lt_or_eq_of_le hk with hlt | rfl
        · exact ⟨hlt, h, hp'⟩
        · exact absurd (by simpa using hp') hp

/-- The indices found are those of the records that satisfy the test. -/
theorem mem_indicesWhere {α : Type} {n : Nat} (p : α → Bool) (v : Vector α n) (j : Nat) :
    j ∈ indicesWhere p v ↔ ∃ h : j < n, p v[j] = true := by
  rw [indicesWhere, mem_indicesFrom]
  simp

/-- A record found satisfies the test. -/
theorem findIx_some {α : Type} {n : Nat} {p : α → Bool} {v : Vector α n} {i : Fin n} (h : findIx p v = some i) :
    p v[i] = true := by
  unfold findIx at h
  split at h
  · next k rest hk =>
    have hm : k ∈ indicesWhere p v := by rw [hk]; exact List.mem_cons_self
    obtain ⟨hlt, hp⟩ := (mem_indicesWhere p v k).1 hm
    rw [dif_pos hlt] at h
    cases h
    exact hp
  · cases h

/-- None is found exactly when no record satisfies the test. -/
theorem findIx_eq_none {α : Type} {n : Nat} {p : α → Bool} {v : Vector α n} :
    findIx p v = none ↔ ∀ i : Fin n, p v[i] = false := by
  unfold findIx
  split
  · next k rest hk =>
    have hm : k ∈ indicesWhere p v := by rw [hk]; exact List.mem_cons_self
    obtain ⟨hlt, hp⟩ := (mem_indicesWhere p v k).1 hm
    rw [dif_pos hlt]
    constructor
    · intro h; cases h
    · intro h
      have := h ⟨k, hlt⟩
      simp [hp] at this
  · next hk =>
    constructor
    · intro _ i
      cases hpi : p v[i] with
      | false => rfl
      | true =>
        have : (i : Nat) ∈ indicesWhere p v := (mem_indicesWhere p v i).2 ⟨i.isLt, hpi⟩
        rw [hk] at this
        cases this
    · intro _; rfl

/-! ### The Line Out arbiter -/

section
variable (s : State)

/-- What the arbiter leaves alone whichever frame it takes. -/
theorem sendOther_frame :
    (sendOther s).points = s.points ∧ (sendOther s).budget = s.budget ∧ (sendOther s).fog = s.fog ∧
    (sendOther s).zones = s.zones ∧ (sendOther s).scene = s.scene ∧ (sendOther s).mode = s.mode ∧
    (sendOther s).responder = s.responder ∧ (sendOther s).timeBase = s.timeBase ∧
    (sendOther s).handed = s.handed ∧ (sendOther s).pending = s.pending := by
  unfold sendOther sendEntry
  split
  · split <;> simp
  · split
    · simp
    · split <;> simp

theorem chooseFrame_frame :
    (chooseFrame s).points = s.points ∧ (chooseFrame s).budget = s.budget ∧ (chooseFrame s).fog = s.fog ∧
    (chooseFrame s).zones = s.zones ∧ (chooseFrame s).scene = s.scene ∧ (chooseFrame s).mode = s.mode ∧
    (chooseFrame s).responder = s.responder ∧ (chooseFrame s).timeBase = s.timeBase ∧
    (chooseFrame s).handed = s.handed ∧ (chooseFrame s).pending = s.pending := by
  unfold chooseFrame sendWake
  have h := sendOther_frame { s with line.runCount := 0 }
  split
  · split
    · simp
    · split
      · simp
      · simpa using h
  · split
    · simpa using h
    · split <;> simp

theorem arbitrate_frame :
    (arbitrate s).points = s.points ∧ (arbitrate s).budget = s.budget ∧ (arbitrate s).fog = s.fog ∧
    (arbitrate s).zones = s.zones ∧ (arbitrate s).scene = s.scene ∧ (arbitrate s).mode = s.mode ∧
    (arbitrate s).responder = s.responder ∧ (arbitrate s).timeBase = s.timeBase ∧
    (arbitrate s).handed = s.handed ∧ (arbitrate s).pending = s.pending := by
  unfold arbitrate
  split
  · simp
  · exact chooseFrame_frame s

@[simp] theorem arbitrate_points : (arbitrate s).points = s.points := (arbitrate_frame s).1
@[simp] theorem arbitrate_budget : (arbitrate s).budget = s.budget := (arbitrate_frame s).2.1
@[simp] theorem arbitrate_fog : (arbitrate s).fog = s.fog := (arbitrate_frame s).2.2.1
@[simp] theorem arbitrate_zones : (arbitrate s).zones = s.zones := (arbitrate_frame s).2.2.2.1
@[simp] theorem arbitrate_scene : (arbitrate s).scene = s.scene := (arbitrate_frame s).2.2.2.2.1
@[simp] theorem arbitrate_mode : (arbitrate s).mode = s.mode := (arbitrate_frame s).2.2.2.2.2.1
@[simp] theorem arbitrate_responder : (arbitrate s).responder = s.responder := (arbitrate_frame s).2.2.2.2.2.2.1
@[simp] theorem arbitrate_timeBase : (arbitrate s).timeBase = s.timeBase := (arbitrate_frame s).2.2.2.2.2.2.2.1
@[simp] theorem arbitrate_handed : (arbitrate s).handed = s.handed := (arbitrate_frame s).2.2.2.2.2.2.2.2.1
@[simp] theorem arbitrate_pending : (arbitrate s).pending = s.pending := (arbitrate_frame s).2.2.2.2.2.2.2.2.2

/-- What the arbiter leaves alone in the Line Interface. -/
theorem sendOther_line :
    (sendOther s).line.held = s.line.held ∧ (sendOther s).line.relay = s.line.relay ∧
    (sendOther s).line.own = s.line.own ∧ (sendOther s).line.controller = s.line.controller ∧
    (sendOther s).line.up = s.line.up ∧ (sendOther s).line.nodes = s.line.nodes ∧
    (sendOther s).line.silenceTimer = s.line.silenceTimer ∧ (sendOther s).line.wakeTimer = s.line.wakeTimer ∧
    (sendOther s).line.statusTimer = s.line.statusTimer ∧ (sendOther s).line.downSince = s.line.downSince ∧
    (sendOther s).line.forward = s.line.forward ∧ (sendOther s).line.runCount = s.line.runCount ∧
    (sendOther s).line.wakePending = s.line.wakePending ∧
    (sendOther s).line.lineErrors = s.line.lineErrors ∧ (sendOther s).line.overruns = s.line.overruns ∧
    (sendOther s).line.drops = s.line.drops ∧ (sendOther s).line.overrunArmed = s.line.overrunArmed := by
  unfold sendOther sendEntry
  split
  · split <;> simp
  · split
    · simp
    · split <;> simp

theorem arbitrate_line :
    (arbitrate s).line.held = s.line.held ∧ (arbitrate s).line.relay = s.line.relay ∧
    (arbitrate s).line.own = s.line.own ∧ (arbitrate s).line.controller = s.line.controller ∧
    (arbitrate s).line.up = s.line.up ∧ (arbitrate s).line.nodes = s.line.nodes ∧
    (arbitrate s).line.silenceTimer = s.line.silenceTimer ∧ (arbitrate s).line.wakeTimer = s.line.wakeTimer ∧
    (arbitrate s).line.statusTimer = s.line.statusTimer ∧ (arbitrate s).line.downSince = s.line.downSince ∧
    (arbitrate s).line.lineErrors = s.line.lineErrors ∧ (arbitrate s).line.overruns = s.line.overruns ∧
    (arbitrate s).line.drops = s.line.drops ∧ (arbitrate s).line.overrunArmed = s.line.overrunArmed := by
  unfold arbitrate
  split
  · simp
  · have h := sendOther_line { s with line.runCount := 0 }
    unfold chooseFrame sendWake
    split
    · split
      · simp
      · split
        · simp
        · simp_all
    · split
      · simp_all
      · split <;> simp

/-- What the arbiter leaves alone in the Notice Unit. -/
theorem arbitrate_notices :
    (arbitrate s).notices.mask = s.notices.mask ∧ (arbitrate s).notices.overflow = s.notices.overflow ∧
    (arbitrate s).notices.seconds = s.notices.seconds ∧ (arbitrate s).notices.causePower = s.notices.causePower ∧
    (arbitrate s).notices.causeRestart = s.notices.causeRestart := by
  unfold arbitrate chooseFrame sendWake sendOther sendEntry
  repeat' split
  all_goals simp_all

/-- A busy Line Out: the arbiter makes no choice. -/
theorem arbitrate_busy (h : s.line.sending ≠ none) : arbitrate s = s := by
  unfold arbitrate
  split
  · rfl
  · next h' => exact absurd h' h

/-- An idle Line Out: the arbiter makes its choice. -/
theorem arbitrate_idle (h : s.line.sending = none) : arbitrate s = chooseFrame s := by
  unfold arbitrate
  split
  · next h' => rw [h] at h'; cases h'
  · rfl

/-! ### The shape of every command, and the taking of a request -/

theorem perform_awake (f : State → State) (h : s.line.held = false) : perform f s = .next (arbitrate (f s)) := by
  simp [perform, h]

theorem perform_held (f : State → State) (h : s.line.held = true) : perform f s = .next s := by
  simp [perform, h]

/-- A request that stands first for its owner is answered from the state it finds. -/
theorem takeRequest_staged (r : Req) (slot : SlotIx) (restart : Bool) (answer : List Byte → State → Answer)
    (q : Request) (hq : stagedRequest r slot s = some q) (hw : waitsForOther r slot s = false) :
    takeRequest r slot restart answer s =
      placeReply slot q.source
        (replyPayload q.code q.handle (answer q.args (takeHanded (takeCommand r slot) s)).status
          (answer q.args (takeHanded (takeCommand r slot) s)).results) restart
        (answer q.args (takeHanded (takeCommand r slot) s)).state := by
  simp [takeRequest, hq, hw]

theorem reqOfCode_codeOf (r : Req) : reqOfCode (codeOf r) = some r := by
  cases r <;> rfl

end

end Sys2Proof.Machine
end

