-- ==== Sys2Proof/Laws/Frames.lean ====
section
/-! SUPPORT. The fields of State each operation of a block leaves alone: one lemma per operation, whose conjuncts are
simp rules. -/

namespace Sys2Proof.Machine

variable (s : State)

@[simp] theorem refuse_state (st : Status) : (refuse st s).state = s := rfl
@[simp] theorem done_state : (done s).state = s := rfl
@[simp] theorem doneWith_state (bs : List Byte) : (doneWith bs s).state = s := rfl

@[simp] theorem settleStart_frame (i : PointIx) :
    (settleStart i s).line = s.line ∧ (settleStart i s).budget = s.budget ∧ (settleStart i s).fog = s.fog ∧
    (settleStart i s).zones = s.zones ∧ (settleStart i s).scene = s.scene ∧ (settleStart i s).mode = s.mode ∧
    (settleStart i s).responder = s.responder ∧ (settleStart i s).notices = s.notices ∧
    (settleStart i s).timeBase = s.timeBase ∧ (settleStart i s).pending = s.pending ∧
    (settleStart i s).handed = s.handed := by
  generalize ht : settleStart i s = t
  unfold settleStart at ht
  try dsimp only at ht
  repeat' split at ht
  all_goals (subst ht; exact ⟨rfl, rfl, rfl, rfl, rfl, rfl, rfl, rfl, rfl, rfl, rfl⟩)

@[simp] theorem resumeFollowers_frame (i : PointIx) :
    (resumeFollowers i s).line = s.line ∧ (resumeFollowers i s).budget = s.budget ∧
    (resumeFollowers i s).fog = s.fog ∧ (resumeFollowers i s).zones = s.zones ∧
    (resumeFollowers i s).scene = s.scene ∧ (resumeFollowers i s).mode = s.mode ∧
    (resumeFollowers i s).responder = s.responder ∧ (resumeFollowers i s).notices = s.notices ∧
    (resumeFollowers i s).timeBase = s.timeBase ∧ (resumeFollowers i s).pending = s.pending := by
  generalize ht : resumeFollowers i s = t
  unfold resumeFollowers at ht
  try dsimp only at ht
  all_goals (subst ht; exact ⟨rfl, rfl, rfl, rfl, rfl, rfl, rfl, rfl, rfl, rfl⟩)

@[simp] theorem collapseFollowers_frame (i : PointIx) (v : Int) :
    (collapseFollowers i v s).line = s.line ∧ (collapseFollowers i v s).budget = s.budget ∧
    (collapseFollowers i v s).fog = s.fog ∧ (collapseFollowers i v s).zones = s.zones ∧
    (collapseFollowers i v s).scene = s.scene ∧ (collapseFollowers i v s).mode = s.mode ∧
    (collapseFollowers i v s).responder = s.responder ∧ (collapseFollowers i v s).notices = s.notices ∧
    (collapseFollowers i v s).timeBase = s.timeBase ∧ (collapseFollowers i v s).pending = s.pending := by
  generalize ht : collapseFollowers i v s = t
  unfold collapseFollowers at ht
  try dsimp only at ht
  all_goals (subst ht; exact ⟨rfl, rfl, rfl, rfl, rfl, rfl, rfl, rfl, rfl, rfl⟩)

@[simp] theorem acceptSample_frame (i : PointIx) (p : Point) (v : Int) :
    (acceptSample i p v s).line = s.line ∧ (acceptSample i p v s).budget = s.budget ∧
    (acceptSample i p v s).fog = s.fog ∧ (acceptSample i p v s).zones = s.zones ∧
    (acceptSample i p v s).scene = s.scene ∧ (acceptSample i p v s).mode = s.mode ∧
    (acceptSample i p v s).responder = s.responder ∧ (acceptSample i p v s).notices = s.notices ∧
    (acceptSample i p v s).timeBase = s.timeBase ∧ (acceptSample i p v s).pending = s.pending := by
  generalize ht : acceptSample i p v s = t
  unfold acceptSample at ht
  try dsimp only at ht
  repeat' split at ht
  all_goals (subst ht; simp only [resumeFollowers_frame, and_self, offer_line, offer_budget, offer_fog, offer_zones,
      offer_scene, offer_mode, offer_responder, offer_notices, offer_timeBase, offer_pending, setPoint_line,
      setPoint_budget, setPoint_fog, setPoint_zones, setPoint_scene, setPoint_mode, setPoint_responder,
      setPoint_notices, setPoint_timeBase, setPoint_pending, reportValue_line, reportValue_budget, reportValue_fog,
      reportValue_zones, reportValue_scene, reportValue_mode, reportValue_responder, reportValue_notices,
      reportValue_timeBase, reportValue_pending])

@[simp] theorem takeCandidate_frame (i : PointIx) (p : Point) (raw : Nat) :
    (takeCandidate i p raw s).line = s.line ∧ (takeCandidate i p raw s).budget = s.budget ∧
    (takeCandidate i p raw s).fog = s.fog ∧ (takeCandidate i p raw s).zones = s.zones ∧
    (takeCandidate i p raw s).scene = s.scene ∧ (takeCandidate i p raw s).mode = s.mode ∧
    (takeCandidate i p raw s).responder = s.responder ∧ (takeCandidate i p raw s).notices = s.notices ∧
    (takeCandidate i p raw s).timeBase = s.timeBase ∧ (takeCandidate i p raw s).pending = s.pending := by
  generalize ht : takeCandidate i p raw s = t
  unfold takeCandidate at ht
  try dsimp only at ht
  repeat' split at ht
  all_goals (subst ht; simp only [acceptSample_frame, and_self, setPoint_line, setPoint_budget, setPoint_fog,
      setPoint_zones, setPoint_scene, setPoint_mode, setPoint_responder, setPoint_notices, setPoint_timeBase,
      setPoint_pending])

@[simp] theorem sampleEnabled_frame (i : PointIx) (b : Bool) (raw : Nat) :
    (sampleEnabled i b raw s).line = s.line ∧ (sampleEnabled i b raw s).budget = s.budget ∧
    (sampleEnabled i b raw s).fog = s.fog ∧ (sampleEnabled i b raw s).zones = s.zones ∧
    (sampleEnabled i b raw s).scene = s.scene ∧ (sampleEnabled i b raw s).mode = s.mode ∧
    (sampleEnabled i b raw s).responder = s.responder ∧ (sampleEnabled i b raw s).notices = s.notices ∧
    (sampleEnabled i b raw s).timeBase = s.timeBase ∧ (sampleEnabled i b raw s).pending = s.pending := by
  generalize ht : sampleEnabled i b raw s = t
  unfold sampleEnabled at ht
  try dsimp only at ht
  repeat' split at ht
  all_goals (subst ht; simp only [takeCandidate_frame, and_self, setPoint_line, setPoint_budget, setPoint_fog,
      setPoint_zones, setPoint_scene, setPoint_mode, setPoint_responder, setPoint_notices, setPoint_timeBase,
      setPoint_pending])

@[simp] theorem sampleEntry_frame (n c : Nat) (b : Bool) (raw : Nat) :
    (sampleEntry n c b raw s).line = s.line ∧ (sampleEntry n c b raw s).budget = s.budget ∧
    (sampleEntry n c b raw s).fog = s.fog ∧ (sampleEntry n c b raw s).zones = s.zones ∧
    (sampleEntry n c b raw s).scene = s.scene ∧ (sampleEntry n c b raw s).mode = s.mode ∧
    (sampleEntry n c b raw s).responder = s.responder ∧ (sampleEntry n c b raw s).notices = s.notices ∧
    (sampleEntry n c b raw s).timeBase = s.timeBase ∧ (sampleEntry n c b raw s).pending = s.pending := by
  generalize ht : sampleEntry n c b raw s = t
  unfold sampleEntry at ht
  try dsimp only at ht
  repeat' split at ht
  all_goals (subst ht; simp only [sampleEnabled_frame, and_self])

@[simp] theorem sampleEntries_frame (n : Nat) (bs : List Byte) :
    (sampleEntries n bs s).line = s.line ∧ (sampleEntries n bs s).budget = s.budget ∧
    (sampleEntries n bs s).fog = s.fog ∧ (sampleEntries n bs s).zones = s.zones ∧
    (sampleEntries n bs s).scene = s.scene ∧ (sampleEntries n bs s).mode = s.mode ∧
    (sampleEntries n bs s).responder = s.responder ∧ (sampleEntries n bs s).notices = s.notices ∧
    (sampleEntries n bs s).timeBase = s.timeBase ∧ (sampleEntries n bs s).pending = s.pending := by
  fun_induction sampleEntries n bs s with
  | case1 b hi lo rest s ih => simpa only [sampleEntry_frame] using ih
  | case2 => exact ⟨rfl, rfl, rfl, rfl, rfl, rfl, rfl, rfl, rfl, rfl⟩

@[simp] theorem goStale_frame (i : PointIx) (p : Point) :
    (goStale i p s).line = s.line ∧ (goStale i p s).budget = s.budget ∧ (goStale i p s).fog = s.fog ∧
    (goStale i p s).zones = s.zones ∧ (goStale i p s).scene = s.scene ∧ (goStale i p s).mode = s.mode ∧
    (goStale i p s).responder = s.responder ∧ (goStale i p s).notices = s.notices ∧
    (goStale i p s).timeBase = s.timeBase ∧ (goStale i p s).pending = s.pending := by
  generalize ht : goStale i p s = t
  unfold goStale at ht
  try dsimp only at ht
  repeat' split at ht
  all_goals (subst ht; simp only [collapseFollowers_frame, and_self, offer_line, offer_budget, offer_fog,
      offer_zones, offer_scene, offer_mode, offer_responder, offer_notices, offer_timeBase, offer_pending,
      setPoint_line, setPoint_budget, setPoint_fog, setPoint_zones, setPoint_scene, setPoint_mode,
      setPoint_responder, setPoint_notices, setPoint_timeBase, setPoint_pending])

@[simp] theorem staleExpiry_frame (i : PointIx) :
    (staleExpiry i s).line = s.line ∧ (staleExpiry i s).budget = s.budget ∧ (staleExpiry i s).fog = s.fog ∧
    (staleExpiry i s).zones = s.zones ∧ (staleExpiry i s).scene = s.scene ∧ (staleExpiry i s).mode = s.mode ∧
    (staleExpiry i s).responder = s.responder ∧ (staleExpiry i s).notices = s.notices ∧
    (staleExpiry i s).timeBase = s.timeBase ∧ (staleExpiry i s).pending = s.pending := by
  generalize ht : staleExpiry i s = t
  unfold staleExpiry at ht
  try dsimp only at ht
  repeat' split at ht
  all_goals (subst ht; simp only [goStale_frame, and_self, offer_line, offer_budget, offer_fog, offer_zones,
      offer_scene, offer_mode, offer_responder, offer_notices, offer_timeBase, offer_pending, setPoint_line,
      setPoint_budget, setPoint_fog, setPoint_zones, setPoint_scene, setPoint_mode, setPoint_responder,
      setPoint_notices, setPoint_timeBase, setPoint_pending])

@[simp] theorem settleExpiry_frame (i : PointIx) :
    (settleExpiry i s).line = s.line ∧ (settleExpiry i s).budget = s.budget ∧ (settleExpiry i s).fog = s.fog ∧
    (settleExpiry i s).zones = s.zones ∧ (settleExpiry i s).scene = s.scene ∧ (settleExpiry i s).mode = s.mode ∧
    (settleExpiry i s).responder = s.responder ∧ (settleExpiry i s).notices = s.notices ∧
    (settleExpiry i s).timeBase = s.timeBase ∧ (settleExpiry i s).pending = s.pending := by
  generalize ht : settleExpiry i s = t
  unfold settleExpiry at ht
  try dsimp only at ht
  repeat' split at ht
  all_goals (subst ht; simp only [resumeFollowers_frame, and_self, setPoint_line, setPoint_budget, setPoint_fog,
      setPoint_zones, setPoint_scene, setPoint_mode, setPoint_responder, setPoint_notices, setPoint_timeBase,
      setPoint_pending])

@[simp] theorem shedValve_frame (i : ZoneIx) :
    (shedValve s i).points = s.points ∧ (shedValve s i).budget = s.budget ∧ (shedValve s i).fog = s.fog ∧
    (shedValve s i).scene = s.scene ∧ (shedValve s i).mode = s.mode ∧ (shedValve s i).responder = s.responder ∧
    (shedValve s i).notices = s.notices ∧ (shedValve s i).timeBase = s.timeBase ∧
    (shedValve s i).pending = s.pending ∧ (shedValve s i).handed = s.handed := by
  generalize ht : shedValve s i = t
  unfold shedValve at ht
  try dsimp only at ht
  repeat' split at ht
  all_goals (subst ht; exact ⟨rfl, rfl, rfl, rfl, rfl, rfl, rfl, rfl, rfl, rfl⟩)

@[simp] theorem shedBoost_frame (i : ZoneIx) :
    (shedBoost s i).points = s.points ∧ (shedBoost s i).budget = s.budget ∧ (shedBoost s i).fog = s.fog ∧
    (shedBoost s i).scene = s.scene ∧ (shedBoost s i).mode = s.mode ∧ (shedBoost s i).responder = s.responder ∧
    (shedBoost s i).notices = s.notices ∧ (shedBoost s i).timeBase = s.timeBase ∧
    (shedBoost s i).pending = s.pending ∧ (shedBoost s i).handed = s.handed := by
  generalize ht : shedBoost s i = t
  unfold shedBoost at ht
  try dsimp only at ht
  repeat' split at ht
  all_goals (subst ht; exact ⟨rfl, rfl, rfl, rfl, rfl, rfl, rfl, rfl, rfl, rfl⟩)

@[simp] theorem shedBoth_frame (i : ZoneIx) :
    (shedBoth s i).points = s.points ∧ (shedBoth s i).budget = s.budget ∧ (shedBoth s i).fog = s.fog ∧
    (shedBoth s i).scene = s.scene ∧ (shedBoth s i).mode = s.mode ∧ (shedBoth s i).responder = s.responder ∧
    (shedBoth s i).notices = s.notices ∧ (shedBoth s i).timeBase = s.timeBase ∧
    (shedBoth s i).pending = s.pending ∧ (shedBoth s i).handed = s.handed := by
  generalize ht : shedBoth s i = t
  unfold shedBoth at ht
  try dsimp only at ht
  all_goals (subst ht; simp only [shedValve_frame, shedBoost_frame, and_self])

@[simp] theorem shedBoth_fold (l : List ZoneIx) :
    (l.foldl shedBoth s).points = s.points ∧ (l.foldl shedBoth s).budget = s.budget ∧
    (l.foldl shedBoth s).fog = s.fog ∧ (l.foldl shedBoth s).scene = s.scene ∧
    (l.foldl shedBoth s).mode = s.mode ∧ (l.foldl shedBoth s).responder = s.responder ∧
    (l.foldl shedBoth s).notices = s.notices ∧ (l.foldl shedBoth s).timeBase = s.timeBase ∧
    (l.foldl shedBoth s).pending = s.pending ∧ (l.foldl shedBoth s).handed = s.handed :=
  ⟨foldl_keeps State.points shedBoth (fun s b => by simp only [shedBoth_frame]) l s,
    foldl_keeps State.budget shedBoth (fun s b => by simp only [shedBoth_frame]) l s,
    foldl_keeps State.fog shedBoth (fun s b => by simp only [shedBoth_frame]) l s,
    foldl_keeps State.scene shedBoth (fun s b => by simp only [shedBoth_frame]) l s,
    foldl_keeps State.mode shedBoth (fun s b => by simp only [shedBoth_frame]) l s,
    foldl_keeps State.responder shedBoth (fun s b => by simp only [shedBoth_frame]) l s,
    foldl_keeps State.notices shedBoth (fun s b => by simp only [shedBoth_frame]) l s,
    foldl_keeps State.timeBase shedBoth (fun s b => by simp only [shedBoth_frame]) l s,
    foldl_keeps State.pending shedBoth (fun s b => by simp only [shedBoth_frame]) l s,
    foldl_keeps State.handed shedBoth (fun s b => by simp only [shedBoth_frame]) l s⟩

@[simp] theorem applyCaps_frame (sh : Sheet) (c : Caps) :
    (applyCaps sh c s).points = s.points ∧ (applyCaps sh c s).budget = s.budget ∧
    (applyCaps sh c s).fog = s.fog ∧ (applyCaps sh c s).scene = s.scene ∧ (applyCaps sh c s).mode = s.mode ∧
    (applyCaps sh c s).responder = s.responder ∧ (applyCaps sh c s).notices = s.notices ∧
    (applyCaps sh c s).timeBase = s.timeBase ∧ (applyCaps sh c s).pending = s.pending ∧
    (applyCaps sh c s).handed = s.handed := by
  unfold applyCaps
  split
  · exact ⟨rfl, rfl, rfl, rfl, rfl, rfl, rfl, rfl, rfl, rfl⟩
  · simp only [shedBoth_fold, and_self]

@[simp] theorem shedValve_fold (l : List ZoneIx) :
    (l.foldl shedValve s).points = s.points ∧ (l.foldl shedValve s).budget = s.budget ∧
    (l.foldl shedValve s).fog = s.fog ∧ (l.foldl shedValve s).scene = s.scene ∧
    (l.foldl shedValve s).mode = s.mode ∧ (l.foldl shedValve s).responder = s.responder ∧
    (l.foldl shedValve s).notices = s.notices ∧ (l.foldl shedValve s).timeBase = s.timeBase ∧
    (l.foldl shedValve s).pending = s.pending ∧ (l.foldl shedValve s).handed = s.handed :=
  ⟨foldl_keeps State.points shedValve (fun s b => by simp only [shedValve_frame]) l s,
    foldl_keeps State.budget shedValve (fun s b => by simp only [shedValve_frame]) l s,
    foldl_keeps State.fog shedValve (fun s b => by simp only [shedValve_frame]) l s,
    foldl_keeps State.scene shedValve (fun s b => by simp only [shedValve_frame]) l s,
    foldl_keeps State.mode shedValve (fun s b => by simp only [shedValve_frame]) l s,
    foldl_keeps State.responder shedValve (fun s b => by simp only [shedValve_frame]) l s,
    foldl_keeps State.notices shedValve (fun s b => by simp only [shedValve_frame]) l s,
    foldl_keeps State.timeBase shedValve (fun s b => by simp only [shedValve_frame]) l s,
    foldl_keeps State.pending shedValve (fun s b => by simp only [shedValve_frame]) l s,
    foldl_keeps State.handed shedValve (fun s b => by simp only [shedValve_frame]) l s⟩

@[simp] theorem splitGrant_frame (g : Option Nat) :
    (splitGrant g s).points = s.points ∧ (splitGrant g s).budget = s.budget ∧ (splitGrant g s).fog = s.fog ∧
    (splitGrant g s).scene = s.scene ∧ (splitGrant g s).mode = s.mode ∧
    (splitGrant g s).responder = s.responder ∧ (splitGrant g s).notices = s.notices ∧
    (splitGrant g s).timeBase = s.timeBase ∧ (splitGrant g s).pending = s.pending ∧
    (splitGrant g s).handed = s.handed := by
  unfold splitGrant
  simp only [shedValve_fold, and_self]

@[simp] theorem shedBoost_fold (l : List ZoneIx) :
    (l.foldl shedBoost s).points = s.points ∧ (l.foldl shedBoost s).budget = s.budget ∧
    (l.foldl shedBoost s).fog = s.fog ∧ (l.foldl shedBoost s).scene = s.scene ∧
    (l.foldl shedBoost s).mode = s.mode ∧ (l.foldl shedBoost s).responder = s.responder ∧
    (l.foldl shedBoost s).notices = s.notices ∧ (l.foldl shedBoost s).timeBase = s.timeBase ∧
    (l.foldl shedBoost s).pending = s.pending ∧ (l.foldl shedBoost s).handed = s.handed :=
  ⟨foldl_keeps State.points shedBoost (fun s b => by simp only [shedBoost_frame]) l s,
    foldl_keeps State.budget shedBoost (fun s b => by simp only [shedBoost_frame]) l s,
    foldl_keeps State.fog shedBoost (fun s b => by simp only [shedBoost_frame]) l s,
    foldl_keeps State.scene shedBoost (fun s b => by simp only [shedBoost_frame]) l s,
    foldl_keeps State.mode shedBoost (fun s b => by simp only [shedBoost_frame]) l s,
    foldl_keeps State.responder shedBoost (fun s b => by simp only [shedBoost_frame]) l s,
    foldl_keeps State.notices shedBoost (fun s b => by simp only [shedBoost_frame]) l s,
    foldl_keeps State.timeBase shedBoost (fun s b => by simp only [shedBoost_frame]) l s,
    foldl_keeps State.pending shedBoost (fun s b => by simp only [shedBoost_frame]) l s,
    foldl_keeps State.handed shedBoost (fun s b => by simp only [shedBoost_frame]) l s⟩

@[simp] theorem distributeBoost_frame (a : Nat) :
    (distributeBoost a s).points = s.points ∧ (distributeBoost a s).budget = s.budget ∧
    (distributeBoost a s).fog = s.fog ∧ (distributeBoost a s).scene = s.scene ∧
    (distributeBoost a s).mode = s.mode ∧ (distributeBoost a s).responder = s.responder ∧
    (distributeBoost a s).notices = s.notices ∧ (distributeBoost a s).timeBase = s.timeBase ∧
    (distributeBoost a s).pending = s.pending ∧ (distributeBoost a s).handed = s.handed := by
  unfold distributeBoost
  simp only [shedBoost_fold, and_self]

@[simp] theorem overDemandNotice_frame (u v : BudgetUnit) :
    (overDemandNotice u v s).line = s.line ∧ (overDemandNotice u v s).points = s.points ∧
    (overDemandNotice u v s).budget = s.budget ∧ (overDemandNotice u v s).fog = s.fog ∧
    (overDemandNotice u v s).zones = s.zones ∧ (overDemandNotice u v s).scene = s.scene ∧
    (overDemandNotice u v s).mode = s.mode ∧ (overDemandNotice u v s).responder = s.responder ∧
    (overDemandNotice u v s).notices = s.notices ∧ (overDemandNotice u v s).timeBase = s.timeBase ∧
    (overDemandNotice u v s).pending = s.pending := by
  generalize ht : overDemandNotice u v s = t
  unfold overDemandNotice at ht
  try dsimp only at ht
  repeat' split at ht
  all_goals (subst ht; exact ⟨rfl, rfl, rfl, rfl, rfl, rfl, rfl, rfl, rfl, rfl, rfl⟩)

@[simp] theorem recomputeElectric_frame :
    (recomputeElectric s).points = s.points ∧ (recomputeElectric s).fog = s.fog ∧
    (recomputeElectric s).scene = s.scene ∧ (recomputeElectric s).mode = s.mode ∧
    (recomputeElectric s).responder = s.responder ∧ (recomputeElectric s).notices = s.notices ∧
    (recomputeElectric s).timeBase = s.timeBase ∧ (recomputeElectric s).pending = s.pending := by
  generalize ht : recomputeElectric s = t
  unfold recomputeElectric at ht
  try dsimp only at ht
  all_goals (subst ht; simp only [distributeBoost_frame, overDemandNotice_frame, and_self])

@[simp] theorem recomputeElectricSilently_frame :
    (recomputeElectricSilently s).points = s.points ∧ (recomputeElectricSilently s).fog = s.fog ∧
    (recomputeElectricSilently s).scene = s.scene ∧ (recomputeElectricSilently s).mode = s.mode ∧
    (recomputeElectricSilently s).responder = s.responder ∧ (recomputeElectricSilently s).notices = s.notices ∧
    (recomputeElectricSilently s).timeBase = s.timeBase ∧ (recomputeElectricSilently s).pending = s.pending ∧
    (recomputeElectricSilently s).handed = s.handed := by
  generalize ht : recomputeElectricSilently s = t
  unfold recomputeElectricSilently at ht
  try dsimp only at ht
  all_goals (subst ht; simp only [distributeBoost_frame, and_self])

@[simp] theorem startAllocation_frame :
    (startAllocation s).line = s.line ∧ (startAllocation s).points = s.points ∧
    (startAllocation s).fog = s.fog ∧ (startAllocation s).zones = s.zones ∧
    (startAllocation s).scene = s.scene ∧ (startAllocation s).mode = s.mode ∧
    (startAllocation s).responder = s.responder ∧ (startAllocation s).notices = s.notices ∧
    (startAllocation s).timeBase = s.timeBase ∧ (startAllocation s).pending = s.pending ∧
    (startAllocation s).handed = s.handed := by
  generalize ht : startAllocation s = t
  unfold startAllocation at ht
  try dsimp only at ht
  all_goals (subst ht; exact ⟨rfl, rfl, rfl, rfl, rfl, rfl, rfl, rfl, rfl, rfl, rfl⟩)

@[simp] theorem requestAllocation_frame :
    (requestAllocation s).line = s.line ∧ (requestAllocation s).points = s.points ∧
    (requestAllocation s).fog = s.fog ∧ (requestAllocation s).zones = s.zones ∧
    (requestAllocation s).scene = s.scene ∧ (requestAllocation s).mode = s.mode ∧
    (requestAllocation s).responder = s.responder ∧ (requestAllocation s).notices = s.notices ∧
    (requestAllocation s).timeBase = s.timeBase ∧ (requestAllocation s).pending = s.pending ∧
    (requestAllocation s).handed = s.handed := by
  generalize ht : requestAllocation s = t
  unfold requestAllocation at ht
  try dsimp only at ht
  repeat' split at ht
  all_goals (subst ht; simp only [startAllocation_frame, and_self])

@[simp] theorem allocationPeriod_frame :
    (allocationPeriod s).line = s.line ∧ (allocationPeriod s).points = s.points ∧
    (allocationPeriod s).fog = s.fog ∧ (allocationPeriod s).zones = s.zones ∧
    (allocationPeriod s).scene = s.scene ∧ (allocationPeriod s).mode = s.mode ∧
    (allocationPeriod s).responder = s.responder ∧ (allocationPeriod s).notices = s.notices ∧
    (allocationPeriod s).timeBase = s.timeBase ∧ (allocationPeriod s).pending = s.pending ∧
    (allocationPeriod s).handed = s.handed := by
  generalize ht : allocationPeriod s = t
  unfold allocationPeriod at ht
  try dsimp only at ht
  repeat' split at ht
  all_goals (subst ht; simp only [requestAllocation_frame, and_self])

@[simp] theorem driveValve_frame (i : ConsumerIx) (r : Consumer) (a : ActAddr) :
    (driveValve i r a s).fog = s.fog ∧ (driveValve i r a s).zones = s.zones ∧
    (driveValve i r a s).scene = s.scene ∧ (driveValve i r a s).mode = s.mode ∧
    (driveValve i r a s).responder = s.responder ∧ (driveValve i r a s).notices = s.notices ∧
    (driveValve i r a s).timeBase = s.timeBase ∧ (driveValve i r a s).pending = s.pending ∧
    (driveValve i r a s).handed = s.handed := by
  generalize ht : driveValve i r a s = t
  unfold driveValve at ht
  try dsimp only at ht
  repeat' split at ht
  all_goals (subst ht; simp only [settleStart_frame, and_self, queueCommand_fog, queueCommand_zones,
      queueCommand_scene, queueCommand_mode, queueCommand_responder, queueCommand_notices, queueCommand_timeBase,
      queueCommand_pending, queueCommand_handed, setConsumer_fog, setConsumer_zones, setConsumer_scene,
      setConsumer_mode, setConsumer_responder, setConsumer_notices, setConsumer_timeBase, setConsumer_pending,
      setConsumer_handed])

@[simp] theorem governValve_frame (i : ConsumerIx) (r : Consumer) (a : ActAddr) :
    (governValve i r a s).points = s.points ∧ (governValve i r a s).fog = s.fog ∧
    (governValve i r a s).zones = s.zones ∧ (governValve i r a s).scene = s.scene ∧
    (governValve i r a s).mode = s.mode ∧ (governValve i r a s).responder = s.responder ∧
    (governValve i r a s).notices = s.notices ∧ (governValve i r a s).timeBase = s.timeBase ∧
    (governValve i r a s).pending = s.pending ∧ (governValve i r a s).handed = s.handed := by
  generalize ht : governValve i r a s = t
  unfold governValve at ht
  try dsimp only at ht
  repeat' split at ht
  all_goals (subst ht; exact ⟨rfl, rfl, rfl, rfl, rfl, rfl, rfl, rfl, rfl, rfl⟩)

@[simp] theorem commandConsumer_frame (i : ConsumerIx) :
    (commandConsumer s i).fog = s.fog ∧ (commandConsumer s i).zones = s.zones ∧
    (commandConsumer s i).scene = s.scene ∧ (commandConsumer s i).mode = s.mode ∧
    (commandConsumer s i).responder = s.responder ∧ (commandConsumer s i).notices = s.notices ∧
    (commandConsumer s i).timeBase = s.timeBase ∧ (commandConsumer s i).pending = s.pending ∧
    (commandConsumer s i).handed = s.handed := by
  generalize ht : commandConsumer s i = t
  unfold commandConsumer at ht
  try dsimp only at ht
  repeat' split at ht
  all_goals (subst ht; simp only [driveValve_frame, governValve_frame, and_self])

@[simp] theorem nextAllocation_frame :
    (nextAllocation s).line = s.line ∧ (nextAllocation s).points = s.points ∧ (nextAllocation s).fog = s.fog ∧
    (nextAllocation s).zones = s.zones ∧ (nextAllocation s).scene = s.scene ∧ (nextAllocation s).mode = s.mode ∧
    (nextAllocation s).responder = s.responder ∧ (nextAllocation s).notices = s.notices ∧
    (nextAllocation s).timeBase = s.timeBase ∧ (nextAllocation s).pending = s.pending ∧
    (nextAllocation s).handed = s.handed := by
  generalize ht : nextAllocation s = t
  unfold nextAllocation at ht
  try dsimp only at ht
  repeat' split at ht
  all_goals (subst ht; simp only [startAllocation_frame, and_self])

@[simp] theorem heatLostNotice_frame (c : Capture) (u : BudgetUnit) :
    (heatLostNotice c u s).line = s.line ∧ (heatLostNotice c u s).points = s.points ∧
    (heatLostNotice c u s).budget = s.budget ∧ (heatLostNotice c u s).fog = s.fog ∧
    (heatLostNotice c u s).zones = s.zones ∧ (heatLostNotice c u s).scene = s.scene ∧
    (heatLostNotice c u s).mode = s.mode ∧ (heatLostNotice c u s).responder = s.responder ∧
    (heatLostNotice c u s).notices = s.notices ∧ (heatLostNotice c u s).timeBase = s.timeBase ∧
    (heatLostNotice c u s).pending = s.pending := by
  generalize ht : heatLostNotice c u s = t
  unfold heatLostNotice at ht
  try dsimp only at ht
  repeat' split at ht
  all_goals (subst ht; exact ⟨rfl, rfl, rfl, rfl, rfl, rfl, rfl, rfl, rfl, rfl, rfl⟩)

@[simp] theorem commandConsumer_fold (l : List ConsumerIx) :
    (l.foldl commandConsumer s).fog = s.fog ∧ (l.foldl commandConsumer s).zones = s.zones ∧
    (l.foldl commandConsumer s).scene = s.scene ∧ (l.foldl commandConsumer s).mode = s.mode ∧
    (l.foldl commandConsumer s).responder = s.responder ∧ (l.foldl commandConsumer s).notices = s.notices ∧
    (l.foldl commandConsumer s).timeBase = s.timeBase ∧ (l.foldl commandConsumer s).pending = s.pending ∧
    (l.foldl commandConsumer s).handed = s.handed :=
  ⟨foldl_keeps State.fog commandConsumer (fun s b => by simp only [commandConsumer_frame]) l s,
    foldl_keeps State.zones commandConsumer (fun s b => by simp only [commandConsumer_frame]) l s,
    foldl_keeps State.scene commandConsumer (fun s b => by simp only [commandConsumer_frame]) l s,
    foldl_keeps State.mode commandConsumer (fun s b => by simp only [commandConsumer_frame]) l s,
    foldl_keeps State.responder commandConsumer (fun s b => by simp only [commandConsumer_frame]) l s,
    foldl_keeps State.notices commandConsumer (fun s b => by simp only [commandConsumer_frame]) l s,
    foldl_keeps State.timeBase commandConsumer (fun s b => by simp only [commandConsumer_frame]) l s,
    foldl_keeps State.pending commandConsumer (fun s b => by simp only [commandConsumer_frame]) l s,
    foldl_keeps State.handed commandConsumer (fun s b => by simp only [commandConsumer_frame]) l s⟩

@[simp] theorem completeWith_frame (c : Capture) :
    (completeWith c s).fog = s.fog ∧ (completeWith c s).scene = s.scene ∧ (completeWith c s).mode = s.mode ∧
    (completeWith c s).responder = s.responder ∧ (completeWith c s).notices = s.notices ∧
    (completeWith c s).timeBase = s.timeBase ∧ (completeWith c s).pending = s.pending := by
  unfold completeWith
  simp only [commandConsumer_fold, splitGrant_frame, recomputeElectric_frame, nextAllocation_frame,
      heatLostNotice_frame, and_self]

@[simp] theorem completeAllocation_frame :
    (completeAllocation s).fog = s.fog ∧ (completeAllocation s).scene = s.scene ∧
    (completeAllocation s).mode = s.mode ∧ (completeAllocation s).responder = s.responder ∧
    (completeAllocation s).notices = s.notices ∧ (completeAllocation s).timeBase = s.timeBase ∧
    (completeAllocation s).pending = s.pending := by
  generalize ht : completeAllocation s = t
  unfold completeAllocation at ht
  try dsimp only at ht
  repeat' split at ht
  all_goals (subst ht; simp only [completeWith_frame, and_self])

@[simp] theorem updateLoad_frame (n : Nat) :
    (updateLoad n s).points = s.points ∧ (updateLoad n s).fog = s.fog ∧ (updateLoad n s).scene = s.scene ∧
    (updateLoad n s).mode = s.mode ∧ (updateLoad n s).responder = s.responder ∧
    (updateLoad n s).notices = s.notices ∧ (updateLoad n s).timeBase = s.timeBase ∧
    (updateLoad n s).pending = s.pending := by
  generalize ht : updateLoad n s = t
  unfold updateLoad at ht
  try dsimp only at ht
  all_goals (subst ht; simp only [recomputeElectric_frame, and_self])

@[simp] theorem handCut_frame (sh : Sheet) (f : FogState) :
    (handCut sh f s).line = s.line ∧ (handCut sh f s).points = s.points ∧ (handCut sh f s).budget = s.budget ∧
    (handCut sh f s).fog = s.fog ∧ (handCut sh f s).zones = s.zones ∧ (handCut sh f s).scene = s.scene ∧
    (handCut sh f s).mode = s.mode ∧ (handCut sh f s).responder = s.responder ∧
    (handCut sh f s).notices = s.notices ∧ (handCut sh f s).timeBase = s.timeBase ∧
    (handCut sh f s).pending = s.pending := by
  generalize ht : handCut sh f s = t
  unfold handCut at ht
  try dsimp only at ht
  repeat' split at ht
  all_goals (subst ht; exact ⟨rfl, rfl, rfl, rfl, rfl, rfl, rfl, rfl, rfl, rfl, rfl⟩)

@[simp] theorem fogTransition_frame (sh : Sheet) (f : FogState) :
    (fogTransition sh f s).line = s.line ∧ (fogTransition sh f s).points = s.points ∧
    (fogTransition sh f s).budget = s.budget ∧ (fogTransition sh f s).zones = s.zones ∧
    (fogTransition sh f s).scene = s.scene ∧ (fogTransition sh f s).mode = s.mode ∧
    (fogTransition sh f s).responder = s.responder ∧ (fogTransition sh f s).notices = s.notices ∧
    (fogTransition sh f s).timeBase = s.timeBase ∧ (fogTransition sh f s).pending = s.pending := by
  generalize ht : fogTransition sh f s = t
  unfold fogTransition at ht
  try dsimp only at ht
  all_goals (subst ht; simp only [handCut_frame, and_self, offer_line, offer_points, offer_budget, offer_zones,
      offer_scene, offer_mode, offer_responder, offer_notices, offer_timeBase, offer_pending, handCaps_line,
      handCaps_points, handCaps_budget, handCaps_zones, handCaps_scene, handCaps_mode, handCaps_responder,
      handCaps_notices, handCaps_timeBase, handCaps_pending, setSheet_line, setSheet_points, setSheet_budget,
      setSheet_zones, setSheet_scene, setSheet_mode, setSheet_responder, setSheet_notices, setSheet_timeBase,
      setSheet_pending])

@[simp] theorem fogTransitionAlone_frame (sh : Sheet) (f : FogState) :
    (fogTransitionAlone sh f s).line = s.line ∧ (fogTransitionAlone sh f s).points = s.points ∧
    (fogTransitionAlone sh f s).budget = s.budget ∧ (fogTransitionAlone sh f s).zones = s.zones ∧
    (fogTransitionAlone sh f s).scene = s.scene ∧ (fogTransitionAlone sh f s).mode = s.mode ∧
    (fogTransitionAlone sh f s).responder = s.responder ∧ (fogTransitionAlone sh f s).notices = s.notices ∧
    (fogTransitionAlone sh f s).timeBase = s.timeBase ∧ (fogTransitionAlone sh f s).pending = s.pending := by
  generalize ht : fogTransitionAlone sh f s = t
  unfold fogTransitionAlone at ht
  try dsimp only at ht
  all_goals (subst ht; simp only [fogTransition_frame, and_self, hand_line, hand_points, hand_budget, hand_zones,
      hand_scene, hand_mode, hand_responder, hand_notices, hand_timeBase, hand_pending])

@[simp] theorem evaluateFog_frame (sh : Sheet) :
    (evaluateFog sh s).line = s.line ∧ (evaluateFog sh s).points = s.points ∧
    (evaluateFog sh s).budget = s.budget ∧ (evaluateFog sh s).zones = s.zones ∧
    (evaluateFog sh s).scene = s.scene ∧ (evaluateFog sh s).mode = s.mode ∧
    (evaluateFog sh s).responder = s.responder ∧ (evaluateFog sh s).notices = s.notices ∧
    (evaluateFog sh s).timeBase = s.timeBase ∧ (evaluateFog sh s).pending = s.pending := by
  generalize ht : evaluateFog sh s = t
  unfold evaluateFog at ht
  try dsimp only at ht
  repeat' split at ht
  all_goals (subst ht; simp only [fogTransitionAlone_frame, and_self, setSheet_line, setSheet_points,
      setSheet_budget, setSheet_zones, setSheet_scene, setSheet_mode, setSheet_responder, setSheet_notices,
      setSheet_timeBase, setSheet_pending])

@[simp] theorem loseInput_frame (sh : Sheet) :
    (loseInput sh s).line = s.line ∧ (loseInput sh s).points = s.points ∧ (loseInput sh s).budget = s.budget ∧
    (loseInput sh s).zones = s.zones ∧ (loseInput sh s).scene = s.scene ∧ (loseInput sh s).mode = s.mode ∧
    (loseInput sh s).responder = s.responder ∧ (loseInput sh s).notices = s.notices ∧
    (loseInput sh s).timeBase = s.timeBase ∧ (loseInput sh s).pending = s.pending := by
  generalize ht : loseInput sh s = t
  unfold loseInput at ht
  try dsimp only at ht
  repeat' split at ht
  all_goals (subst ht; simp only [fogTransitionAlone_frame, and_self, setSheet_line, setSheet_points,
      setSheet_budget, setSheet_zones, setSheet_scene, setSheet_mode, setSheet_responder, setSheet_notices,
      setSheet_timeBase, setSheet_pending])

@[simp] theorem computeFog_frame (sh : Sheet) :
    (computeFog sh s).line = s.line ∧ (computeFog sh s).points = s.points ∧
    (computeFog sh s).budget = s.budget ∧ (computeFog sh s).zones = s.zones ∧
    (computeFog sh s).scene = s.scene ∧ (computeFog sh s).mode = s.mode ∧
    (computeFog sh s).responder = s.responder ∧ (computeFog sh s).notices = s.notices ∧
    (computeFog sh s).timeBase = s.timeBase ∧ (computeFog sh s).pending = s.pending := by
  generalize ht : computeFog sh s = t
  unfold computeFog at ht
  try dsimp only at ht
  repeat' split at ht
  all_goals (subst ht; simp only [evaluateFog_frame, loseInput_frame, and_self, setSheet_line, setSheet_points,
      setSheet_budget, setSheet_zones, setSheet_scene, setSheet_mode, setSheet_responder, setSheet_notices,
      setSheet_timeBase, setSheet_pending])

@[simp] theorem fogPeriod_frame (sh : Sheet) :
    (fogPeriod sh s).line = s.line ∧ (fogPeriod sh s).points = s.points ∧ (fogPeriod sh s).budget = s.budget ∧
    (fogPeriod sh s).zones = s.zones ∧ (fogPeriod sh s).scene = s.scene ∧ (fogPeriod sh s).mode = s.mode ∧
    (fogPeriod sh s).responder = s.responder ∧ (fogPeriod sh s).notices = s.notices ∧
    (fogPeriod sh s).timeBase = s.timeBase ∧ (fogPeriod sh s).pending = s.pending := by
  generalize ht : fogPeriod sh s = t
  unfold fogPeriod at ht
  try dsimp only at ht
  repeat' split at ht
  all_goals (subst ht; simp only [computeFog_frame, and_self, setSheet_line, setSheet_points, setSheet_budget,
      setSheet_zones, setSheet_scene, setSheet_mode, setSheet_responder, setSheet_notices, setSheet_timeBase,
      setSheet_pending])

@[simp] theorem recoverExpiry_frame (sh : Sheet) :
    (recoverExpiry sh s).line = s.line ∧ (recoverExpiry sh s).points = s.points ∧
    (recoverExpiry sh s).budget = s.budget ∧ (recoverExpiry sh s).zones = s.zones ∧
    (recoverExpiry sh s).scene = s.scene ∧ (recoverExpiry sh s).mode = s.mode ∧
    (recoverExpiry sh s).responder = s.responder ∧ (recoverExpiry sh s).notices = s.notices ∧
    (recoverExpiry sh s).timeBase = s.timeBase ∧ (recoverExpiry sh s).pending = s.pending := by
  generalize ht : recoverExpiry sh s = t
  unfold recoverExpiry at ht
  try dsimp only at ht
  repeat' split at ht
  all_goals (subst ht; simp only [fogTransitionAlone_frame, and_self, setSheet_line, setSheet_points,
      setSheet_budget, setSheet_zones, setSheet_scene, setSheet_mode, setSheet_responder, setSheet_notices,
      setSheet_timeBase, setSheet_pending])

@[simp] theorem coverFog_frame (sh : Sheet) :
    (coverFog sh s).line = s.line ∧ (coverFog sh s).points = s.points ∧ (coverFog sh s).budget = s.budget ∧
    (coverFog sh s).zones = s.zones ∧ (coverFog sh s).scene = s.scene ∧ (coverFog sh s).mode = s.mode ∧
    (coverFog sh s).responder = s.responder ∧ (coverFog sh s).notices = s.notices ∧
    (coverFog sh s).timeBase = s.timeBase ∧ (coverFog sh s).pending = s.pending := by
  generalize ht : coverFog sh s = t
  unfold coverFog at ht
  try dsimp only at ht
  repeat' split at ht
  all_goals (subst ht; simp only [fogTransition_frame, and_self, handCaps_line, handCaps_points, handCaps_budget,
      handCaps_zones, handCaps_scene, handCaps_mode, handCaps_responder, handCaps_notices, handCaps_timeBase,
      handCaps_pending, setSheet_line, setSheet_points, setSheet_budget, setSheet_zones, setSheet_scene,
      setSheet_mode, setSheet_responder, setSheet_notices, setSheet_timeBase, setSheet_pending])

@[simp] theorem uncoverFog_frame (sh : Sheet) :
    (uncoverFog sh s).line = s.line ∧ (uncoverFog sh s).points = s.points ∧
    (uncoverFog sh s).budget = s.budget ∧ (uncoverFog sh s).zones = s.zones ∧
    (uncoverFog sh s).scene = s.scene ∧ (uncoverFog sh s).mode = s.mode ∧
    (uncoverFog sh s).responder = s.responder ∧ (uncoverFog sh s).notices = s.notices ∧
    (uncoverFog sh s).timeBase = s.timeBase ∧ (uncoverFog sh s).pending = s.pending := by
  generalize ht : uncoverFog sh s = t
  unfold uncoverFog at ht
  try dsimp only at ht
  repeat' split at ht
  all_goals (subst ht; simp only [fogTransition_frame, and_self, handCaps_line, handCaps_points, handCaps_budget,
      handCaps_zones, handCaps_scene, handCaps_mode, handCaps_responder, handCaps_notices, handCaps_timeBase,
      handCaps_pending])

@[simp] theorem startFog_frame (sh : Sheet) :
    (startFog sh s).line = s.line ∧ (startFog sh s).points = s.points ∧ (startFog sh s).budget = s.budget ∧
    (startFog sh s).zones = s.zones ∧ (startFog sh s).scene = s.scene ∧ (startFog sh s).mode = s.mode ∧
    (startFog sh s).responder = s.responder ∧ (startFog sh s).notices = s.notices ∧
    (startFog sh s).timeBase = s.timeBase ∧ (startFog sh s).pending = s.pending := by
  generalize ht : startFog sh s = t
  unfold startFog at ht
  try dsimp only at ht
  repeat' split at ht
  all_goals (subst ht; simp only [fogTransition_frame, fogPeriod_frame, and_self, hand_line, hand_points,
      hand_budget, hand_zones, hand_scene, hand_mode, hand_responder, hand_notices, hand_timeBase, hand_pending,
      setSheet_line, setSheet_points, setSheet_budget, setSheet_zones, setSheet_scene, setSheet_mode,
      setSheet_responder, setSheet_notices, setSheet_timeBase, setSheet_pending])

@[simp] theorem stopFog_frame (sh : Sheet) :
    (stopFog sh s).line = s.line ∧ (stopFog sh s).points = s.points ∧ (stopFog sh s).budget = s.budget ∧
    (stopFog sh s).zones = s.zones ∧ (stopFog sh s).scene = s.scene ∧ (stopFog sh s).mode = s.mode ∧
    (stopFog sh s).responder = s.responder ∧ (stopFog sh s).notices = s.notices ∧
    (stopFog sh s).timeBase = s.timeBase ∧ (stopFog sh s).pending = s.pending := by
  generalize ht : stopFog sh s = t
  unfold stopFog at ht
  try dsimp only at ht
  repeat' split at ht
  all_goals (subst ht; simp only [fogTransition_frame, and_self, hand_line, hand_points, hand_budget, hand_zones,
      hand_scene, hand_mode, hand_responder, hand_notices, hand_timeBase, hand_pending, setSheet_line,
      setSheet_points, setSheet_budget, setSheet_zones, setSheet_scene, setSheet_mode, setSheet_responder,
      setSheet_notices, setSheet_timeBase, setSheet_pending])

@[simp] theorem startTransfer_frame (n : PairIx) :
    (startTransfer n s).line = s.line ∧ (startTransfer n s).points = s.points ∧
    (startTransfer n s).budget = s.budget ∧ (startTransfer n s).fog = s.fog ∧
    (startTransfer n s).zones = s.zones ∧ (startTransfer n s).mode = s.mode ∧
    (startTransfer n s).responder = s.responder ∧ (startTransfer n s).notices = s.notices ∧
    (startTransfer n s).timeBase = s.timeBase ∧ (startTransfer n s).pending = s.pending ∧
    (startTransfer n s).handed = s.handed := by
  generalize ht : startTransfer n s = t
  unfold startTransfer at ht
  try dsimp only at ht
  all_goals (subst ht; exact ⟨rfl, rfl, rfl, rfl, rfl, rfl, rfl, rfl, rfl, rfl, rfl⟩)

@[simp] theorem checkTransfers_frame :
    (checkTransfers s).line = s.line ∧ (checkTransfers s).points = s.points ∧
    (checkTransfers s).budget = s.budget ∧ (checkTransfers s).fog = s.fog ∧ (checkTransfers s).zones = s.zones ∧
    (checkTransfers s).mode = s.mode ∧ (checkTransfers s).responder = s.responder ∧
    (checkTransfers s).notices = s.notices ∧ (checkTransfers s).timeBase = s.timeBase ∧
    (checkTransfers s).pending = s.pending ∧ (checkTransfers s).handed = s.handed := by
  generalize ht : checkTransfers s = t
  unfold checkTransfers at ht
  try dsimp only at ht
  repeat' split at ht
  all_goals (subst ht; simp only [startTransfer_frame, and_self])

@[simp] theorem finishTransfer_frame (n : PairIx) :
    (finishTransfer n s).line = s.line ∧ (finishTransfer n s).points = s.points ∧
    (finishTransfer n s).budget = s.budget ∧ (finishTransfer n s).fog = s.fog ∧
    (finishTransfer n s).zones = s.zones ∧ (finishTransfer n s).mode = s.mode ∧
    (finishTransfer n s).responder = s.responder ∧ (finishTransfer n s).notices = s.notices ∧
    (finishTransfer n s).timeBase = s.timeBase ∧ (finishTransfer n s).pending = s.pending := by
  generalize ht : finishTransfer n s = t
  unfold finishTransfer at ht
  try dsimp only at ht
  all_goals (subst ht; simp only [checkTransfers_frame, and_self, offer_line, offer_points, offer_budget, offer_fog,
      offer_zones, offer_mode, offer_responder, offer_notices, offer_timeBase, offer_pending, setBuffer_line,
      setBuffer_points, setBuffer_budget, setBuffer_fog, setBuffer_zones, setBuffer_mode, setBuffer_responder,
      setBuffer_notices, setBuffer_timeBase, setBuffer_pending])

@[simp] theorem completeTransfer_frame :
    (completeTransfer s).line = s.line ∧ (completeTransfer s).points = s.points ∧
    (completeTransfer s).budget = s.budget ∧ (completeTransfer s).fog = s.fog ∧
    (completeTransfer s).zones = s.zones ∧ (completeTransfer s).mode = s.mode ∧
    (completeTransfer s).responder = s.responder ∧ (completeTransfer s).notices = s.notices ∧
    (completeTransfer s).timeBase = s.timeBase ∧ (completeTransfer s).pending = s.pending := by
  generalize ht : completeTransfer s = t
  unfold completeTransfer at ht
  try dsimp only at ht
  repeat' split at ht
  all_goals (subst ht; simp only [finishTransfer_frame, and_self])

@[simp] theorem configure_frame (i : BufferIx) (c : BufferConfig) :
    (configure i c s).line = s.line ∧ (configure i c s).points = s.points ∧
    (configure i c s).budget = s.budget ∧ (configure i c s).fog = s.fog ∧ (configure i c s).zones = s.zones ∧
    (configure i c s).mode = s.mode ∧ (configure i c s).responder = s.responder ∧
    (configure i c s).notices = s.notices ∧ (configure i c s).timeBase = s.timeBase ∧
    (configure i c s).pending = s.pending ∧ (configure i c s).handed = s.handed := by
  generalize ht : configure i c s = t
  unfold configure at ht
  try dsimp only at ht
  repeat' split at ht
  all_goals (subst ht; exact ⟨rfl, rfl, rfl, rfl, rfl, rfl, rfl, rfl, rfl, rfl, rfl⟩)

@[simp] theorem bothSides_frame (f : BufferState → BufferState) (i : BufferIx) :
    (bothSides f i s).line = s.line ∧ (bothSides f i s).points = s.points ∧
    (bothSides f i s).budget = s.budget ∧ (bothSides f i s).fog = s.fog ∧ (bothSides f i s).zones = s.zones ∧
    (bothSides f i s).mode = s.mode ∧ (bothSides f i s).responder = s.responder ∧
    (bothSides f i s).notices = s.notices ∧ (bothSides f i s).timeBase = s.timeBase ∧
    (bothSides f i s).pending = s.pending ∧ (bothSides f i s).handed = s.handed := by
  generalize ht : bothSides f i s = t
  unfold bothSides at ht
  try dsimp only at ht
  all_goals (subst ht; exact ⟨rfl, rfl, rfl, rfl, rfl, rfl, rfl, rfl, rfl, rfl, rfl⟩)

@[simp] theorem sendLevel_frame (i : GroupIx) (g : Group) :
    (sendLevel i g s).points = s.points ∧ (sendLevel i g s).budget = s.budget ∧ (sendLevel i g s).fog = s.fog ∧
    (sendLevel i g s).zones = s.zones ∧ (sendLevel i g s).mode = s.mode ∧
    (sendLevel i g s).responder = s.responder ∧ (sendLevel i g s).notices = s.notices ∧
    (sendLevel i g s).timeBase = s.timeBase ∧ (sendLevel i g s).pending = s.pending ∧
    (sendLevel i g s).handed = s.handed := by
  generalize ht : sendLevel i g s = t
  unfold sendLevel at ht
  try dsimp only at ht
  repeat' split at ht
  all_goals (subst ht; exact ⟨rfl, rfl, rfl, rfl, rfl, rfl, rfl, rfl, rfl, rfl⟩)

@[simp] theorem levelGroup_frame (rs : Vector SearchResult 32) (i : GroupIx) :
    (levelGroup rs s i).points = s.points ∧ (levelGroup rs s i).budget = s.budget ∧
    (levelGroup rs s i).fog = s.fog ∧ (levelGroup rs s i).zones = s.zones ∧ (levelGroup rs s i).mode = s.mode ∧
    (levelGroup rs s i).responder = s.responder ∧ (levelGroup rs s i).notices = s.notices ∧
    (levelGroup rs s i).timeBase = s.timeBase ∧ (levelGroup rs s i).pending = s.pending ∧
    (levelGroup rs s i).handed = s.handed := by
  generalize ht : levelGroup rs s i = t
  unfold levelGroup at ht
  try dsimp only at ht
  repeat' split at ht
  all_goals (subst ht; simp only [sendLevel_frame, and_self])

@[simp] theorem settleSheet_frame (sh : Sheet) :
    (settleSheet s sh).line = s.line ∧ (settleSheet s sh).budget = s.budget ∧ (settleSheet s sh).fog = s.fog ∧
    (settleSheet s sh).zones = s.zones ∧ (settleSheet s sh).scene = s.scene ∧ (settleSheet s sh).mode = s.mode ∧
    (settleSheet s sh).responder = s.responder ∧ (settleSheet s sh).notices = s.notices ∧
    (settleSheet s sh).timeBase = s.timeBase ∧ (settleSheet s sh).pending = s.pending ∧
    (settleSheet s sh).handed = s.handed := by
  generalize ht : settleSheet s sh = t
  unfold settleSheet at ht
  try dsimp only at ht
  repeat' split at ht
  all_goals (subst ht; simp only [settleStart_frame, and_self])

@[simp] theorem copyStatus_frame (i : BufferIx) (b : Buffer) :
    (copyStatus i b s).line = s.line ∧ (copyStatus i b s).points = s.points ∧
    (copyStatus i b s).budget = s.budget ∧ (copyStatus i b s).fog = s.fog ∧ (copyStatus i b s).zones = s.zones ∧
    (copyStatus i b s).mode = s.mode ∧ (copyStatus i b s).responder = s.responder ∧
    (copyStatus i b s).notices = s.notices ∧ (copyStatus i b s).timeBase = s.timeBase ∧
    (copyStatus i b s).pending = s.pending ∧ (copyStatus i b s).handed = s.handed := by
  generalize ht : copyStatus i b s = t
  unfold copyStatus at ht
  try dsimp only at ht
  repeat' split at ht
  all_goals (subst ht; exact ⟨rfl, rfl, rfl, rfl, rfl, rfl, rfl, rfl, rfl, rfl, rfl⟩)

@[simp] theorem markCandidate_frame (n : Nat) (c : Candidate) :
    (markCandidate n s c).line = s.line ∧ (markCandidate n s c).points = s.points ∧
    (markCandidate n s c).budget = s.budget ∧ (markCandidate n s c).fog = s.fog ∧
    (markCandidate n s c).zones = s.zones ∧ (markCandidate n s c).mode = s.mode ∧
    (markCandidate n s c).responder = s.responder ∧ (markCandidate n s c).notices = s.notices ∧
    (markCandidate n s c).timeBase = s.timeBase ∧ (markCandidate n s c).pending = s.pending ∧
    (markCandidate n s c).handed = s.handed := by
  generalize ht : markCandidate n s c = t
  unfold markCandidate at ht
  try dsimp only at ht
  repeat' split at ht
  all_goals (subst ht; simp only [copyStatus_frame, and_self, setBuffer_line, setBuffer_points, setBuffer_budget,
      setBuffer_fog, setBuffer_zones, setBuffer_mode, setBuffer_responder, setBuffer_notices, setBuffer_timeBase,
      setBuffer_pending, setBuffer_handed])

@[simp] theorem levelGroup_fold (rs : Vector SearchResult 32) (l : List GroupIx) :
    (l.foldl (levelGroup rs) s).points = s.points ∧ (l.foldl (levelGroup rs) s).budget = s.budget ∧
    (l.foldl (levelGroup rs) s).fog = s.fog ∧ (l.foldl (levelGroup rs) s).zones = s.zones ∧
    (l.foldl (levelGroup rs) s).mode = s.mode ∧ (l.foldl (levelGroup rs) s).responder = s.responder ∧
    (l.foldl (levelGroup rs) s).notices = s.notices ∧ (l.foldl (levelGroup rs) s).timeBase = s.timeBase ∧
    (l.foldl (levelGroup rs) s).pending = s.pending ∧ (l.foldl (levelGroup rs) s).handed = s.handed :=
  ⟨foldl_keeps State.points (levelGroup rs) (fun s b => by simp only [levelGroup_frame]) l s,
    foldl_keeps State.budget (levelGroup rs) (fun s b => by simp only [levelGroup_frame]) l s,
    foldl_keeps State.fog (levelGroup rs) (fun s b => by simp only [levelGroup_frame]) l s,
    foldl_keeps State.zones (levelGroup rs) (fun s b => by simp only [levelGroup_frame]) l s,
    foldl_keeps State.mode (levelGroup rs) (fun s b => by simp only [levelGroup_frame]) l s,
    foldl_keeps State.responder (levelGroup rs) (fun s b => by simp only [levelGroup_frame]) l s,
    foldl_keeps State.notices (levelGroup rs) (fun s b => by simp only [levelGroup_frame]) l s,
    foldl_keeps State.timeBase (levelGroup rs) (fun s b => by simp only [levelGroup_frame]) l s,
    foldl_keeps State.pending (levelGroup rs) (fun s b => by simp only [levelGroup_frame]) l s,
    foldl_keeps State.handed (levelGroup rs) (fun s b => by simp only [levelGroup_frame]) l s⟩

@[simp] theorem markCandidate_fold (n : Nat) (l : List Candidate) :
    (l.foldl (markCandidate n) s).line = s.line ∧ (l.foldl (markCandidate n) s).points = s.points ∧
    (l.foldl (markCandidate n) s).budget = s.budget ∧ (l.foldl (markCandidate n) s).fog = s.fog ∧
    (l.foldl (markCandidate n) s).zones = s.zones ∧ (l.foldl (markCandidate n) s).mode = s.mode ∧
    (l.foldl (markCandidate n) s).responder = s.responder ∧ (l.foldl (markCandidate n) s).notices = s.notices ∧
    (l.foldl (markCandidate n) s).timeBase = s.timeBase ∧ (l.foldl (markCandidate n) s).pending = s.pending ∧
    (l.foldl (markCandidate n) s).handed = s.handed :=
  ⟨foldl_keeps State.line (markCandidate n) (fun s b => by simp only [markCandidate_frame]) l s,
    foldl_keeps State.points (markCandidate n) (fun s b => by simp only [markCandidate_frame]) l s,
    foldl_keeps State.budget (markCandidate n) (fun s b => by simp only [markCandidate_frame]) l s,
    foldl_keeps State.fog (markCandidate n) (fun s b => by simp only [markCandidate_frame]) l s,
    foldl_keeps State.zones (markCandidate n) (fun s b => by simp only [markCandidate_frame]) l s,
    foldl_keeps State.mode (markCandidate n) (fun s b => by simp only [markCandidate_frame]) l s,
    foldl_keeps State.responder (markCandidate n) (fun s b => by simp only [markCandidate_frame]) l s,
    foldl_keeps State.notices (markCandidate n) (fun s b => by simp only [markCandidate_frame]) l s,
    foldl_keeps State.timeBase (markCandidate n) (fun s b => by simp only [markCandidate_frame]) l s,
    foldl_keeps State.pending (markCandidate n) (fun s b => by simp only [markCandidate_frame]) l s,
    foldl_keeps State.handed (markCandidate n) (fun s b => by simp only [markCandidate_frame]) l s⟩

@[simp] theorem finishSearch_frame (n : Nat) :
    (finishSearch n s).budget = s.budget ∧ (finishSearch n s).fog = s.fog ∧ (finishSearch n s).zones = s.zones ∧
    (finishSearch n s).mode = s.mode ∧ (finishSearch n s).responder = s.responder ∧
    (finishSearch n s).notices = s.notices ∧ (finishSearch n s).timeBase = s.timeBase ∧
    (finishSearch n s).pending = s.pending := by
  unfold finishSearch
  simp only [levelGroup_fold, markCandidate_fold, settleSheet_frame, and_self, reportLoad_budget, reportLoad_fog,
      reportLoad_zones, reportLoad_mode, reportLoad_responder, reportLoad_notices, reportLoad_timeBase,
      reportLoad_pending]

@[simp] theorem completeSearch_frame :
    (completeSearch s).budget = s.budget ∧ (completeSearch s).fog = s.fog ∧ (completeSearch s).zones = s.zones ∧
    (completeSearch s).mode = s.mode ∧ (completeSearch s).responder = s.responder ∧
    (completeSearch s).notices = s.notices ∧ (completeSearch s).timeBase = s.timeBase ∧
    (completeSearch s).pending = s.pending := by
  generalize ht : completeSearch s = t
  unfold completeSearch at ht
  try dsimp only at ht
  repeat' split at ht
  all_goals (subst ht; simp only [finishSearch_frame, and_self])

@[simp] theorem abandonSearch_frame :
    (abandonSearch s).line = s.line ∧ (abandonSearch s).points = s.points ∧
    (abandonSearch s).budget = s.budget ∧ (abandonSearch s).fog = s.fog ∧ (abandonSearch s).zones = s.zones ∧
    (abandonSearch s).mode = s.mode ∧ (abandonSearch s).responder = s.responder ∧
    (abandonSearch s).notices = s.notices ∧ (abandonSearch s).timeBase = s.timeBase ∧
    (abandonSearch s).pending = s.pending := by
  generalize ht : abandonSearch s = t
  unfold abandonSearch at ht
  try dsimp only at ht
  repeat' split at ht
  all_goals (subst ht; exact ⟨rfl, rfl, rfl, rfl, rfl, rfl, rfl, rfl, rfl, rfl⟩)

@[simp] theorem captureStep_frame :
    (captureStep s).line = s.line ∧ (captureStep s).points = s.points ∧ (captureStep s).budget = s.budget ∧
    (captureStep s).fog = s.fog ∧ (captureStep s).zones = s.zones ∧ (captureStep s).mode = s.mode ∧
    (captureStep s).responder = s.responder ∧ (captureStep s).notices = s.notices ∧
    (captureStep s).timeBase = s.timeBase ∧ (captureStep s).pending = s.pending ∧
    (captureStep s).handed = s.handed := by
  generalize ht : captureStep s = t
  unfold captureStep at ht
  try dsimp only at ht
  all_goals (subst ht; exact ⟨rfl, rfl, rfl, rfl, rfl, rfl, rfl, rfl, rfl, rfl, rfl⟩)

@[simp] theorem startStep_frame :
    (startStep s).budget = s.budget ∧ (startStep s).fog = s.fog ∧ (startStep s).zones = s.zones ∧
    (startStep s).mode = s.mode ∧ (startStep s).responder = s.responder ∧ (startStep s).notices = s.notices ∧
    (startStep s).timeBase = s.timeBase ∧ (startStep s).pending = s.pending := by
  generalize ht : startStep s = t
  unfold startStep at ht
  try dsimp only at ht
  repeat' split at ht
  all_goals (subst ht; simp only [checkTransfers_frame, finishSearch_frame, abandonSearch_frame, captureStep_frame,
      and_self])

@[simp] theorem cutGroup_frame (sh : Sheet) (i : GroupIx) :
    (cutGroup sh s i).points = s.points ∧ (cutGroup sh s i).budget = s.budget ∧ (cutGroup sh s i).fog = s.fog ∧
    (cutGroup sh s i).zones = s.zones ∧ (cutGroup sh s i).mode = s.mode ∧
    (cutGroup sh s i).responder = s.responder ∧ (cutGroup sh s i).notices = s.notices ∧
    (cutGroup sh s i).timeBase = s.timeBase ∧ (cutGroup sh s i).pending = s.pending ∧
    (cutGroup sh s i).handed = s.handed := by
  generalize ht : cutGroup sh s i = t
  unfold cutGroup at ht
  try dsimp only at ht
  repeat' split at ht
  all_goals (subst ht; exact ⟨rfl, rfl, rfl, rfl, rfl, rfl, rfl, rfl, rfl, rfl⟩)

@[simp] theorem cutGroup_fold (sh : Sheet) (l : List GroupIx) :
    (l.foldl (cutGroup sh) s).points = s.points ∧ (l.foldl (cutGroup sh) s).budget = s.budget ∧
    (l.foldl (cutGroup sh) s).fog = s.fog ∧ (l.foldl (cutGroup sh) s).zones = s.zones ∧
    (l.foldl (cutGroup sh) s).mode = s.mode ∧ (l.foldl (cutGroup sh) s).responder = s.responder ∧
    (l.foldl (cutGroup sh) s).notices = s.notices ∧ (l.foldl (cutGroup sh) s).timeBase = s.timeBase ∧
    (l.foldl (cutGroup sh) s).pending = s.pending ∧ (l.foldl (cutGroup sh) s).handed = s.handed :=
  ⟨foldl_keeps State.points (cutGroup sh) (fun s b => by simp only [cutGroup_frame]) l s,
    foldl_keeps State.budget (cutGroup sh) (fun s b => by simp only [cutGroup_frame]) l s,
    foldl_keeps State.fog (cutGroup sh) (fun s b => by simp only [cutGroup_frame]) l s,
    foldl_keeps State.zones (cutGroup sh) (fun s b => by simp only [cutGroup_frame]) l s,
    foldl_keeps State.mode (cutGroup sh) (fun s b => by simp only [cutGroup_frame]) l s,
    foldl_keeps State.responder (cutGroup sh) (fun s b => by simp only [cutGroup_frame]) l s,
    foldl_keeps State.notices (cutGroup sh) (fun s b => by simp only [cutGroup_frame]) l s,
    foldl_keeps State.timeBase (cutGroup sh) (fun s b => by simp only [cutGroup_frame]) l s,
    foldl_keeps State.pending (cutGroup sh) (fun s b => by simp only [cutGroup_frame]) l s,
    foldl_keeps State.handed (cutGroup sh) (fun s b => by simp only [cutGroup_frame]) l s⟩

@[simp] theorem cutHaze_frame (sh : Sheet) :
    (cutHaze sh s).points = s.points ∧ (cutHaze sh s).budget = s.budget ∧ (cutHaze sh s).fog = s.fog ∧
    (cutHaze sh s).zones = s.zones ∧ (cutHaze sh s).mode = s.mode ∧ (cutHaze sh s).responder = s.responder ∧
    (cutHaze sh s).notices = s.notices ∧ (cutHaze sh s).timeBase = s.timeBase ∧
    (cutHaze sh s).pending = s.pending := by
  unfold cutHaze
  simp only [cutGroup_fold, and_self, reportLoad_points, reportLoad_budget, reportLoad_fog, reportLoad_zones,
      reportLoad_mode, reportLoad_responder, reportLoad_notices, reportLoad_timeBase, reportLoad_pending]

@[simp] theorem loadZone_frame (i : ZoneIx) (d : ZoneDef) :
    (loadZone i d s).points = s.points ∧ (loadZone i d s).budget = s.budget ∧ (loadZone i d s).fog = s.fog ∧
    (loadZone i d s).scene = s.scene ∧ (loadZone i d s).mode = s.mode ∧
    (loadZone i d s).responder = s.responder ∧ (loadZone i d s).notices = s.notices ∧
    (loadZone i d s).timeBase = s.timeBase ∧ (loadZone i d s).pending = s.pending ∧
    (loadZone i d s).handed = s.handed := by
  generalize ht : loadZone i d s = t
  unfold loadZone at ht
  try dsimp only at ht
  all_goals (subst ht; exact ⟨rfl, rfl, rfl, rfl, rfl, rfl, rfl, rfl, rfl, rfl⟩)

@[simp] theorem loadConsumer_frame (i : ConsumerIx) (d : ConsumerDef) :
    (loadConsumer i d s).points = s.points ∧ (loadConsumer i d s).fog = s.fog ∧
    (loadConsumer i d s).zones = s.zones ∧ (loadConsumer i d s).scene = s.scene ∧
    (loadConsumer i d s).mode = s.mode ∧ (loadConsumer i d s).responder = s.responder ∧
    (loadConsumer i d s).notices = s.notices ∧ (loadConsumer i d s).timeBase = s.timeBase ∧
    (loadConsumer i d s).pending = s.pending ∧ (loadConsumer i d s).handed = s.handed := by
  generalize ht : loadConsumer i d s = t
  unfold loadConsumer at ht
  try dsimp only at ht
  all_goals (subst ht; exact ⟨rfl, rfl, rfl, rfl, rfl, rfl, rfl, rfl, rfl, rfl⟩)

@[simp] theorem loadGroup_frame (i : GroupIx) (d : GroupDef) :
    (loadGroup i d s).points = s.points ∧ (loadGroup i d s).budget = s.budget ∧ (loadGroup i d s).fog = s.fog ∧
    (loadGroup i d s).zones = s.zones ∧ (loadGroup i d s).mode = s.mode ∧
    (loadGroup i d s).responder = s.responder ∧ (loadGroup i d s).notices = s.notices ∧
    (loadGroup i d s).timeBase = s.timeBase ∧ (loadGroup i d s).pending = s.pending ∧
    (loadGroup i d s).handed = s.handed := by
  generalize ht : loadGroup i d s = t
  unfold loadGroup at ht
  try dsimp only at ht
  all_goals (subst ht; exact ⟨rfl, rfl, rfl, rfl, rfl, rfl, rfl, rfl, rfl, rfl⟩)

@[simp] theorem admitGroup_frame (i : GroupIx) (g : Group) :
    (admitGroup i g s).points = s.points ∧ (admitGroup i g s).budget = s.budget ∧
    (admitGroup i g s).fog = s.fog ∧ (admitGroup i g s).zones = s.zones ∧ (admitGroup i g s).mode = s.mode ∧
    (admitGroup i g s).responder = s.responder ∧ (admitGroup i g s).notices = s.notices ∧
    (admitGroup i g s).timeBase = s.timeBase ∧ (admitGroup i g s).pending = s.pending ∧
    (admitGroup i g s).handed = s.handed := by
  generalize ht : admitGroup i g s = t
  unfold admitGroup at ht
  try dsimp only at ht
  repeat' split at ht
  all_goals (subst ht; exact ⟨rfl, rfl, rfl, rfl, rfl, rfl, rfl, rfl, rfl, rfl⟩)

@[simp] theorem changeMode_frame (w c : Nat) (m : Mode) :
    (changeMode w c m s).line = s.line ∧ (changeMode w c m s).points = s.points ∧
    (changeMode w c m s).budget = s.budget ∧ (changeMode w c m s).fog = s.fog ∧
    (changeMode w c m s).zones = s.zones ∧ (changeMode w c m s).scene = s.scene ∧
    (changeMode w c m s).responder = s.responder ∧ (changeMode w c m s).notices = s.notices ∧
    (changeMode w c m s).timeBase = s.timeBase ∧ (changeMode w c m s).pending = s.pending := by
  generalize ht : changeMode w c m s = t
  unfold changeMode at ht
  try dsimp only at ht
  all_goals (subst ht; exact ⟨rfl, rfl, rfl, rfl, rfl, rfl, rfl, rfl, rfl, rfl⟩)

@[simp] theorem takeReport_frame (i : PointIx) (v : Int) :
    (takeReport i v s).line = s.line ∧ (takeReport i v s).points = s.points ∧
    (takeReport i v s).budget = s.budget ∧ (takeReport i v s).fog = s.fog ∧ (takeReport i v s).zones = s.zones ∧
    (takeReport i v s).scene = s.scene ∧ (takeReport i v s).responder = s.responder ∧
    (takeReport i v s).notices = s.notices ∧ (takeReport i v s).timeBase = s.timeBase ∧
    (takeReport i v s).pending = s.pending := by
  generalize ht : takeReport i v s = t
  unfold takeReport at ht
  try dsimp only at ht
  repeat' split at ht
  all_goals (subst ht; simp only [changeMode_frame, and_self])

@[simp] theorem enterMode_frame (m : Mode) :
    (enterMode m s).line = s.line ∧ (enterMode m s).points = s.points ∧ (enterMode m s).budget = s.budget ∧
    (enterMode m s).fog = s.fog ∧ (enterMode m s).zones = s.zones ∧ (enterMode m s).scene = s.scene ∧
    (enterMode m s).responder = s.responder ∧ (enterMode m s).notices = s.notices ∧
    (enterMode m s).timeBase = s.timeBase ∧ (enterMode m s).pending = s.pending := by
  generalize ht : enterMode m s = t
  unfold enterMode at ht
  try dsimp only at ht
  repeat' split at ht
  all_goals (subst ht; simp only [changeMode_frame, and_self])

@[simp] theorem loadProfile_frame (m : Mode) (p : Profile) :
    (loadProfile m p s).line = s.line ∧ (loadProfile m p s).points = s.points ∧
    (loadProfile m p s).budget = s.budget ∧ (loadProfile m p s).fog = s.fog ∧
    (loadProfile m p s).zones = s.zones ∧ (loadProfile m p s).scene = s.scene ∧
    (loadProfile m p s).responder = s.responder ∧ (loadProfile m p s).notices = s.notices ∧
    (loadProfile m p s).timeBase = s.timeBase ∧ (loadProfile m p s).pending = s.pending := by
  generalize ht : loadProfile m p s = t
  unfold loadProfile at ht
  try dsimp only at ht
  repeat' split at ht
  all_goals (subst ht; exact ⟨rfl, rfl, rfl, rfl, rfl, rfl, rfl, rfl, rfl, rfl⟩)

@[simp] theorem statusPeriod_frame :
    (statusPeriod s).points = s.points ∧ (statusPeriod s).budget = s.budget ∧ (statusPeriod s).fog = s.fog ∧
    (statusPeriod s).zones = s.zones ∧ (statusPeriod s).scene = s.scene ∧ (statusPeriod s).mode = s.mode ∧
    (statusPeriod s).responder = s.responder ∧ (statusPeriod s).timeBase = s.timeBase ∧
    (statusPeriod s).pending = s.pending ∧ (statusPeriod s).handed = s.handed := by
  generalize ht : statusPeriod s = t
  unfold statusPeriod at ht
  try dsimp only at ht
  repeat' split at ht
  all_goals (subst ht; exact ⟨rfl, rfl, rfl, rfl, rfl, rfl, rfl, rfl, rfl, rfl⟩)

@[simp] theorem lineActivity_frame :
    (lineActivity s).points = s.points ∧ (lineActivity s).budget = s.budget ∧ (lineActivity s).fog = s.fog ∧
    (lineActivity s).zones = s.zones ∧ (lineActivity s).scene = s.scene ∧ (lineActivity s).mode = s.mode ∧
    (lineActivity s).responder = s.responder ∧ (lineActivity s).notices = s.notices ∧
    (lineActivity s).timeBase = s.timeBase ∧ (lineActivity s).pending = s.pending := by
  generalize ht : lineActivity s = t
  unfold lineActivity at ht
  try dsimp only at ht
  repeat' split at ht
  all_goals (subst ht; exact ⟨rfl, rfl, rfl, rfl, rfl, rfl, rfl, rfl, rfl, rfl⟩)

@[simp] theorem silenceExpiry_frame :
    (silenceExpiry s).points = s.points ∧ (silenceExpiry s).budget = s.budget ∧ (silenceExpiry s).fog = s.fog ∧
    (silenceExpiry s).zones = s.zones ∧ (silenceExpiry s).scene = s.scene ∧ (silenceExpiry s).mode = s.mode ∧
    (silenceExpiry s).responder = s.responder ∧ (silenceExpiry s).notices = s.notices ∧
    (silenceExpiry s).timeBase = s.timeBase ∧ (silenceExpiry s).pending = s.pending := by
  generalize ht : silenceExpiry s = t
  unfold silenceExpiry at ht
  try dsimp only at ht
  repeat' split at ht
  all_goals (subst ht; exact ⟨rfl, rfl, rfl, rfl, rfl, rfl, rfl, rfl, rfl, rfl⟩)

@[simp] theorem wakeExpiry_frame :
    (wakeExpiry s).points = s.points ∧ (wakeExpiry s).budget = s.budget ∧ (wakeExpiry s).fog = s.fog ∧
    (wakeExpiry s).zones = s.zones ∧ (wakeExpiry s).scene = s.scene ∧ (wakeExpiry s).mode = s.mode ∧
    (wakeExpiry s).responder = s.responder ∧ (wakeExpiry s).notices = s.notices ∧
    (wakeExpiry s).timeBase = s.timeBase ∧ (wakeExpiry s).pending = s.pending ∧ (wakeExpiry s).handed = s.handed := by
  generalize ht : wakeExpiry s = t
  unfold wakeExpiry at ht
  try dsimp only at ht
  repeat' split at ht
  all_goals (subst ht; exact ⟨rfl, rfl, rfl, rfl, rfl, rfl, rfl, rfl, rfl, rfl, rfl⟩)

@[simp] theorem overrun_frame :
    (overrun s).points = s.points ∧ (overrun s).budget = s.budget ∧ (overrun s).fog = s.fog ∧
    (overrun s).zones = s.zones ∧ (overrun s).scene = s.scene ∧ (overrun s).mode = s.mode ∧
    (overrun s).responder = s.responder ∧ (overrun s).notices = s.notices ∧ (overrun s).timeBase = s.timeBase ∧
    (overrun s).pending = s.pending := by
  generalize ht : overrun s = t
  unfold overrun at ht
  try dsimp only at ht
  repeat' split at ht
  all_goals (subst ht; exact ⟨rfl, rfl, rfl, rfl, rfl, rfl, rfl, rfl, rfl, rfl⟩)

@[simp] theorem forwardUnread_frame (fr : List Byte) :
    (forwardUnread fr s).points = s.points ∧ (forwardUnread fr s).budget = s.budget ∧
    (forwardUnread fr s).fog = s.fog ∧ (forwardUnread fr s).zones = s.zones ∧
    (forwardUnread fr s).scene = s.scene ∧ (forwardUnread fr s).mode = s.mode ∧
    (forwardUnread fr s).responder = s.responder ∧ (forwardUnread fr s).notices = s.notices ∧
    (forwardUnread fr s).timeBase = s.timeBase ∧ (forwardUnread fr s).pending = s.pending := by
  generalize ht : forwardUnread fr s = t
  unfold forwardUnread at ht
  try dsimp only at ht
  repeat' split at ht
  all_goals (subst ht; simp only [overrun_frame, and_self, forwardFrame_points, forwardFrame_budget,
      forwardFrame_fog, forwardFrame_zones, forwardFrame_scene, forwardFrame_mode, forwardFrame_responder,
      forwardFrame_notices, forwardFrame_timeBase, forwardFrame_pending])

@[simp] theorem passConsumer_frame (i : ConsumerIx) (d : Bool) (v : Nat) (b : Bool) :
    (passConsumer i d v b s).state.line = s.line ∧ (passConsumer i d v b s).state.points = s.points ∧
    (passConsumer i d v b s).state.fog = s.fog ∧ (passConsumer i d v b s).state.zones = s.zones ∧
    (passConsumer i d v b s).state.scene = s.scene ∧ (passConsumer i d v b s).state.mode = s.mode ∧
    (passConsumer i d v b s).state.responder = s.responder ∧
    (passConsumer i d v b s).state.notices = s.notices ∧ (passConsumer i d v b s).state.timeBase = s.timeBase ∧
    (passConsumer i d v b s).state.pending = s.pending ∧ (passConsumer i d v b s).state.handed = s.handed := by
  generalize ht : passConsumer i d v b s = t
  unfold passConsumer at ht
  try dsimp only at ht
  repeat' split at ht
  all_goals (subst ht; exact ⟨rfl, rfl, rfl, rfl, rfl, rfl, rfl, rfl, rfl, rfl, rfl⟩)

@[simp] theorem passValve_frame (i : ZoneIx) (d : Bool) (v : Nat) (b : Bool) :
    (passValve i d v b s).state.line = s.line ∧ (passValve i d v b s).state.points = s.points ∧
    (passValve i d v b s).state.budget = s.budget ∧ (passValve i d v b s).state.fog = s.fog ∧
    (passValve i d v b s).state.scene = s.scene ∧ (passValve i d v b s).state.mode = s.mode ∧
    (passValve i d v b s).state.responder = s.responder ∧ (passValve i d v b s).state.notices = s.notices ∧
    (passValve i d v b s).state.timeBase = s.timeBase ∧ (passValve i d v b s).state.pending = s.pending ∧
    (passValve i d v b s).state.handed = s.handed := by
  generalize ht : passValve i d v b s = t
  unfold passValve at ht
  try dsimp only at ht
  repeat' split at ht
  all_goals (subst ht; exact ⟨rfl, rfl, rfl, rfl, rfl, rfl, rfl, rfl, rfl, rfl, rfl⟩)

@[simp] theorem passBoost_frame (i : ZoneIx) (d : Bool) (v : Nat) (b : Bool) :
    (passBoost i d v b s).state.line = s.line ∧ (passBoost i d v b s).state.points = s.points ∧
    (passBoost i d v b s).state.budget = s.budget ∧ (passBoost i d v b s).state.fog = s.fog ∧
    (passBoost i d v b s).state.scene = s.scene ∧ (passBoost i d v b s).state.mode = s.mode ∧
    (passBoost i d v b s).state.responder = s.responder ∧ (passBoost i d v b s).state.notices = s.notices ∧
    (passBoost i d v b s).state.timeBase = s.timeBase ∧ (passBoost i d v b s).state.pending = s.pending ∧
    (passBoost i d v b s).state.handed = s.handed := by
  generalize ht : passBoost i d v b s = t
  unfold passBoost at ht
  try dsimp only at ht
  repeat' split at ht
  all_goals (subst ht; exact ⟨rfl, rfl, rfl, rfl, rfl, rfl, rfl, rfl, rfl, rfl, rfl⟩)

@[simp] theorem passDimmer_frame (i : GroupIx) (v : Nat) (b : Bool) :
    (passDimmer i v b s).state.line = s.line ∧ (passDimmer i v b s).state.points = s.points ∧
    (passDimmer i v b s).state.budget = s.budget ∧ (passDimmer i v b s).state.fog = s.fog ∧
    (passDimmer i v b s).state.zones = s.zones ∧ (passDimmer i v b s).state.scene = s.scene ∧
    (passDimmer i v b s).state.mode = s.mode ∧ (passDimmer i v b s).state.responder = s.responder ∧
    (passDimmer i v b s).state.notices = s.notices ∧ (passDimmer i v b s).state.timeBase = s.timeBase ∧
    (passDimmer i v b s).state.pending = s.pending ∧ (passDimmer i v b s).state.handed = s.handed := by
  generalize ht : passDimmer i v b s = t
  unfold passDimmer at ht
  try dsimp only at ht
  repeat' split at ht
  all_goals (subst ht; exact ⟨rfl, rfl, rfl, rfl, rfl, rfl, rfl, rfl, rfl, rfl, rfl, rfl⟩)

@[simp] theorem passEntry_frame (n c : Nat) (d : Bool) (v : Nat) (b : Bool) :
    (passEntry n c d v b s).state.line = s.line ∧ (passEntry n c d v b s).state.points = s.points ∧
    (passEntry n c d v b s).state.fog = s.fog ∧ (passEntry n c d v b s).state.scene = s.scene ∧
    (passEntry n c d v b s).state.mode = s.mode ∧ (passEntry n c d v b s).state.responder = s.responder ∧
    (passEntry n c d v b s).state.notices = s.notices ∧ (passEntry n c d v b s).state.timeBase = s.timeBase ∧
    (passEntry n c d v b s).state.pending = s.pending ∧ (passEntry n c d v b s).state.handed = s.handed := by
  generalize ht : passEntry n c d v b s = t
  unfold passEntry at ht
  try dsimp only at ht
  repeat' split at ht
  all_goals (subst ht; simp only [passConsumer_frame, passValve_frame, passBoost_frame, passDimmer_frame, and_self])

@[simp] theorem rewriteEntries_frame (n : Nat) (d : Bool) (bs : List Byte) :
    (rewriteEntries n d bs s).2.line = s.line ∧ (rewriteEntries n d bs s).2.points = s.points ∧
    (rewriteEntries n d bs s).2.fog = s.fog ∧ (rewriteEntries n d bs s).2.scene = s.scene ∧
    (rewriteEntries n d bs s).2.mode = s.mode ∧ (rewriteEntries n d bs s).2.responder = s.responder ∧
    (rewriteEntries n d bs s).2.notices = s.notices ∧ (rewriteEntries n d bs s).2.timeBase = s.timeBase ∧
    (rewriteEntries n d bs s).2.pending = s.pending ∧ (rewriteEntries n d bs s).2.handed = s.handed := by
  fun_induction rewriteEntries n d bs s with
  | case1 s b hi lo rest p r ih => simpa only [p, r, passEntry_frame] using ih
  | case2 => exact ⟨rfl, rfl, rfl, rfl, rfl, rfl, rfl, rfl, rfl, rfl⟩

@[simp] theorem passCommand_frame (fr : List Byte) (d : Bool) :
    (passCommand fr d s).points = s.points ∧ (passCommand fr d s).fog = s.fog ∧
    (passCommand fr d s).scene = s.scene ∧ (passCommand fr d s).mode = s.mode ∧
    (passCommand fr d s).responder = s.responder ∧ (passCommand fr d s).notices = s.notices ∧
    (passCommand fr d s).timeBase = s.timeBase ∧ (passCommand fr d s).pending = s.pending ∧
    (passCommand fr d s).handed = s.handed := by
  generalize ht : passCommand fr d s = t
  unfold passCommand at ht
  try dsimp only at ht
  all_goals (subst ht; simp only [rewriteEntries_frame, and_self, forwardFrame_points, forwardFrame_fog,
      forwardFrame_scene, forwardFrame_mode, forwardFrame_responder, forwardFrame_notices, forwardFrame_timeBase,
      forwardFrame_pending, forwardFrame_handed])

@[simp] theorem placeReply_frame (i : SlotIx) (n : Nat) (p : List Byte) (b : Bool) :
    (placeReply i n p b s).points = s.points ∧ (placeReply i n p b s).budget = s.budget ∧
    (placeReply i n p b s).fog = s.fog ∧ (placeReply i n p b s).zones = s.zones ∧
    (placeReply i n p b s).scene = s.scene ∧ (placeReply i n p b s).mode = s.mode ∧
    (placeReply i n p b s).notices = s.notices ∧ (placeReply i n p b s).timeBase = s.timeBase ∧
    (placeReply i n p b s).pending = s.pending ∧ (placeReply i n p b s).handed = s.handed := by
  generalize ht : placeReply i n p b s = t
  unfold placeReply at ht
  try dsimp only at ht
  all_goals (subst ht; simp only [and_self, queueEntry_points, queueEntry_budget, queueEntry_fog, queueEntry_zones,
      queueEntry_scene, queueEntry_mode, queueEntry_notices, queueEntry_timeBase, queueEntry_pending,
      queueEntry_handed, setSlot_points, setSlot_budget, setSlot_fog, setSlot_zones, setSlot_scene, setSlot_mode,
      setSlot_notices, setSlot_timeBase, setSlot_pending, setSlot_handed])

@[simp] theorem stageRequest_frame (i : SlotIx) (n : Nat) (p : List Byte) (r : Req) :
    (stageRequest i n p r s).line = s.line ∧ (stageRequest i n p r s).points = s.points ∧
    (stageRequest i n p r s).budget = s.budget ∧ (stageRequest i n p r s).fog = s.fog ∧
    (stageRequest i n p r s).zones = s.zones ∧ (stageRequest i n p r s).scene = s.scene ∧
    (stageRequest i n p r s).mode = s.mode ∧ (stageRequest i n p r s).notices = s.notices ∧
    (stageRequest i n p r s).timeBase = s.timeBase ∧ (stageRequest i n p r s).pending = s.pending := by
  generalize ht : stageRequest i n p r s = t
  unfold stageRequest at ht
  try dsimp only at ht
  all_goals (subst ht; simp only [and_self, hand_line, hand_points, hand_budget, hand_fog, hand_zones, hand_scene,
      hand_mode, hand_notices, hand_timeBase, hand_pending, setSlot_line, setSlot_points, setSlot_budget,
      setSlot_fog, setSlot_zones, setSlot_scene, setSlot_mode, setSlot_notices, setSlot_timeBase, setSlot_pending])

@[simp] theorem checkIn_frame (i : SlotIx) (n : Nat) (p : List Byte) :
    (checkIn i n p s).points = s.points ∧ (checkIn i n p s).budget = s.budget ∧ (checkIn i n p s).fog = s.fog ∧
    (checkIn i n p s).zones = s.zones ∧ (checkIn i n p s).scene = s.scene ∧ (checkIn i n p s).mode = s.mode ∧
    (checkIn i n p s).notices = s.notices ∧ (checkIn i n p s).timeBase = s.timeBase ∧
    (checkIn i n p s).pending = s.pending := by
  generalize ht : checkIn i n p s = t
  unfold checkIn at ht
  try dsimp only at ht
  repeat' split at ht
  all_goals (subst ht; simp only [placeReply_frame, stageRequest_frame, and_self, refuse_state])

@[simp] theorem answerBusy_frame (n : Nat) (p : List Byte) :
    (answerBusy n p s).points = s.points ∧ (answerBusy n p s).budget = s.budget ∧
    (answerBusy n p s).fog = s.fog ∧ (answerBusy n p s).zones = s.zones ∧ (answerBusy n p s).scene = s.scene ∧
    (answerBusy n p s).mode = s.mode ∧ (answerBusy n p s).responder = s.responder ∧
    (answerBusy n p s).notices = s.notices ∧ (answerBusy n p s).timeBase = s.timeBase ∧
    (answerBusy n p s).pending = s.pending ∧ (answerBusy n p s).handed = s.handed := by
  generalize ht : answerBusy n p s = t
  unfold answerBusy at ht
  try dsimp only at ht
  repeat' split at ht
  all_goals (subst ht; exact ⟨rfl, rfl, rfl, rfl, rfl, rfl, rfl, rfl, rfl, rfl, rfl⟩)

@[simp] theorem offerRequest_frame (n : Nat) (p : List Byte) :
    (offerRequest n p s).points = s.points ∧ (offerRequest n p s).budget = s.budget ∧
    (offerRequest n p s).fog = s.fog ∧ (offerRequest n p s).zones = s.zones ∧
    (offerRequest n p s).scene = s.scene ∧ (offerRequest n p s).mode = s.mode ∧
    (offerRequest n p s).notices = s.notices ∧ (offerRequest n p s).timeBase = s.timeBase ∧
    (offerRequest n p s).pending = s.pending := by
  generalize ht : offerRequest n p s = t
  unfold offerRequest at ht
  try dsimp only at ht
  repeat' split at ht
  all_goals (subst ht; simp only [checkIn_frame, answerBusy_frame, and_self])

@[simp] theorem passSample_frame (fr : List Byte) (d : Bool) :
    (passSample fr d s).budget = s.budget ∧ (passSample fr d s).fog = s.fog ∧
    (passSample fr d s).zones = s.zones ∧ (passSample fr d s).scene = s.scene ∧
    (passSample fr d s).mode = s.mode ∧ (passSample fr d s).responder = s.responder ∧
    (passSample fr d s).notices = s.notices ∧ (passSample fr d s).timeBase = s.timeBase ∧
    (passSample fr d s).pending = s.pending := by
  generalize ht : passSample fr d s = t
  unfold passSample at ht
  try dsimp only at ht
  repeat' split at ht
  all_goals (subst ht; simp only [sampleEntries_frame, and_self, forwardFrame_budget, forwardFrame_fog,
      forwardFrame_zones, forwardFrame_scene, forwardFrame_mode, forwardFrame_responder, forwardFrame_notices,
      forwardFrame_timeBase, forwardFrame_pending])

@[simp] theorem dispatchForward_frame (fr : List Byte) (d : Bool) :
    (dispatchForward fr d s).fog = s.fog ∧ (dispatchForward fr d s).scene = s.scene ∧
    (dispatchForward fr d s).mode = s.mode ∧ (dispatchForward fr d s).responder = s.responder ∧
    (dispatchForward fr d s).notices = s.notices ∧ (dispatchForward fr d s).timeBase = s.timeBase ∧
    (dispatchForward fr d s).pending = s.pending := by
  generalize ht : dispatchForward fr d s = t
  unfold dispatchForward at ht
  try dsimp only at ht
  repeat' split at ht
  all_goals (subst ht; simp only [overrun_frame, passCommand_frame, passSample_frame, and_self, forwardFrame_fog,
      forwardFrame_scene, forwardFrame_mode, forwardFrame_responder, forwardFrame_notices, forwardFrame_timeBase,
      forwardFrame_pending])

@[simp] theorem dispatch_frame (fr : List Byte) (d : Bool) :
    (dispatch fr d s).fog = s.fog ∧ (dispatch fr d s).scene = s.scene ∧ (dispatch fr d s).mode = s.mode ∧
    (dispatch fr d s).notices = s.notices ∧ (dispatch fr d s).timeBase = s.timeBase ∧
    (dispatch fr d s).pending = s.pending := by
  generalize ht : dispatch fr d s = t
  unfold dispatch at ht
  try dsimp only at ht
  repeat' split at ht
  all_goals (subst ht; simp only [offerRequest_frame, dispatchForward_frame, and_self])

@[simp] theorem takeKnown_frame (fr : List Byte) :
    (takeKnown fr s).fog = s.fog ∧ (takeKnown fr s).scene = s.scene ∧ (takeKnown fr s).mode = s.mode ∧
    (takeKnown fr s).notices = s.notices ∧ (takeKnown fr s).timeBase = s.timeBase ∧
    (takeKnown fr s).pending = s.pending := by
  generalize ht : takeKnown fr s = t
  unfold takeKnown at ht
  try dsimp only at ht
  all_goals (subst ht; simp only [dispatch_frame, and_self, setNode_fog, setNode_scene, setNode_mode,
      setNode_notices, setNode_timeBase, setNode_pending])

@[simp] theorem takeGood_frame (fr : List Byte) :
    (takeGood fr s).fog = s.fog ∧ (takeGood fr s).scene = s.scene ∧ (takeGood fr s).mode = s.mode ∧
    (takeGood fr s).notices = s.notices ∧ (takeGood fr s).timeBase = s.timeBase ∧
    (takeGood fr s).pending = s.pending := by
  generalize ht : takeGood fr s = t
  unfold takeGood at ht
  try dsimp only at ht
  repeat' split at ht
  all_goals (subst ht; simp only [forwardUnread_frame, takeKnown_frame, and_self])

@[simp] theorem arrive_frame (fr : List Byte) :
    (arrive fr s).fog = s.fog ∧ (arrive fr s).scene = s.scene ∧ (arrive fr s).mode = s.mode ∧
    (arrive fr s).notices = s.notices ∧ (arrive fr s).timeBase = s.timeBase ∧ (arrive fr s).pending = s.pending := by
  generalize ht : arrive fr s = t
  unfold arrive at ht
  try dsimp only at ht
  repeat' split at ht
  all_goals (subst ht; simp only [lineActivity_frame, takeGood_frame, and_self])

@[simp] theorem clearCause_frame :
    (clearCause s).line = s.line ∧ (clearCause s).points = s.points ∧ (clearCause s).budget = s.budget ∧
    (clearCause s).fog = s.fog ∧ (clearCause s).zones = s.zones ∧ (clearCause s).scene = s.scene ∧
    (clearCause s).mode = s.mode ∧ (clearCause s).responder = s.responder ∧
    (clearCause s).timeBase = s.timeBase ∧ (clearCause s).pending = s.pending ∧ (clearCause s).handed = s.handed := by
  generalize ht : clearCause s = t
  unfold clearCause at ht
  try dsimp only at ht
  repeat' split at ht
  all_goals (subst ht; exact ⟨rfl, rfl, rfl, rfl, rfl, rfl, rfl, rfl, rfl, rfl, rfl⟩)

@[simp] theorem setRights_frame (n : Nat) (r : Rights) :
    (setRights n r s).points = s.points ∧ (setRights n r s).budget = s.budget ∧ (setRights n r s).fog = s.fog ∧
    (setRights n r s).zones = s.zones ∧ (setRights n r s).scene = s.scene ∧ (setRights n r s).mode = s.mode ∧
    (setRights n r s).responder = s.responder ∧ (setRights n r s).notices = s.notices ∧
    (setRights n r s).timeBase = s.timeBase ∧ (setRights n r s).pending = s.pending ∧
    (setRights n r s).handed = s.handed := by
  generalize ht : setRights n r s = t
  unfold setRights at ht
  try dsimp only at ht
  all_goals (subst ht; exact ⟨rfl, rfl, rfl, rfl, rfl, rfl, rfl, rfl, rfl, rfl, rfl⟩)

@[simp] theorem restartCaps_frame (sh : Sheet) :
    (restartCaps sh s).points = s.points ∧ (restartCaps sh s).budget = s.budget ∧
    (restartCaps sh s).fog = s.fog ∧ (restartCaps sh s).scene = s.scene ∧ (restartCaps sh s).mode = s.mode ∧
    (restartCaps sh s).responder = s.responder ∧ (restartCaps sh s).notices = s.notices ∧
    (restartCaps sh s).timeBase = s.timeBase ∧ (restartCaps sh s).pending = s.pending ∧
    (restartCaps sh s).handed = s.handed := by
  generalize ht : restartCaps sh s = t
  unfold restartCaps at ht
  try dsimp only at ht
  all_goals (subst ht; simp only [applyCaps_frame, and_self])

@[simp] theorem restartCut_frame (sh : Sheet) :
    (restartCut sh s).points = s.points ∧ (restartCut sh s).budget = s.budget ∧ (restartCut sh s).fog = s.fog ∧
    (restartCut sh s).zones = s.zones ∧ (restartCut sh s).mode = s.mode ∧
    (restartCut sh s).responder = s.responder ∧ (restartCut sh s).notices = s.notices ∧
    (restartCut sh s).timeBase = s.timeBase ∧ (restartCut sh s).pending = s.pending := by
  generalize ht : restartCut sh s = t
  unfold restartCut at ht
  try dsimp only at ht
  repeat' split at ht
  all_goals (subst ht; simp only [cutHaze_frame, and_self])

@[simp] theorem writePoint_frame (args : List Byte) :
    (writePoint args s).state.line = s.line ∧ (writePoint args s).state.budget = s.budget ∧
    (writePoint args s).state.fog = s.fog ∧ (writePoint args s).state.zones = s.zones ∧
    (writePoint args s).state.scene = s.scene ∧ (writePoint args s).state.mode = s.mode ∧
    (writePoint args s).state.responder = s.responder ∧ (writePoint args s).state.notices = s.notices ∧
    (writePoint args s).state.timeBase = s.timeBase ∧ (writePoint args s).state.pending = s.pending ∧
    (writePoint args s).state.handed = s.handed := by
  generalize ht : writePoint args s = t
  unfold writePoint at ht
  try dsimp only at ht
  repeat' split at ht
  all_goals (subst ht; exact ⟨rfl, rfl, rfl, rfl, rfl, rfl, rfl, rfl, rfl, rfl, rfl⟩)

@[simp] theorem enablePoint_frame (args : List Byte) :
    (enablePoint args s).state.line = s.line ∧ (enablePoint args s).state.budget = s.budget ∧
    (enablePoint args s).state.fog = s.fog ∧ (enablePoint args s).state.zones = s.zones ∧
    (enablePoint args s).state.scene = s.scene ∧ (enablePoint args s).state.mode = s.mode ∧
    (enablePoint args s).state.responder = s.responder ∧ (enablePoint args s).state.notices = s.notices ∧
    (enablePoint args s).state.timeBase = s.timeBase ∧ (enablePoint args s).state.pending = s.pending ∧
    (enablePoint args s).state.handed = s.handed := by
  generalize ht : enablePoint args s = t
  unfold enablePoint at ht
  try dsimp only at ht
  repeat' split at ht
  all_goals (subst ht; exact ⟨rfl, rfl, rfl, rfl, rfl, rfl, rfl, rfl, rfl, rfl, rfl⟩)

@[simp] theorem disablePoint_frame (args : List Byte) :
    (disablePoint args s).state.line = s.line ∧ (disablePoint args s).state.budget = s.budget ∧
    (disablePoint args s).state.fog = s.fog ∧ (disablePoint args s).state.zones = s.zones ∧
    (disablePoint args s).state.scene = s.scene ∧ (disablePoint args s).state.mode = s.mode ∧
    (disablePoint args s).state.responder = s.responder ∧ (disablePoint args s).state.notices = s.notices ∧
    (disablePoint args s).state.timeBase = s.timeBase ∧ (disablePoint args s).state.pending = s.pending := by
  generalize ht : disablePoint args s = t
  unfold disablePoint at ht
  try dsimp only at ht
  repeat' split at ht
  all_goals (subst ht; simp only [collapseFollowers_frame, and_self, setPoint_line, setPoint_budget, setPoint_fog,
      setPoint_zones, setPoint_scene, setPoint_mode, setPoint_responder, setPoint_notices, setPoint_timeBase,
      setPoint_pending, refuse_state, done_state])

@[simp] theorem clearSubstitute_frame (args : List Byte) :
    (clearSubstitute args s).state.line = s.line ∧ (clearSubstitute args s).state.budget = s.budget ∧
    (clearSubstitute args s).state.fog = s.fog ∧ (clearSubstitute args s).state.zones = s.zones ∧
    (clearSubstitute args s).state.scene = s.scene ∧ (clearSubstitute args s).state.mode = s.mode ∧
    (clearSubstitute args s).state.responder = s.responder ∧
    (clearSubstitute args s).state.notices = s.notices ∧ (clearSubstitute args s).state.timeBase = s.timeBase ∧
    (clearSubstitute args s).state.pending = s.pending ∧ (clearSubstitute args s).state.handed = s.handed := by
  generalize ht : clearSubstitute args s = t
  unfold clearSubstitute at ht
  try dsimp only at ht
  repeat' split at ht
  all_goals (subst ht; exact ⟨rfl, rfl, rfl, rfl, rfl, rfl, rfl, rfl, rfl, rfl, rfl⟩)

@[simp] theorem writeRecovery_frame (args : List Byte) :
    (writeRecovery args s).state.line = s.line ∧ (writeRecovery args s).state.points = s.points ∧
    (writeRecovery args s).state.fog = s.fog ∧ (writeRecovery args s).state.zones = s.zones ∧
    (writeRecovery args s).state.scene = s.scene ∧ (writeRecovery args s).state.mode = s.mode ∧
    (writeRecovery args s).state.responder = s.responder ∧ (writeRecovery args s).state.notices = s.notices ∧
    (writeRecovery args s).state.timeBase = s.timeBase ∧ (writeRecovery args s).state.pending = s.pending := by
  generalize ht : writeRecovery args s = t
  unfold writeRecovery at ht
  try dsimp only at ht
  repeat' split at ht
  all_goals (subst ht; exact ⟨rfl, rfl, rfl, rfl, rfl, rfl, rfl, rfl, rfl, rfl⟩)

@[simp] theorem writeConsumer_frame (args : List Byte) :
    (writeConsumer args s).state.points = s.points ∧ (writeConsumer args s).state.fog = s.fog ∧
    (writeConsumer args s).state.zones = s.zones ∧ (writeConsumer args s).state.scene = s.scene ∧
    (writeConsumer args s).state.mode = s.mode ∧ (writeConsumer args s).state.responder = s.responder ∧
    (writeConsumer args s).state.notices = s.notices ∧ (writeConsumer args s).state.timeBase = s.timeBase ∧
    (writeConsumer args s).state.pending = s.pending := by
  generalize ht : writeConsumer args s = t
  unfold writeConsumer at ht
  try dsimp only at ht
  repeat' split at ht
  all_goals (subst ht; simp [hand])

@[simp] theorem enableConsumer_frame (args : List Byte) :
    (enableConsumer args s).state.line = s.line ∧ (enableConsumer args s).state.points = s.points ∧
    (enableConsumer args s).state.fog = s.fog ∧ (enableConsumer args s).state.zones = s.zones ∧
    (enableConsumer args s).state.scene = s.scene ∧ (enableConsumer args s).state.mode = s.mode ∧
    (enableConsumer args s).state.responder = s.responder ∧ (enableConsumer args s).state.notices = s.notices ∧
    (enableConsumer args s).state.timeBase = s.timeBase ∧ (enableConsumer args s).state.pending = s.pending := by
  generalize ht : enableConsumer args s = t
  unfold enableConsumer at ht
  try dsimp only at ht
  repeat' split at ht
  all_goals (subst ht; exact ⟨rfl, rfl, rfl, rfl, rfl, rfl, rfl, rfl, rfl, rfl⟩)

@[simp] theorem disableConsumer_frame (args : List Byte) :
    (disableConsumer args s).state.line = s.line ∧ (disableConsumer args s).state.points = s.points ∧
    (disableConsumer args s).state.fog = s.fog ∧ (disableConsumer args s).state.zones = s.zones ∧
    (disableConsumer args s).state.scene = s.scene ∧ (disableConsumer args s).state.mode = s.mode ∧
    (disableConsumer args s).state.responder = s.responder ∧
    (disableConsumer args s).state.notices = s.notices ∧ (disableConsumer args s).state.timeBase = s.timeBase ∧
    (disableConsumer args s).state.pending = s.pending := by
  generalize ht : disableConsumer args s = t
  unfold disableConsumer at ht
  try dsimp only at ht
  repeat' split at ht
  all_goals (subst ht; exact ⟨rfl, rfl, rfl, rfl, rfl, rfl, rfl, rfl, rfl, rfl⟩)

@[simp] theorem loadDewTable_frame (args : List Byte) :
    (loadDewTable args s).state.line = s.line ∧ (loadDewTable args s).state.points = s.points ∧
    (loadDewTable args s).state.budget = s.budget ∧ (loadDewTable args s).state.zones = s.zones ∧
    (loadDewTable args s).state.scene = s.scene ∧ (loadDewTable args s).state.mode = s.mode ∧
    (loadDewTable args s).state.responder = s.responder ∧ (loadDewTable args s).state.notices = s.notices ∧
    (loadDewTable args s).state.timeBase = s.timeBase ∧ (loadDewTable args s).state.pending = s.pending ∧
    (loadDewTable args s).state.handed = s.handed := by
  generalize ht : loadDewTable args s = t
  unfold loadDewTable at ht
  try dsimp only at ht
  repeat' split at ht
  all_goals (subst ht; exact ⟨rfl, rfl, rfl, rfl, rfl, rfl, rfl, rfl, rfl, rfl, rfl⟩)

@[simp] theorem writeSheet_frame (args : List Byte) :
    (writeSheet args s).state.line = s.line ∧ (writeSheet args s).state.points = s.points ∧
    (writeSheet args s).state.budget = s.budget ∧ (writeSheet args s).state.zones = s.zones ∧
    (writeSheet args s).state.scene = s.scene ∧ (writeSheet args s).state.mode = s.mode ∧
    (writeSheet args s).state.responder = s.responder ∧ (writeSheet args s).state.notices = s.notices ∧
    (writeSheet args s).state.timeBase = s.timeBase ∧ (writeSheet args s).state.pending = s.pending ∧
    (writeSheet args s).state.handed = s.handed := by
  generalize ht : writeSheet args s = t
  unfold writeSheet at ht
  try dsimp only at ht
  repeat' split at ht
  all_goals (subst ht; simp only [and_self, setSheet_line, setSheet_points, setSheet_budget, setSheet_zones,
      setSheet_scene, setSheet_mode, setSheet_responder, setSheet_notices, setSheet_timeBase, setSheet_pending,
      setSheet_handed, refuse_state, done_state])

@[simp] theorem enableFog_frame (args : List Byte) :
    (enableFog args s).state.line = s.line ∧ (enableFog args s).state.points = s.points ∧
    (enableFog args s).state.budget = s.budget ∧ (enableFog args s).state.zones = s.zones ∧
    (enableFog args s).state.scene = s.scene ∧ (enableFog args s).state.mode = s.mode ∧
    (enableFog args s).state.responder = s.responder ∧ (enableFog args s).state.notices = s.notices ∧
    (enableFog args s).state.timeBase = s.timeBase ∧ (enableFog args s).state.pending = s.pending := by
  generalize ht : enableFog args s = t
  unfold enableFog at ht
  try dsimp only at ht
  repeat' split at ht
  all_goals (subst ht; simp only [startFog_frame, and_self, refuse_state, done_state])

@[simp] theorem disableFog_frame (args : List Byte) :
    (disableFog args s).state.line = s.line ∧ (disableFog args s).state.points = s.points ∧
    (disableFog args s).state.budget = s.budget ∧ (disableFog args s).state.zones = s.zones ∧
    (disableFog args s).state.scene = s.scene ∧ (disableFog args s).state.mode = s.mode ∧
    (disableFog args s).state.responder = s.responder ∧ (disableFog args s).state.notices = s.notices ∧
    (disableFog args s).state.timeBase = s.timeBase ∧ (disableFog args s).state.pending = s.pending := by
  generalize ht : disableFog args s = t
  unfold disableFog at ht
  try dsimp only at ht
  repeat' split at ht
  all_goals (subst ht; simp only [stopFog_frame, and_self, refuse_state, done_state])

@[simp] theorem writeFogCaps_frame (args : List Byte) :
    (writeFogCaps args s).state.line = s.line ∧ (writeFogCaps args s).state.points = s.points ∧
    (writeFogCaps args s).state.budget = s.budget ∧ (writeFogCaps args s).state.zones = s.zones ∧
    (writeFogCaps args s).state.scene = s.scene ∧ (writeFogCaps args s).state.mode = s.mode ∧
    (writeFogCaps args s).state.responder = s.responder ∧ (writeFogCaps args s).state.notices = s.notices ∧
    (writeFogCaps args s).state.timeBase = s.timeBase ∧ (writeFogCaps args s).state.pending = s.pending := by
  generalize ht : writeFogCaps args s = t
  unfold writeFogCaps at ht
  try dsimp only at ht
  repeat' split at ht
  all_goals (subst ht; exact ⟨rfl, rfl, rfl, rfl, rfl, rfl, rfl, rfl, rfl, rfl⟩)

@[simp] theorem writeZone_frame (args : List Byte) :
    (writeZone args s).state.points = s.points ∧ (writeZone args s).state.budget = s.budget ∧
    (writeZone args s).state.fog = s.fog ∧ (writeZone args s).state.scene = s.scene ∧
    (writeZone args s).state.mode = s.mode ∧ (writeZone args s).state.responder = s.responder ∧
    (writeZone args s).state.notices = s.notices ∧ (writeZone args s).state.timeBase = s.timeBase ∧
    (writeZone args s).state.pending = s.pending ∧ (writeZone args s).state.handed = s.handed := by
  generalize ht : writeZone args s = t
  unfold writeZone at ht
  try dsimp only at ht
  repeat' split at ht
  all_goals (subst ht; simp only [loadZone_frame, and_self, refuse_state, done_state])

@[simp] theorem enableZone_frame (args : List Byte) :
    (enableZone args s).state.line = s.line ∧ (enableZone args s).state.points = s.points ∧
    (enableZone args s).state.budget = s.budget ∧ (enableZone args s).state.fog = s.fog ∧
    (enableZone args s).state.scene = s.scene ∧ (enableZone args s).state.mode = s.mode ∧
    (enableZone args s).state.responder = s.responder ∧ (enableZone args s).state.notices = s.notices ∧
    (enableZone args s).state.timeBase = s.timeBase ∧ (enableZone args s).state.pending = s.pending := by
  generalize ht : enableZone args s = t
  unfold enableZone at ht
  try dsimp only at ht
  repeat' split at ht
  all_goals (subst ht; exact ⟨rfl, rfl, rfl, rfl, rfl, rfl, rfl, rfl, rfl, rfl⟩)

@[simp] theorem disableZone_frame (args : List Byte) :
    (disableZone args s).state.line = s.line ∧ (disableZone args s).state.points = s.points ∧
    (disableZone args s).state.budget = s.budget ∧ (disableZone args s).state.fog = s.fog ∧
    (disableZone args s).state.scene = s.scene ∧ (disableZone args s).state.mode = s.mode ∧
    (disableZone args s).state.responder = s.responder ∧ (disableZone args s).state.notices = s.notices ∧
    (disableZone args s).state.timeBase = s.timeBase ∧ (disableZone args s).state.pending = s.pending := by
  generalize ht : disableZone args s = t
  unfold disableZone at ht
  try dsimp only at ht
  repeat' split at ht
  all_goals (subst ht; exact ⟨rfl, rfl, rfl, rfl, rfl, rfl, rfl, rfl, rfl, rfl⟩)

@[simp] theorem configureBuffer_frame (args : List Byte) :
    (configureBuffer args s).state.line = s.line ∧ (configureBuffer args s).state.points = s.points ∧
    (configureBuffer args s).state.budget = s.budget ∧ (configureBuffer args s).state.fog = s.fog ∧
    (configureBuffer args s).state.zones = s.zones ∧ (configureBuffer args s).state.mode = s.mode ∧
    (configureBuffer args s).state.responder = s.responder ∧
    (configureBuffer args s).state.notices = s.notices ∧ (configureBuffer args s).state.timeBase = s.timeBase ∧
    (configureBuffer args s).state.pending = s.pending ∧ (configureBuffer args s).state.handed = s.handed := by
  generalize ht : configureBuffer args s = t
  unfold configureBuffer at ht
  try dsimp only at ht
  repeat' split at ht
  all_goals (subst ht; simp only [configure_frame, and_self, refuse_state, done_state])

@[simp] theorem lockBuffer_frame (args : List Byte) :
    (lockBuffer args s).state.line = s.line ∧ (lockBuffer args s).state.points = s.points ∧
    (lockBuffer args s).state.budget = s.budget ∧ (lockBuffer args s).state.fog = s.fog ∧
    (lockBuffer args s).state.zones = s.zones ∧ (lockBuffer args s).state.mode = s.mode ∧
    (lockBuffer args s).state.responder = s.responder ∧ (lockBuffer args s).state.notices = s.notices ∧
    (lockBuffer args s).state.timeBase = s.timeBase ∧ (lockBuffer args s).state.pending = s.pending ∧
    (lockBuffer args s).state.handed = s.handed := by
  generalize ht : lockBuffer args s = t
  unfold lockBuffer at ht
  try dsimp only at ht
  repeat' split at ht
  all_goals (subst ht; exact ⟨rfl, rfl, rfl, rfl, rfl, rfl, rfl, rfl, rfl, rfl, rfl⟩)

@[simp] theorem unlockBuffer_frame (args : List Byte) :
    (unlockBuffer args s).state.line = s.line ∧ (unlockBuffer args s).state.points = s.points ∧
    (unlockBuffer args s).state.budget = s.budget ∧ (unlockBuffer args s).state.fog = s.fog ∧
    (unlockBuffer args s).state.zones = s.zones ∧ (unlockBuffer args s).state.mode = s.mode ∧
    (unlockBuffer args s).state.responder = s.responder ∧ (unlockBuffer args s).state.notices = s.notices ∧
    (unlockBuffer args s).state.timeBase = s.timeBase ∧ (unlockBuffer args s).state.pending = s.pending ∧
    (unlockBuffer args s).state.handed = s.handed := by
  generalize ht : unlockBuffer args s = t
  unfold unlockBuffer at ht
  try dsimp only at ht
  repeat' split at ht
  all_goals (subst ht; simp only [checkTransfers_frame, and_self, setBuffer_line, setBuffer_points,
      setBuffer_budget, setBuffer_fog, setBuffer_zones, setBuffer_mode, setBuffer_responder, setBuffer_notices,
      setBuffer_timeBase, setBuffer_pending, setBuffer_handed, refuse_state, done_state])

@[simp] theorem writeScene_frame (args : List Byte) :
    (writeScene args s).state.line = s.line ∧ (writeScene args s).state.points = s.points ∧
    (writeScene args s).state.budget = s.budget ∧ (writeScene args s).state.fog = s.fog ∧
    (writeScene args s).state.zones = s.zones ∧ (writeScene args s).state.mode = s.mode ∧
    (writeScene args s).state.responder = s.responder ∧ (writeScene args s).state.notices = s.notices ∧
    (writeScene args s).state.timeBase = s.timeBase ∧ (writeScene args s).state.pending = s.pending ∧
    (writeScene args s).state.handed = s.handed := by
  generalize ht : writeScene args s = t
  unfold writeScene at ht
  try dsimp only at ht
  repeat' split at ht
  all_goals (subst ht; exact ⟨rfl, rfl, rfl, rfl, rfl, rfl, rfl, rfl, rfl, rfl, rfl⟩)

@[simp] theorem commitBuffer_frame (args : List Byte) :
    (commitBuffer args s).state.line = s.line ∧ (commitBuffer args s).state.points = s.points ∧
    (commitBuffer args s).state.budget = s.budget ∧ (commitBuffer args s).state.fog = s.fog ∧
    (commitBuffer args s).state.zones = s.zones ∧ (commitBuffer args s).state.mode = s.mode ∧
    (commitBuffer args s).state.responder = s.responder ∧ (commitBuffer args s).state.notices = s.notices ∧
    (commitBuffer args s).state.timeBase = s.timeBase ∧ (commitBuffer args s).state.pending = s.pending ∧
    (commitBuffer args s).state.handed = s.handed := by
  generalize ht : commitBuffer args s = t
  unfold commitBuffer at ht
  try dsimp only at ht
  repeat' split at ht
  all_goals (subst ht; exact ⟨rfl, rfl, rfl, rfl, rfl, rfl, rfl, rfl, rfl, rfl, rfl⟩)

@[simp] theorem enableBuffer_frame (args : List Byte) :
    (enableBuffer args s).state.line = s.line ∧ (enableBuffer args s).state.points = s.points ∧
    (enableBuffer args s).state.budget = s.budget ∧ (enableBuffer args s).state.fog = s.fog ∧
    (enableBuffer args s).state.zones = s.zones ∧ (enableBuffer args s).state.mode = s.mode ∧
    (enableBuffer args s).state.responder = s.responder ∧ (enableBuffer args s).state.notices = s.notices ∧
    (enableBuffer args s).state.timeBase = s.timeBase ∧ (enableBuffer args s).state.pending = s.pending ∧
    (enableBuffer args s).state.handed = s.handed := by
  generalize ht : enableBuffer args s = t
  unfold enableBuffer at ht
  try dsimp only at ht
  repeat' split at ht
  all_goals (subst ht; simp only [checkTransfers_frame, bothSides_frame, and_self, setBuffer_line, setBuffer_points,
      setBuffer_budget, setBuffer_fog, setBuffer_zones, setBuffer_mode, setBuffer_responder, setBuffer_notices,
      setBuffer_timeBase, setBuffer_pending, setBuffer_handed, refuse_state, done_state])

@[simp] theorem disableBuffer_frame (args : List Byte) :
    (disableBuffer args s).state.line = s.line ∧ (disableBuffer args s).state.points = s.points ∧
    (disableBuffer args s).state.budget = s.budget ∧ (disableBuffer args s).state.fog = s.fog ∧
    (disableBuffer args s).state.zones = s.zones ∧ (disableBuffer args s).state.mode = s.mode ∧
    (disableBuffer args s).state.responder = s.responder ∧ (disableBuffer args s).state.notices = s.notices ∧
    (disableBuffer args s).state.timeBase = s.timeBase ∧ (disableBuffer args s).state.pending = s.pending ∧
    (disableBuffer args s).state.handed = s.handed := by
  generalize ht : disableBuffer args s = t
  unfold disableBuffer at ht
  try dsimp only at ht
  repeat' split at ht
  all_goals (subst ht; simp only [bothSides_frame, and_self, setBuffer_line, setBuffer_points, setBuffer_budget,
      setBuffer_fog, setBuffer_zones, setBuffer_mode, setBuffer_responder, setBuffer_notices, setBuffer_timeBase,
      setBuffer_pending, setBuffer_handed, refuse_state, done_state])

@[simp] theorem setStepPeriod_frame (args : List Byte) :
    (setStepPeriod args s).state.line = s.line ∧ (setStepPeriod args s).state.points = s.points ∧
    (setStepPeriod args s).state.budget = s.budget ∧ (setStepPeriod args s).state.fog = s.fog ∧
    (setStepPeriod args s).state.zones = s.zones ∧ (setStepPeriod args s).state.mode = s.mode ∧
    (setStepPeriod args s).state.responder = s.responder ∧ (setStepPeriod args s).state.notices = s.notices ∧
    (setStepPeriod args s).state.timeBase = s.timeBase ∧ (setStepPeriod args s).state.pending = s.pending ∧
    (setStepPeriod args s).state.handed = s.handed := by
  generalize ht : setStepPeriod args s = t
  unfold setStepPeriod at ht
  try dsimp only at ht
  repeat' split at ht
  all_goals (subst ht; exact ⟨rfl, rfl, rfl, rfl, rfl, rfl, rfl, rfl, rfl, rfl, rfl⟩)

@[simp] theorem writeGroup_frame (args : List Byte) :
    (writeGroup args s).state.points = s.points ∧ (writeGroup args s).state.budget = s.budget ∧
    (writeGroup args s).state.fog = s.fog ∧ (writeGroup args s).state.zones = s.zones ∧
    (writeGroup args s).state.mode = s.mode ∧ (writeGroup args s).state.responder = s.responder ∧
    (writeGroup args s).state.notices = s.notices ∧ (writeGroup args s).state.timeBase = s.timeBase ∧
    (writeGroup args s).state.pending = s.pending ∧ (writeGroup args s).state.handed = s.handed := by
  generalize ht : writeGroup args s = t
  unfold writeGroup at ht
  try dsimp only at ht
  repeat' split at ht
  all_goals (subst ht; simp only [loadGroup_frame, and_self, refuse_state, done_state])

@[simp] theorem enableGroup_frame (args : List Byte) :
    (enableGroup args s).state.points = s.points ∧ (enableGroup args s).state.budget = s.budget ∧
    (enableGroup args s).state.fog = s.fog ∧ (enableGroup args s).state.zones = s.zones ∧
    (enableGroup args s).state.mode = s.mode ∧ (enableGroup args s).state.responder = s.responder ∧
    (enableGroup args s).state.notices = s.notices ∧ (enableGroup args s).state.timeBase = s.timeBase ∧
    (enableGroup args s).state.pending = s.pending ∧ (enableGroup args s).state.handed = s.handed := by
  generalize ht : enableGroup args s = t
  unfold enableGroup at ht
  try dsimp only at ht
  repeat' split at ht
  all_goals (subst ht; simp only [admitGroup_frame, and_self, refuse_state, done_state])

@[simp] theorem disableGroup_frame (args : List Byte) :
    (disableGroup args s).state.line = s.line ∧ (disableGroup args s).state.points = s.points ∧
    (disableGroup args s).state.budget = s.budget ∧ (disableGroup args s).state.fog = s.fog ∧
    (disableGroup args s).state.zones = s.zones ∧ (disableGroup args s).state.mode = s.mode ∧
    (disableGroup args s).state.responder = s.responder ∧ (disableGroup args s).state.notices = s.notices ∧
    (disableGroup args s).state.timeBase = s.timeBase ∧ (disableGroup args s).state.pending = s.pending ∧
    (disableGroup args s).state.handed = s.handed := by
  generalize ht : disableGroup args s = t
  unfold disableGroup at ht
  try dsimp only at ht
  repeat' split at ht
  all_goals (subst ht; exact ⟨rfl, rfl, rfl, rfl, rfl, rfl, rfl, rfl, rfl, rfl, rfl⟩)

@[simp] theorem writeProfile_frame (args : List Byte) :
    (writeProfile args s).state.line = s.line ∧ (writeProfile args s).state.points = s.points ∧
    (writeProfile args s).state.budget = s.budget ∧ (writeProfile args s).state.fog = s.fog ∧
    (writeProfile args s).state.zones = s.zones ∧ (writeProfile args s).state.scene = s.scene ∧
    (writeProfile args s).state.responder = s.responder ∧ (writeProfile args s).state.notices = s.notices ∧
    (writeProfile args s).state.timeBase = s.timeBase ∧ (writeProfile args s).state.pending = s.pending := by
  generalize ht : writeProfile args s = t
  unfold writeProfile at ht
  try dsimp only at ht
  repeat' split at ht
  all_goals (subst ht; simp only [loadProfile_frame, and_self, refuse_state, done_state])

@[simp] theorem setMode_frame (args : List Byte) :
    (setMode args s).state.line = s.line ∧ (setMode args s).state.points = s.points ∧
    (setMode args s).state.budget = s.budget ∧ (setMode args s).state.fog = s.fog ∧
    (setMode args s).state.zones = s.zones ∧ (setMode args s).state.scene = s.scene ∧
    (setMode args s).state.responder = s.responder ∧ (setMode args s).state.notices = s.notices ∧
    (setMode args s).state.timeBase = s.timeBase ∧ (setMode args s).state.pending = s.pending := by
  generalize ht : setMode args s = t
  unfold setMode at ht
  try dsimp only at ht
  repeat' split at ht
  all_goals (subst ht; simp only [enterMode_frame, and_self, refuse_state, done_state])

@[simp] theorem coverSheet_frame (args : List Byte) :
    (coverSheet args s).state.line = s.line ∧ (coverSheet args s).state.points = s.points ∧
    (coverSheet args s).state.budget = s.budget ∧ (coverSheet args s).state.zones = s.zones ∧
    (coverSheet args s).state.scene = s.scene ∧ (coverSheet args s).state.responder = s.responder ∧
    (coverSheet args s).state.notices = s.notices ∧ (coverSheet args s).state.timeBase = s.timeBase ∧
    (coverSheet args s).state.pending = s.pending := by
  generalize ht : coverSheet args s = t
  unfold coverSheet at ht
  try dsimp only at ht
  repeat' split at ht
  all_goals (subst ht; simp only [coverFog_frame, and_self, hand_line, hand_points, hand_budget, hand_zones,
      hand_scene, hand_responder, hand_notices, hand_timeBase, hand_pending, setCover_line, setCover_points,
      setCover_budget, setCover_zones, setCover_scene, setCover_responder, setCover_notices, setCover_timeBase,
      setCover_pending, refuse_state, done_state])

@[simp] theorem uncoverSheet_frame (args : List Byte) :
    (uncoverSheet args s).state.line = s.line ∧ (uncoverSheet args s).state.points = s.points ∧
    (uncoverSheet args s).state.budget = s.budget ∧ (uncoverSheet args s).state.zones = s.zones ∧
    (uncoverSheet args s).state.scene = s.scene ∧ (uncoverSheet args s).state.responder = s.responder ∧
    (uncoverSheet args s).state.notices = s.notices ∧ (uncoverSheet args s).state.timeBase = s.timeBase ∧
    (uncoverSheet args s).state.pending = s.pending := by
  generalize ht : uncoverSheet args s = t
  unfold uncoverSheet at ht
  try dsimp only at ht
  repeat' split at ht
  all_goals (subst ht; simp only [uncoverFog_frame, and_self, hand_line, hand_points, hand_budget, hand_zones,
      hand_scene, hand_responder, hand_notices, hand_timeBase, hand_pending, setCover_line, setCover_points,
      setCover_budget, setCover_zones, setCover_scene, setCover_responder, setCover_notices, setCover_timeBase,
      setCover_pending, refuse_state, done_state])

@[simp] theorem readStatus_frame (args : List Byte) :
    (readStatus args s).state.points = s.points ∧ (readStatus args s).state.budget = s.budget ∧
    (readStatus args s).state.fog = s.fog ∧ (readStatus args s).state.zones = s.zones ∧
    (readStatus args s).state.scene = s.scene ∧ (readStatus args s).state.mode = s.mode ∧
    (readStatus args s).state.responder = s.responder ∧ (readStatus args s).state.timeBase = s.timeBase ∧
    (readStatus args s).state.pending = s.pending ∧ (readStatus args s).state.handed = s.handed := by
  generalize ht : readStatus args s = t
  unfold readStatus at ht
  try dsimp only at ht
  repeat' split at ht
  all_goals (subst ht; simp only [clearCause_frame, and_self, refuse_state, doneWith_state])

@[simp] theorem writeRights_frame (args : List Byte) :
    (writeRights args s).state.points = s.points ∧ (writeRights args s).state.budget = s.budget ∧
    (writeRights args s).state.fog = s.fog ∧ (writeRights args s).state.zones = s.zones ∧
    (writeRights args s).state.scene = s.scene ∧ (writeRights args s).state.mode = s.mode ∧
    (writeRights args s).state.responder = s.responder ∧ (writeRights args s).state.notices = s.notices ∧
    (writeRights args s).state.timeBase = s.timeBase ∧ (writeRights args s).state.pending = s.pending ∧
    (writeRights args s).state.handed = s.handed := by
  generalize ht : writeRights args s = t
  unfold writeRights at ht
  try dsimp only at ht
  repeat' split at ht
  all_goals (subst ht; simp only [setRights_frame, and_self, refuse_state, done_state])

@[simp] theorem freezeRights_frame (args : List Byte) :
    (freezeRights args s).state.line = s.line ∧ (freezeRights args s).state.points = s.points ∧
    (freezeRights args s).state.budget = s.budget ∧ (freezeRights args s).state.fog = s.fog ∧
    (freezeRights args s).state.zones = s.zones ∧ (freezeRights args s).state.scene = s.scene ∧
    (freezeRights args s).state.mode = s.mode ∧ (freezeRights args s).state.notices = s.notices ∧
    (freezeRights args s).state.timeBase = s.timeBase ∧ (freezeRights args s).state.pending = s.pending ∧
    (freezeRights args s).state.handed = s.handed := by
  generalize ht : freezeRights args s = t
  unfold freezeRights at ht
  try dsimp only at ht
  repeat' split at ht
  all_goals (subst ht; exact ⟨rfl, rfl, rfl, rfl, rfl, rfl, rfl, rfl, rfl, rfl, rfl⟩)

@[simp] theorem takeRestart_frame (args : List Byte) :
    (takeRestart args s).state.line = s.line ∧ (takeRestart args s).state.points = s.points ∧
    (takeRestart args s).state.budget = s.budget ∧ (takeRestart args s).state.fog = s.fog ∧
    (takeRestart args s).state.zones = s.zones ∧ (takeRestart args s).state.scene = s.scene ∧
    (takeRestart args s).state.mode = s.mode ∧ (takeRestart args s).state.notices = s.notices ∧
    (takeRestart args s).state.timeBase = s.timeBase ∧ (takeRestart args s).state.pending = s.pending ∧
    (takeRestart args s).state.handed = s.handed := by
  generalize ht : takeRestart args s = t
  unfold takeRestart at ht
  try dsimp only at ht
  all_goals (subst ht; exact ⟨rfl, rfl, rfl, rfl, rfl, rfl, rfl, rfl, rfl, rfl, rfl⟩)

@[simp] theorem writeNoticeMask_frame (args : List Byte) :
    (writeNoticeMask args s).state.line = s.line ∧ (writeNoticeMask args s).state.points = s.points ∧
    (writeNoticeMask args s).state.budget = s.budget ∧ (writeNoticeMask args s).state.fog = s.fog ∧
    (writeNoticeMask args s).state.zones = s.zones ∧ (writeNoticeMask args s).state.scene = s.scene ∧
    (writeNoticeMask args s).state.mode = s.mode ∧ (writeNoticeMask args s).state.responder = s.responder ∧
    (writeNoticeMask args s).state.timeBase = s.timeBase ∧ (writeNoticeMask args s).state.pending = s.pending ∧
    (writeNoticeMask args s).state.handed = s.handed := by
  generalize ht : writeNoticeMask args s = t
  unfold writeNoticeMask at ht
  try dsimp only at ht
  repeat' split at ht
  all_goals (subst ht; exact ⟨rfl, rfl, rfl, rfl, rfl, rfl, rfl, rfl, rfl, rfl, rfl⟩)

@[simp] theorem readPointRequest_frame (args : List Byte) :
    (readPointRequest args s).state.line = s.line ∧ (readPointRequest args s).state.points = s.points ∧
    (readPointRequest args s).state.budget = s.budget ∧ (readPointRequest args s).state.fog = s.fog ∧
    (readPointRequest args s).state.zones = s.zones ∧ (readPointRequest args s).state.scene = s.scene ∧
    (readPointRequest args s).state.mode = s.mode ∧ (readPointRequest args s).state.responder = s.responder ∧
    (readPointRequest args s).state.notices = s.notices ∧
    (readPointRequest args s).state.timeBase = s.timeBase ∧
    (readPointRequest args s).state.pending = s.pending ∧ (readPointRequest args s).state.handed = s.handed := by
  generalize ht : readPointRequest args s = t
  unfold readPointRequest at ht
  try dsimp only at ht
  all_goals (subst ht; exact ⟨rfl, rfl, rfl, rfl, rfl, rfl, rfl, rfl, rfl, rfl, rfl, rfl⟩)

@[simp] theorem readBudget_frame (args : List Byte) :
    (readBudget args s).state.line = s.line ∧ (readBudget args s).state.points = s.points ∧
    (readBudget args s).state.budget = s.budget ∧ (readBudget args s).state.fog = s.fog ∧
    (readBudget args s).state.zones = s.zones ∧ (readBudget args s).state.scene = s.scene ∧
    (readBudget args s).state.mode = s.mode ∧ (readBudget args s).state.responder = s.responder ∧
    (readBudget args s).state.notices = s.notices ∧ (readBudget args s).state.timeBase = s.timeBase ∧
    (readBudget args s).state.pending = s.pending ∧ (readBudget args s).state.handed = s.handed := by
  generalize ht : readBudget args s = t
  unfold readBudget at ht
  try dsimp only at ht
  repeat' split at ht
  all_goals (subst ht; exact ⟨rfl, rfl, rfl, rfl, rfl, rfl, rfl, rfl, rfl, rfl, rfl, rfl⟩)

@[simp] theorem readSheet_frame (args : List Byte) :
    (readSheet args s).state.line = s.line ∧ (readSheet args s).state.points = s.points ∧
    (readSheet args s).state.budget = s.budget ∧ (readSheet args s).state.fog = s.fog ∧
    (readSheet args s).state.zones = s.zones ∧ (readSheet args s).state.scene = s.scene ∧
    (readSheet args s).state.mode = s.mode ∧ (readSheet args s).state.responder = s.responder ∧
    (readSheet args s).state.notices = s.notices ∧ (readSheet args s).state.timeBase = s.timeBase ∧
    (readSheet args s).state.pending = s.pending ∧ (readSheet args s).state.handed = s.handed := by
  generalize ht : readSheet args s = t
  unfold readSheet at ht
  try dsimp only at ht
  repeat' split at ht
  all_goals (subst ht; exact ⟨rfl, rfl, rfl, rfl, rfl, rfl, rfl, rfl, rfl, rfl, rfl, rfl⟩)

@[simp] theorem readZone_frame (args : List Byte) :
    (readZone args s).state.line = s.line ∧ (readZone args s).state.points = s.points ∧
    (readZone args s).state.budget = s.budget ∧ (readZone args s).state.fog = s.fog ∧
    (readZone args s).state.zones = s.zones ∧ (readZone args s).state.scene = s.scene ∧
    (readZone args s).state.mode = s.mode ∧ (readZone args s).state.responder = s.responder ∧
    (readZone args s).state.notices = s.notices ∧ (readZone args s).state.timeBase = s.timeBase ∧
    (readZone args s).state.pending = s.pending ∧ (readZone args s).state.handed = s.handed := by
  generalize ht : readZone args s = t
  unfold readZone at ht
  try dsimp only at ht
  repeat' split at ht
  all_goals (subst ht; exact ⟨rfl, rfl, rfl, rfl, rfl, rfl, rfl, rfl, rfl, rfl, rfl, rfl⟩)

@[simp] theorem readBuffer_frame (args : List Byte) :
    (readBuffer args s).state.line = s.line ∧ (readBuffer args s).state.points = s.points ∧
    (readBuffer args s).state.budget = s.budget ∧ (readBuffer args s).state.fog = s.fog ∧
    (readBuffer args s).state.zones = s.zones ∧ (readBuffer args s).state.scene = s.scene ∧
    (readBuffer args s).state.mode = s.mode ∧ (readBuffer args s).state.responder = s.responder ∧
    (readBuffer args s).state.notices = s.notices ∧ (readBuffer args s).state.timeBase = s.timeBase ∧
    (readBuffer args s).state.pending = s.pending ∧ (readBuffer args s).state.handed = s.handed := by
  generalize ht : readBuffer args s = t
  unfold readBuffer at ht
  try dsimp only at ht
  repeat' split at ht
  all_goals (subst ht; exact ⟨rfl, rfl, rfl, rfl, rfl, rfl, rfl, rfl, rfl, rfl, rfl, rfl⟩)

@[simp] theorem readGroup_frame (args : List Byte) :
    (readGroup args s).state.line = s.line ∧ (readGroup args s).state.points = s.points ∧
    (readGroup args s).state.budget = s.budget ∧ (readGroup args s).state.fog = s.fog ∧
    (readGroup args s).state.zones = s.zones ∧ (readGroup args s).state.scene = s.scene ∧
    (readGroup args s).state.mode = s.mode ∧ (readGroup args s).state.responder = s.responder ∧
    (readGroup args s).state.notices = s.notices ∧ (readGroup args s).state.timeBase = s.timeBase ∧
    (readGroup args s).state.pending = s.pending ∧ (readGroup args s).state.handed = s.handed := by
  generalize ht : readGroup args s = t
  unfold readGroup at ht
  try dsimp only at ht
  repeat' split at ht
  all_goals (subst ht; exact ⟨rfl, rfl, rfl, rfl, rfl, rfl, rfl, rfl, rfl, rfl, rfl, rfl⟩)

@[simp] theorem readProfile_frame (args : List Byte) :
    (readProfile args s).state.line = s.line ∧ (readProfile args s).state.points = s.points ∧
    (readProfile args s).state.budget = s.budget ∧ (readProfile args s).state.fog = s.fog ∧
    (readProfile args s).state.zones = s.zones ∧ (readProfile args s).state.scene = s.scene ∧
    (readProfile args s).state.mode = s.mode ∧ (readProfile args s).state.responder = s.responder ∧
    (readProfile args s).state.notices = s.notices ∧ (readProfile args s).state.timeBase = s.timeBase ∧
    (readProfile args s).state.pending = s.pending ∧ (readProfile args s).state.handed = s.handed := by
  generalize ht : readProfile args s = t
  unfold readProfile at ht
  try dsimp only at ht
  repeat' split at ht
  all_goals (subst ht; exact ⟨rfl, rfl, rfl, rfl, rfl, rfl, rfl, rfl, rfl, rfl, rfl, rfl⟩)

@[simp] theorem readNode_frame (args : List Byte) :
    (readNode args s).state.line = s.line ∧ (readNode args s).state.points = s.points ∧
    (readNode args s).state.budget = s.budget ∧ (readNode args s).state.fog = s.fog ∧
    (readNode args s).state.zones = s.zones ∧ (readNode args s).state.scene = s.scene ∧
    (readNode args s).state.mode = s.mode ∧ (readNode args s).state.responder = s.responder ∧
    (readNode args s).state.notices = s.notices ∧ (readNode args s).state.timeBase = s.timeBase ∧
    (readNode args s).state.pending = s.pending ∧ (readNode args s).state.handed = s.handed := by
  generalize ht : readNode args s = t
  unfold readNode at ht
  try dsimp only at ht
  repeat' split at ht
  all_goals (subst ht; exact ⟨rfl, rfl, rfl, rfl, rfl, rfl, rfl, rfl, rfl, rfl, rfl, rfl⟩)

end Sys2Proof.Machine
end

