-- ==== Sys2Proof/Laws/Queue.lean ====
section
/-! SUPPORT. What actuator commands queued in order leave in the Command Queue, said once for the walks that queue
them. -/

namespace Sys2Proof.Machine

@[simp] theorem enqueueAll_nil (q : List QueueEntry) : enqueueAll [] q = q := rfl

@[simp] theorem enqueueAll_cons (a : ActAddr) (v : Nat) (cs : List (ActAddr × Nat)) (q : List QueueEntry) :
    enqueueAll ((a, v) :: cs) q = enqueueAll cs (enqueueCommand a v q) := rfl

@[simp] theorem enqueueAll_append (cs ds : List (ActAddr × Nat)) (q : List QueueEntry) :
    enqueueAll (cs ++ ds) q = enqueueAll ds (enqueueAll cs q) := by
  simp [enqueueAll]

/-- A walk each of whose steps queues the commands of its element, while what the walk relies on of the state and of
the elements still ahead holds, queues the commands of all its elements in order. -/
theorem foldl_enqueues {β : Type} (f : State → β → State) (commands : β → List (ActAddr × Nat))
    (relies : List β → State → Prop)
    (h : ∀ b l s, relies (b :: l) s →
      (f s b).line.queue = enqueueAll (commands b) s.line.queue ∧ relies l (f s b)) :
    ∀ l s, relies l s → (l.foldl f s).line.queue = enqueueAll (l.flatMap commands) s.line.queue
  | [], _, _ => rfl
  | b :: l, s, r => by
    rw [List.foldl_cons, foldl_enqueues f commands relies h l _ (h b l s r).2, (h b l s r).1, List.flatMap_cons,
      enqueueAll_append]

end Sys2Proof.Machine
end

