-- ==== Sys2Proof/Laws/Requests.lean ====
section
/-! SUPPORT. What the taking of a request answers, said once for the forty-four requests. -/

namespace Sys2Proof.Machine

variable {r : Req} {slot : SlotIx} {q : Request} {s : State}

theorem stagedRequest_of_canTake (h : CanTake r slot q s) : stagedRequest r slot s = some q := by
  simp [stagedRequest, h.staged, h.code, reqOfCode_codeOf]

theorem waitsForOther_of_canTake (h : CanTake r slot q s) : waitsForOther r slot s = false := by
  unfold waitsForOther
  split
  · next p hp =>
    have := h.first p hp
    rcases Classical.em (s.responder.first = otherSlot slot) with hf | hf
    · simp [hf, this hf]
    · simp [hf]
  · rfl
  · rfl

/-- A request its owner can take is answered as its owner's function answers it, from the state it finds. -/
theorem takeRequest_of_canTake (h : CanTake r slot q s) (answer : List Byte → State → Answer) :
    perform (takeRequest r slot (decide (r = .restart)) answer) s =
      .next (answered r slot q (answer q.args (taken r slot s)).status (answer q.args (taken r slot s)).results
        (answer q.args (taken r slot s)).state) := by
  rw [perform_awake _ _ h.awake,
    takeRequest_staged s r slot _ answer q (stagedRequest_of_canTake h) (waitsForOther_of_canTake h)]
  rfl

theorem performRequest_of_canTake (h : CanTake r slot q s) (hr : r ≠ .restart)
    (answer : List Byte → State → Answer) :
    performRequest r slot answer s =
      .next (answered r slot q (answer q.args (taken r slot s)).status (answer q.args (taken r slot s)).results
        (answer q.args (taken r slot s)).state) := by
  have e : decide (r = .restart) = false := by simp [hr]
  rw [← takeRequest_of_canTake h answer, e, performRequest]

/-- An index byte below a table's size names its record. -/
theorem indexOf_val {n : Nat} (i : Fin n) : indexOf n i.val = some i := by
  simp [indexOf]

end Sys2Proof.Machine
end

