-- ==== Sys2Proof/Tests/Slice0.lean ====
section
/-! SUPPORT. Tests of the model: the well-formedness checks, the worked examples of the spec, and for every statement with
hypotheses a named state and operands that meet them. -/

namespace Sys2Proof.Tests

-- One theorem at a time: side by side, their kernel evaluations ask for more memory than one file should.
set_option Elab.async false

open Sys2Proof Sys2Proof.Machine

/-! ### States the tests share -/

/-- Node 5 right after power-on reset; node 6 is the building controller. -/
def base : State := powerOnState 5 6 []

/-- A staged request of node 6, handle 1. -/
def asked (r : Req) (args : List Byte) : Request := ⟨6, codeOf r, 1, args⟩

/-- The state with this request CHECKED in slot 0. -/
def ask (r : Req) (args : List Byte) (s : State) : State := { s with responder.slot0 := .checked (asked r args) }

theorem canTake_ask {r : Req} {args : List Byte} {s : State} (awake : s.line.held = false)
    (other : s.responder.slot1 = .free) : CanTake r 0 (asked r args) (ask r args s) where
  awake := awake
  staged := rfl
  code := rfl
  first := by
    intro p hp
    have h : slotOf (ask r args s).responder (otherSlot 0) = s.responder.slot1 := rfl
    rw [h, other] at hp
    cases hp

/-- The state with one point record replaced. -/
def withPoint (i : PointIx) (p : Point) (s : State) : State := { s with points := s.points.set i p }

@[simp] theorem base_point (j : PointIx) : base.points[j] = clearedPoint unusedPointDef .unused := by
  simp [base, powerOnState, powerOnPoints]

theorem withPoint_same (i : PointIx) (p : Point) (s : State) : (withPoint i p s).points[i] = p := by
  simp [withPoint]

theorem withPoint_other (i j : PointIx) (p : Point) (s : State) (h : j ≠ i) :
    (withPoint i p s).points[j] = s.points[j] := by
  have : i.val ≠ j.val := fun e => h (Fin.ext e.symm)
  simp [withPoint, this]

/-- p40 of chapter 2.5: a bowl humidity sensor with a substitute, on node 9. -/
def p40Def : PointDef := ⟨9, 3, .humidity, 14, 1024, 0, 0, 10000, 300, 3, 500, some 41, 0⟩

/-- p41 of chapter 2.5. -/
def p41Def : PointDef := ⟨9, 4, .humidity, 14, 1024, 0, 0, 10000, 300, 3, 500, none, 0⟩

/-- p7 of chapter 2.3: a bowl air temperature. -/
def p7Def : PointDef := ⟨17, 0, .temperature, 12, 2000, -2000, -2000, 4500, 300, 3, 0, none, 0⟩

/-- p60 of chapter 2.6: the haze point of sheet 1. -/
def p60Def : PointDef := ⟨18, 1, .haze, 16, 1024, 0, 0, 65535, 20, 1, 0, none, 40⟩

/-- p90 of chapter 8: a turnstile count. -/
def p90Def : PointDef := ⟨19, 0, .count, 16, 1024, 0, 0, 65535, 300, 1, 0, none, 0⟩

/-- A recovery temperature or a flow. -/
def sensorDef (channel : Nat) (cls : PointClass) : PointDef :=
  ⟨20, channel, cls, 16, 1024, 0, 0, 8000, 300, 1, 0, none, 0⟩

/-- A point in FRESH presenting a value, its stale timer running. -/
def freshAt (d : PointDef) (v : Int) : Point :=
  { clearedPoint d .fresh with presented := v, ownValue := v, staleTimer := some (d.staleLimit * 100) }

/-- c0 of chapter 3.5: the sheet 1 subsoil consumer, DRIVE. -/
def c0Def : ConsumerDef where
  kind := .subsoil
  sheet := some .one
  cls := 0
  weight := 4
  floor := 200
  cap := 600
  design := 600
  addr := some ⟨22, 4⟩
  handling := some .drive
  settlePoint := none
  tempPoint := 30
  setpoint := 250
  band := 200
  demandClear := 0
  demandWatch := 0
  demandFog := 0
  demandRecover := 0
  fan := 0

/-- c2 of chapter 3.5: the sheet 1 regenerator, DRIVE, with a fan power of 180. -/
def c2Def : ConsumerDef where
  kind := .regen
  sheet := some .one
  cls := 1
  weight := 2
  floor := 500
  cap := 1800
  design := 1800
  addr := some ⟨22, 5⟩
  handling := some .drive
  settlePoint := none
  tempPoint := 0
  setpoint := 0
  band := 0
  demandClear := 500
  demandWatch := 1400
  demandFog := 1800
  demandRecover := 1600
  fan := 180

/-- c4 of chapters 1.9 and 3.5: the resurfacing-water preheat, GOVERN, its valve at (22, 3). -/
def c4Def : ConsumerDef where
  kind := .preheat
  sheet := none
  cls := 2
  weight := 1
  floor := 0
  cap := 800
  design := 800
  addr := some ⟨22, 3⟩
  handling := some .govern
  settlePoint := none
  tempPoint := 0
  setpoint := 0
  band := 0
  demandClear := 0
  demandWatch := 0
  demandFog := 0
  demandRecover := 0
  fan := 0

/-- z0 of chapter 5: an ICE_EDGE zone of sheet 1 with a boost actuator. -/
def z0Def : ZoneDef := ⟨some .one, .iceEdge, ⟨23, 0⟩, 600, some ⟨23, 1⟩, 3, 250⟩

/-- A group over sheet 1 that makes haze. -/
def g6Def : GroupDef := ⟨⟨24, 0⟩, 500, some .one, true, true, false⟩

/-- A group without a sheet. -/
def g0Def : GroupDef := ⟨⟨24, 1⟩, 500, none, false, false, false⟩

/-- A part with two consumers, a zone and two groups ENABLED. -/
def arena : State := { base with
  budget.consumers :=
    (base.budget.consumers.set 0 { clearedConsumer c0Def .enabled with lastSent := some 7000 }).set 4
      { clearedConsumer c4Def .enabled with grant := 434, allowed := 5425, takingPart := true }
  budget.usable := 3749
  zones.zones := base.zones.zones.set 0
    { clearedZone z0Def .enabled 1000 with allowed := 6000, allowedStages := 2, reqStages := 3 }
  scene.groups := (base.scene.groups.set 6 { clearedGroup g6Def .enabled with level := 450 }).set 0
    (clearedGroup g0Def .enabled) }

/-- The arena with its records DISABLED. -/
def idleArena : State := { base with
  budget.consumers := base.budget.consumers.set 4 (clearedConsumer c4Def .disabled)
  zones.zones := base.zones.zones.set 0 (clearedZone z0Def .disabled 1000)
  scene.groups := base.scene.groups.set 6 (clearedGroup g6Def .disabled) }

/-- No record but this one owns the address. -/
def ownsOnly (s : State) (a : ActAddr) (o : ActOwner) : Bool :=
  ((List.finRange 8).all fun i => !consumerHolds a s.budget.consumers[i] || o = .consumer i) &&
    ((List.finRange 24).all fun i => !valveHolds a s.zones.zones[i] || o = .zoneValve i) &&
    ((List.finRange 24).all fun i => !boostHolds a s.zones.zones[i] || o = .zoneBoost i) &&
    (List.finRange 32).all fun i => !groupHolds a s.scene.groups[i] || o = .group i

theorem owner_of_ownsOnly {s : State} {a : ActAddr} {o : ActOwner} (h : ownsOnly s a o = true) :
    ∀ p, Owns s a p → p = o := by
  intro p hp
  simp only [ownsOnly, Bool.and_eq_true, List.all_eq_true, List.mem_finRange, true_implies, Bool.or_eq_true,
    Bool.not_eq_true', decide_eq_true_eq] at h
  obtain ⟨⟨⟨hc, hv⟩, hb⟩, hg⟩ := h
  cases p with
  | consumer i => exact ((hc i).resolve_left (by simpa [Owns] using hp)).symm
  | zoneValve i => exact ((hv i).resolve_left (by simpa [Owns] using hp)).symm
  | zoneBoost i => exact ((hb i).resolve_left (by simpa [Owns] using hp)).symm
  | group i => exact ((hg i).resolve_left (by simpa [Owns] using hp)).symm

theorem no_owner {s : State} {a : ActAddr} (h : ownerOf s a = none) : ∀ o, ¬Owns s a o := by
  intro o ho
  unfold ownerOf at h
  split at h
  · cases h
  · next h1 =>
    split at h
    · cases h
    · next h2 =>
      split at h
      · cases h
      · next h3 =>
        simp only [Option.map_eq_none_iff] at h
        cases o with
        | consumer i => exact absurd ho (by simpa [Owns] using findIx_eq_none.mp h1 i)
        | zoneValve i => exact absurd ho (by simpa [Owns] using findIx_eq_none.mp h2 i)
        | zoneBoost i => exact absurd ho (by simpa [Owns] using findIx_eq_none.mp h3 i)
        | group i => exact absurd ho (by simpa [Owns] using findIx_eq_none.mp h i)

/-! ### Well-formed commands -/

/-- A reported value above every class range (chapter 2.1). -/
theorem test_wf_valueReport : (Instr.valueReport 0 65536).wf = false ∧ (Instr.valueReport 0 65535).wf = true := by
  decide

/-- A load above 32 groups of 9999 (R158). -/
theorem test_wf_lightingLoadUpdate :
    (Instr.lightingLoadUpdate 319969).wf = false ∧ (Instr.lightingLoadUpdate 319968).wf = true := by
  decide

/-- A cap above 1000 per mille (R95). -/
theorem test_wf_capHanding :
    (Instr.capHanding .one ⟨1000, 1001, 0⟩).wf = false ∧ (Instr.capHanding .one ⟨1000, 1000, 0⟩).wf = true := by
  decide

/-- A notice value beyond 32 bits, and a subject beyond one byte (chapter 10.1). -/
theorem test_wf_noticeOffer :
    (Instr.noticeOffer .mode 0 2147483648).wf = false ∧ (Instr.noticeOffer .mode 256 0).wf = false ∧
      (Instr.noticeOffer .mode 255 (-2147483648)).wf = true := by
  decide

/-- The table gives no row any bits. -/
theorem test_no_word_spells_a_command : decodeTableWord 8 0 = none := by decide

/-! ### Worked examples of the spec -/

/-- A test of the next state of an outcome. -/
def after (o : Host.Outcome State Fault Refusal) (p : State → Bool) : Bool :=
  match o with
  | .next t => p t
  | .fault _ => false
  | .refused _ => false

/-- A strictly rising Dew Table with the entries the examples of chapter 4 name; the entries between them are filled in
by interpolation. -/
def dewExample : Vector Nat 64 :=
  ⟨⟨[103, 121, 139, 157, 175, 193, 211, 229, 247, 265, 283, 301, 319, 338, 368, 401] ++
    [437, 476, 521, 566, 611, 657, 709, 761, 813, 872, 945, 1018, 1092, 1165, 1238, 1312] ++
    [1402, 1497, 1644, 1792, 1940, 2088, 2236, 2384, 2532, 2679, 2827, 2975, 3123, 3271, 3419, 3567] ++
    [3782, 4106, 4431, 4755, 5080, 5404, 5729, 6053, 6378, 6702, 7027, 7351, 7676, 8000, 8325, 8650]⟩, by decide⟩

/-- CRC-16 with generator 1021h from FFFFh, not inverted: the published check value over "123456789" is 29B1h. -/
theorem test_crc_check_value :
    crc16 [0x31#8, 0x32#8, 0x33#8, 0x34#8, 0x35#8, 0x36#8, 0x37#8, 0x38#8, 0x39#8] = 0x29B1#16 := by
  decide +kernel

/-- Chapter 1.2, sequence accounting for one source: the six arrivals. -/
theorem test_sequence_accounting :
    [3, 4, 4, 7, 7, 1].foldl testedNode (powerOnNode readOnlyRights) = ⟨true, 1, 11, 2, readOnlyRights⟩ := by
  decide

/-- Chapter 1.9, a governed preheat valve, sequence 9: entry 3 leaves at 5425 with GOVERNED set, entry 5 as it came. -/
theorem test_frame_governed_valve :
    after (exec (.frameArrival (frameOf 22 2 2 9 (u8 3 ++ u16 7500 ++ u8 5 ++ u16 3000))) { arena with
        budget.consumers := arena.budget.consumers.set 0 (clearedConsumer unusedConsumerDef .unused) })
      (fun t => (t.line.sending.map fun m => m.frame.take 11) =
          some [22#8, 2#8, 2#8, 9#8, 6#8, 0x83#8, 0x15#8, 0x31#8, 0x05#8, 0x0B#8, 0xB8#8] &&
        t.budget.consumers[(4 : ConsumerIx)].requested = 7500 &&
        t.budget.consumers[(4 : ConsumerIx)].lastForwarded = 5425) = true := by
  decide +kernel

/-- Chapter 1.3: a silence expiry reports the line error count, and the arbiter does not wait for it. -/
theorem test_silence_expiry :
    after (exec .silenceTimerExpiry { base with line.up := true, line.silenceTimer := some 0, line.lineErrors := 7 })
      (fun t => t.line.up = false && t.line.wakeTimer = some 10 && t.handed = [.noticeOffer .lineDown 0 7]) = true := by
  decide +kernel

/-- R8, R15: with nothing else to send, the pending WAKE frame leaves at once, addressed to 63 as kind 7. -/
theorem test_wake_expiry :
    after (exec .wakeTimerExpiry base) (fun t => t.line.wakePending = false && t.line.originSeq = 1 &&
      (t.line.sending.map fun m => m.frame.take 5) = some [63#8, 5#8, 7#8, 0#8, 0#8]) = true := by
  decide +kernel

/-- Chapter 1.7, choice 5 of Line Out under heavy forwarded traffic: after four forwarded frames the Command Queue is
served, and the run count starts again. -/
theorem test_arbiter_fifth_choice :
    let s := arbitrate { base with
      line.forward := [[1#8]], line.runCount := 4, line.queue := [.actuator ⟨24, 0⟩ 450, .actuator ⟨22, 4⟩ 7000] }
    s.line.runCount = 0 ∧ s.line.queue = [.actuator ⟨22, 4⟩ 7000] ∧
      (s.line.sending.map fun m => m.frame.take 8) = some [24#8, 5#8, 2#8, 0#8, 3#8, 0x80#8, 0x01#8, 0xC2#8] := by
  decide +kernel

/-- R16, R190: a STATUS frame in DOWN and PRACTICE with nothing loaded has fourteen bytes, the mode first. -/
theorem test_status_expiry :
    after (exec .statusPeriodExpiry base) (fun t =>
      (t.line.sending.map fun m => m.frame.take 8) = some [63#8, 5#8, 6#8, 0#8, 14#8, 1#8, 0#8, 0#8]) = true := by
  decide +kernel

/-- Chapter 2.3, scaling a bowl air temperature: raw 1631, 4095 and 4096. -/
theorem test_scaling :
    candidateValue p7Def 1631 = 1186 ∧ candidateValue p7Def 4095 = 4500 ∧ clampedFlag p7Def 4095 = true ∧
      rawLimit p7Def.rawWidth = 4095 := by
  decide

/-- Chapter 2.5: the spike streak of p40, and its third spike, which passes. -/
theorem test_third_spike :
    let s := withPoint 40 (freshAt p40Def 5260) base
    let t := sampleEntry 9 3 false 6150 (sampleEntry 9 3 false 6100 s)
    t.points[(40 : PointIx)].spikeCount = 2 ∧ t.points[(40 : PointIx)].presented = 5260 ∧
      (sampleEntry 9 3 false 6120 t).points[(40 : PointIx)].presented = 6120 := by
  decide +kernel

/-- Chapter 2.5: p40 goes stale while p41 is FRESH. -/
theorem test_stale_expiry :
    after (exec (.staleTimerExpiry 40) (withPoint 41 (freshAt p41Def 5350) (withPoint 40 (freshAt p40Def 6120) base)))
      (fun t => t.points[(40 : PointIx)].state = .staleSub && presentedValue t 40 = 5350 &&
        t.handed = [.noticeOffer .substituteOn 40 41]) = true := by
  decide +kernel

/-- Chapter 2.6: p60 returns from SETTLING with the value it held. -/
theorem test_settle_expiry :
    after (exec (.settleTimerExpiry 60) (settleStart 60 (withPoint 60 (freshAt p60Def 180) base)))
      (fun t => t.points[(60 : PointIx)].state = .fresh && presentedValue t 60 = 180) = true := by
  decide +kernel

/-- Chapter 3.1, smoothing with a smoothing shift of 2: the four allocations. -/
theorem test_smoothing :
    smoothHeat 2 4050 4049 = 4050 ∧ smoothHeat 2 4047 4050 = 4049 ∧ smoothHeat 2 4047 4049 = 4048 ∧
      smoothHeat 2 4047 4048 = 4047 := by
  decide

/-- Chapter 3.5, an allocation with heat to spare: Q, the demand of c0 and c4, and the five grants. -/
theorem test_heat_to_spare :
    recoveredHeat 1250 3950 4820 3970 = 4196 ∧ subsoilDemand c0Def ⟨120, .good⟩ = 460 ∧
      subsoilDemand { c0Def with floor := 150, cap := 400 } ⟨300, .good⟩ = 150 ∧
      divideHeat 3749 [0, 0, 1, 2, 2] [4, 4, 2, 3, 1] [200, 150, 500, 0, 0] [460, 150, 1400, 2100, 600] =
        [460, 150, 1400, 1305, 434] := by
  decide

/-- Chapter 3.5, a floor shortage with a fogged sheet: 700 over the floor parts of class 0. -/
theorem test_floor_shortage :
    divideHeat 700 [0, 0, 0, 2, 2] [4, 4, 2, 3, 1] [200, 150, 500, 0, 0] [460, 150, 1800, 2100, 600] =
      [165, 124, 411, 0, 0] := by
  decide

/-- The EVENT profile of chapters 3.6 and 8. -/
def eventProfile : Profile := ⟨4000, 300, 10, 1000, 1000, .previous, []⟩

/-- The SETBACK profile of chapter 8: wake points p90 and p91, exit target PREVIOUS. -/
def setbackProfile : Profile := ⟨1500, 800, 30, 300, 0, .previous, [90, 91]⟩

/-- A part in EVENT whose regenerator c2 has a grant. -/
def show1 : State := { base with
  mode := { base.mode with mode := .event, eventProfile := eventProfile, setbackProfile := setbackProfile }
  budget.consumers := base.budget.consumers.set 2 { clearedConsumer c2Def .enabled with grant := 1400 }
  budget.usable := 3749 }

/-- Chapter 3.6, show lighting under the electric ceiling: the updates of 2650 and 3900. -/
theorem test_electric_share :
    after (exec (.lightingLoadUpdate 2650) show1) (fun t => t.budget.allowance = 1170 && !t.budget.overDemand) = true ∧
      after (exec (.lightingLoadUpdate 3900) show1) (fun t => t.budget.allowance = 0 && t.budget.overDemand &&
        t.handed = [.noticeOffer .overDemandOn 0 4080]) = true := by
  decide +kernel

/-- Chapter 3.6: with c2 granted 0 and a load of 3900 the allowance is 100; at 4000 it is 0 and the flag stays clear. -/
theorem test_electric_recompute :
    after (exec .electricRecompute { show1 with
        budget.load := 3900, budget.overDemand := true
        budget.consumers := base.budget.consumers.set 2 (clearedConsumer c2Def .enabled) })
      (fun t => t.budget.allowance = 100 && t.handed = [.noticeOffer .overDemandOff 0 3900]) = true := by
  decide +kernel

/-- Chapter 4.3, cases 1 to 5 of dew point and margin. -/
theorem test_dew_point :
    vapourPressure dewExample 1200 4500 = 630 ∧ dewPointOf dewExample 630 = 41 ∧
      vapourPressure dewExample 1200 6000 = 841 ∧ dewPointOf dewExample 841 = 447 ∧
      saturationPressure dewExample 1240 = 1440 ∧
      vapourPressure dewExample (-350) 8000 = 364 ∧ dewPointOf dewExample 364 = -614 ∧
      vapourPressure dewExample (-2350) 5000 = 51 ∧ dewPointOf dewExample 51 = -2000 ∧
      dewLowFlag dewExample 51 = true := by
  decide +kernel

/-- Chapter 4.3: the mixing temperatures of cases 1 and 4. -/
theorem test_mixing : mixingOf 128 (-450) 900 = 225 ∧ mixingOf 100 (-450) (-700) = -547 := by decide

/-- The sheet of chapter 4.4. -/
def sheet1Def : SheetDef := ⟨10, 11, 12, 40, some 60, 128, 400, 100, 50, 3000, 1500, 300, 10⟩

/-- A sheet record in a fog state with a computed margin and haze. -/
def sheetAt (f : FogState) (margin : Int) (valid : Bool) (haze : Nat) : SheetRec :=
  { clearedSheet sheet1Def .enabled with
    fog := f, margin := margin, hazeValid := valid, hazeValue := haze, fogTimer := some 10000 }

/-- Chapter 4.4, a sheet through fog and back: the evaluations of the table. -/
theorem test_fog_evaluation :
    evaluatedFog (sheetAt .clear 184 true 900) = .watch ∧ evaluatedFog (sheetAt .watch (-222) true 900) = .fog ∧
      evaluatedFog (sheetAt .fog 130 true 900) = .fog ∧ evaluatedFog (sheetAt .fog 160 true 2200) = .fog ∧
      evaluatedFog (sheetAt .fog 170 false 900) = .recover ∧ evaluatedFog (sheetAt .recover 120 false 900) = .recover ∧
      evaluatedFog (sheetAt .recover 90 true 900) = .fog ∧ evaluatedFog (sheetAt .watch 440 true 900) = .watch ∧
      evaluatedFog (sheetAt .watch 460 true 900) = .clear := by
  decide

/-- Sheet 1 with its main points FRESH, as in case 1 of chapter 4.3. -/
def rink : State := { base with
  points := ((((base.points.set 10 (freshAt (sensorDef 0 .temperature) (-450))).set 11
    (freshAt (sensorDef 1 .temperature) 900)).set 12 (freshAt (sensorDef 2 .temperature) 1200)).set 40
    (freshAt p40Def 4500)).set 60 (freshAt p60Def 900)
  fog := { base.fog with dew := dewExample, loaded := Vector.replicate 4 true, sheet1 := sheetAt .clear 0 false 0 } }

/-- Chapter 4.3, case 1, and the row of 0 s of chapter 4.4: a sheet in CLEAR goes to WATCH at a margin of 184. -/
theorem test_fog_period :
    after (exec (.fogPeriodExpiry .one) rink) (fun t => t.fog.sheet1.margin = 184 && t.fog.sheet1.fog = .watch &&
      t.handed = [.noticeOffer .fogState 1 1, .capHanding .one ⟨1000, 1000, 1000⟩, .hazeCut .one,
        .reallocationRequest]) = true := by
  decide +kernel

/-- Chapter 4.4, the row of 370 s: the recover timer's expiry offers FOG_STATE with value 12 and hands no haze cut. -/
theorem test_recover_expiry :
    after (exec (.recoverTimerExpiry .one) { rink with
        fog.sheet1 := { sheetAt .recover 450 true 900 with recoverTimer := some 0 } })
      (fun t => t.fog.sheet1.fog = .clear && t.handed = [.noticeOffer .fogState 1 12,
        .capHanding .one ⟨1000, 1000, 1000⟩, .reallocationRequest]) = true := by
  decide +kernel

/-- A zone of chapter 5.5: its requested position taken, its last forwarded position as it stood before the split. -/
def zoneAt (sheet : Option Sheet) (ring : Ring) (channel design cap requested forwarded : Nat) : Zone :=
  { requestedPosition requested (clearedZone ⟨sheet, ring, ⟨23, channel⟩, design, none, 0, 0⟩ .enabled cap) with
    allowed := forwarded, lastForwarded := forwarded }

/-- The four zones of chapter 5.5 in WATCH. -/
def stands : State := { base with
  zones := { base.zones with
    capSet1 := ⟨600, 900, 1000⟩
    zones := (((base.zones.zones.set 0 (zoneAt (some .one) .iceEdge 0 600 600 8000 6000)).set 1
      (zoneAt (some .one) .mid 1 800 900 9000 7000)).set 2
      (zoneAt (some .one) .upper 2 700 1000 10000 5000)).set 3
      (zoneAt none .upper 3 500 1000 6400 4000) } }

/-- Chapter 5.5, splitting the spectator grant of 1305: the demands, the shares, and the three corrective commands. -/
theorem test_split :
    zoneAggregate stands = 2100 ∧ (zoneShares 1305 stands.zones).take 4 = [224, 448, 435, 198] ∧
      (splitGrant (some 1305) stands).line.queue =
        [.actuator ⟨23, 0⟩ 3733, .actuator ⟨23, 1⟩ 5600, .actuator ⟨23, 3⟩ 3960] := by
  decide +kernel

/-- Chapter 5.5: the FOG caps of sheet 1 are handed after the split. -/
theorem test_cap_handing :
    after (exec (.capHanding .one ⟨200, 500, 800⟩) (splitGrant (some 1305) stands))
      (fun t => zoneAggregate t = 1400 &&
        ((t.zones.zones.toList.take 4).map fun z => z.allowed) = [2000, 5000, 6214, 3960]) = true := by
  decide +kernel

/-- A zone with a boost actuator (chapter 5.7). -/
def boostAt (channel count power cap requested : Nat) : Zone :=
  { clearedZone ⟨none, .upper, ⟨23, channel⟩, 500, some ⟨25, channel⟩, count, power⟩ .enabled cap with
    reqStages := requested, lastStages := 1 }

/-- Chapter 5.7, boost under the allowance: 1170 gives one stage to each of three zones and leaves 220. -/
theorem test_boost :
    let s := { base with zones.zones := ((base.zones.zones.set 0 (boostAt 0 3 250 600 3)).set 1
      (boostAt 1 2 400 900 2)).set 3 (boostAt 3 3 300 1000 2) }
    (((distributeBoost 1170 s).zones.zones.toList.take 4).map fun z => z.allowedStages) = [1, 1, 0, 1] ∧
      (distributeBoost 1170 s).zones.left = 220 ∧
      (distributeBoost 0 s).line.queue = [.actuator ⟨25, 0⟩ 0, .actuator ⟨25, 1⟩ 0, .actuator ⟨25, 3⟩ 0] := by
  decide +kernel

/-- A committed output side, or its commit side (chapter 6.6). -/
def pairSide (state : BufferState) (committed played : Bool) (generation : Nat) (slot : BufferIx)
    (mode : CommitMode) : Buffer where
  type := .paired
  commitMode := mode
  filterValue := 0
  filterMask := 0
  priority := false
  state := state
  committed := committed
  played := played
  generation := generation
  lastPlayed := none
  slot := slot

/-- Pair 2 of chapter 6.6 before step start 13: both sides idle or about to be, STREAMING. -/
def pairs : State := { base with
  scene.stepCounter := 12
  scene.buffers := (base.scene.buffers.set 4 (pairSide .idle true true 4 4 .streaming)).set 5
    (pairSide .selected true true 7 5 .streaming) }

/-- Chapter 6.6, step start 13: b5 returns to IDLE and is captured with generation 7, and the transfer starts. -/
theorem test_step_start :
    after (exec .stepStart pairs) (fun t => t.scene.stepCounter = 13 && t.scene.search = some 13 &&
      t.scene.engine = some 2 && (t.scene.view.map fun c => (c.buffer.val, c.generation)) = [(5, 7)] &&
      t.scene.buffers[(4 : BufferIx)].state = .transfer) = true := by
  decide +kernel

/-- Chapter 6.6, the transfer completion: the slots exchanged, the output side with generation 8, TRANSFERRED 4. -/
theorem test_transfer_completion :
    after (exec .transferCompletion (checkTransfers { pairs with
        scene.buffers := pairs.scene.buffers.set 5 (pairSide .idle true true 7 5 .streaming) }))
      (fun t => t.scene.buffers[(4 : BufferIx)] = pairSide .idle false false 4 5 .streaming &&
        t.scene.buffers[(5 : BufferIx)] = pairSide .idle true false 8 4 .streaming && t.scene.engine = none &&
        t.handed = [.noticeOffer .transferred 4 8]) = true := by
  decide +kernel

/-- The three candidates of chapter 7.4's example of a search. -/
def searchView : List Candidate :=
  [⟨3, 2, true, 0, 3, ⟨[⟨2, 1000, 0⟩], true⟩⟩,
    ⟨5, 7, false, 0, 0, ⟨[⟨0, 800, 4⟩, ⟨1, 600, 0⟩, ⟨2, 500, 2⟩], false⟩⟩,
    ⟨9, 5, false, 1, 1, ⟨[⟨1, 300, 0⟩, ⟨3, 900, 3⟩], false⟩⟩]

/-- Chapter 7.4: the results of the groups g0 to g4 at step 12, and those of g2 and g3 at step 13. -/
theorem test_search :
    searchGroup searchView 12 0 = .winner ⟨5, 1, 7, false, 800, 4⟩ ∧
      searchGroup searchView 12 1 = .winner ⟨5, 1, 7, false, 600, 0⟩ ∧
      searchGroup searchView 12 2 = .winner ⟨3, 0, 2, true, 1000, 0⟩ ∧ searchGroup searchView 12 3 = .hold ∧
      searchGroup searchView 12 4 = .none ∧ searchGroup searchView 13 2 = .winner ⟨5, 1, 7, false, 500, 2⟩ ∧
      searchGroup searchView 13 3 = .winner ⟨9, 1, 5, false, 900, 3⟩ := by
  decide +kernel

/-- The groups of chapter 7.4 before step 12, under a ceiling of 700, the search of step 12 in flight. -/
def lights : State := { base with
  mode.practiceProfile := { base.mode.practiceProfile with ceiling := 700 }
  scene.view := searchView
  scene.search := some 12
  scene.stepCounter := 12
  scene.buffers := base.scene.buffers.set 5 (pairSide .idle true false 7 5 .streaming)
  scene.groups := ((((base.scene.groups.set 0 { clearedGroup { g0Def with dimmer := ⟨24, 10⟩ } .enabled with
      lastSent := some 0 }).set 1 { clearedGroup { g0Def with dimmer := ⟨24, 11⟩ } .enabled with
      lastSent := some 0 }).set 2 { clearedGroup { g0Def with dimmer := ⟨24, 12⟩ } .enabled with
      level := 200, lastSent := some 200 }).set 3 { clearedGroup { g0Def with dimmer := ⟨24, 13⟩ } .enabled with
      level := 300, fade := some ⟨0, 900, 3, 1⟩, driver := some ⟨9, 5, false⟩, lastSent := some 300 }).set 4
      { clearedGroup { g0Def with dimmer := ⟨24, 14⟩ } .enabled with level := 850, lastSent := some 850 } }

/-- Chapter 7.4, step 12: the levels 0, 600, 1000, 300 and 700, and the commands of g1, g2 and g4, the first of which is
taken by the arbiter at once; b5 is marked. -/
theorem test_search_completion :
    after (exec .searchCompletion lights) (fun t =>
      ((t.scene.groups.toList.take 5).map fun g => g.level) = [0, 600, 1000, 300, 700] &&
        t.line.queue = [.actuator ⟨24, 12⟩ 1000, .actuator ⟨24, 14⟩ 700] &&
        t.scene.buffers[(5 : BufferIx)].state = .selected &&
        t.scene.buffers[(5 : BufferIx)].lastPlayed = some 12) = true := by
  decide +kernel

/-- Chapter 7.4: the fade of g0 at step 13, of g3 at step 13 and of g2 at step 14. -/
theorem test_fades :
    fadeLevel ⟨0, 800, 4, 1⟩ = 200 ∧ fadeLevel ⟨0, 900, 3, 2⟩ = 600 ∧ fadeLevel ⟨1000, 500, 2, 1⟩ = 750 := by decide

/-- Chapter 7.4, a haze source through a fog episode: the cut replaces a pending 450. -/
theorem test_haze_cut :
    after (exec (.hazeCut .one) { arena with
        line.queue := [.actuator ⟨22, 4⟩ 7000, .actuator ⟨24, 0⟩ 450], line.sending := some ⟨[], .busy⟩ })
      (fun t => t.line.queue = [.actuator ⟨22, 4⟩ 7000, .actuator ⟨24, 0⟩ 0] &&
        t.scene.groups[(6 : GroupIx)].level = 0 && t.scene.groups[(6 : GroupIx)].hazeBlocked) = true := by
  decide +kernel

/-- A part in SETBACK, entered from EVENT, as in chapter 8.4. -/
def night : State := { withPoint 90 (freshAt p90Def 2) show1 with
  mode := { show1.mode with mode := .setback, previous := .event } }

/-- Chapter 8.4, a night in setback: p90 reports 2, and the wake notice is 5,898,268. -/
theorem test_wake :
    after (exec (.valueReport 90 2) night) (fun t => t.mode.mode = .event &&
      t.handed = [.noticeOffer .mode 0 5898268, .reallocationRequest, .electricRecompute]) = true := by
  decide +kernel

/-- Chapter 8.4: p90 reports 0, and nothing happens. -/
theorem test_no_wake : after (exec (.valueReport 90 0) night) (fun t => t.mode.mode = .setback) = true := by
  decide +kernel

/-- Chapter 8.4: SET_MODE SETBACK from EVENT offers 3 and writes the memory. -/
theorem test_set_mode :
    after (exec (.setMode 0) (ask .setMode [3#8] show1)) (fun t => t.mode.mode = .setback &&
      t.mode.previous = .event && t.handed.head? = some (.noticeOffer .mode 0 3)) = true := by
  decide +kernel

/-- Chapter 8.5, covering sheet 1 during a fog watch: FOG_STATE 4. -/
theorem test_cover_sheet :
    after (exec (.coverSheet 0) (ask .coverSheet [1#8] { rink with fog.sheet1 := sheetAt .watch 184 true 900 }))
      (fun t => t.mode.cover1 && t.fog.sheet1.fog = .clear &&
        t.handed = [.noticeOffer .fogState 1 4, .capHanding .one ⟨1000, 1000, 1000⟩, .reallocationRequest]) = true := by
  decide +kernel

/-- Chapter 10.3, a busy second: a coalesced notice keeps its place, and a full queue counts. -/
theorem test_notices :
    let q := List.replicate 30 (⟨.transferred, 9, 0, 3600⟩ : Notice) ++ [⟨.fogState, 1, 1, 3600⟩, ⟨.pointStale, 60, 180, 3602⟩]
    let s := { base with
      notices.queue := q, notices.seconds := 3602, line.sending := some ⟨[], .busy⟩ }
    after (exec (.noticeOffer .fogState 1 6) s) (fun t =>
        (t.notices.queue.drop 30).head? = some ⟨.fogState, 1, 6, 3602⟩ && t.notices.overflow = 0) = true ∧
      after (exec (.noticeOffer .lineUp 0 850) s) (fun t => t.notices.queue = q && t.notices.overflow = 1) = true := by
  decide +kernel

/-- Chapter 9.1, three requests meet the stage: with both slots held a request is answered BUSY. -/
theorem test_busy :
    after (exec (.frameArrival (frameOf 5 9 3 1 [0x50#8, 7#8])) { base with
        responder.slot0 := .replying, responder.slot1 := .replying, line.sending := some ⟨[], .busy⟩ })
      (fun t => t.line.queue = [.busy 9 [0x50#8, 7#8, 1#8]]) = true := by
  decide +kernel

/-- R175, R194: READ_STATUS of the controller is staged and handed, a code that names no request is UNKNOWN, a payload
one byte short is BAD_FORMAT, and a node without PLANT is answered RIGHTS. -/
theorem test_checks :
    checkRequest allRights [0x60#8, 40#8, 0#8] = .pass .readStatus ∧
      checkRequest allRights [0x7F#8, 40#8] = .refuse .unknown ∧
      checkRequest allRights [0x60#8, 40#8] = .refuse .badFormat ∧
      checkRequest readOnlyRights [0x51#8, 7#8, 0#8] = .refuse .rights := by
  decide

/-- Chapter 11.5: WRITE_POINT arguments written out byte by byte for p7 of chapter 2.3. -/
theorem test_point_layout :
    pointArgs 5 [7#8, 17#8, 0#8, 0#8, 12#8, 0x07#8, 0xD0#8, 0xFF#8, 0xF8#8, 0x30#8, 0xFF#8, 0xF8#8, 0x30#8, 0x00#8,
      0x11#8, 0x94#8, 0x01#8, 0x2C#8, 3#8, 0#8, 0#8, 0#8, 0#8, 0#8, 0#8] = some p7Def := by
  decide +kernel

/-- Chapter 9, restart during a show: the completion of DONE 60 empties the queue and frees both slots. -/
theorem test_restart :
    after (exec .lineOutSendComplete { arena with
        line.sending := some ⟨[], .reply 0 true⟩, line.queue := [.reply 1 9 [0x41#8, 61#8, 0#8] false]
        responder := ⟨.replying, .replying, 0, false, true⟩ })
      (fun t => t.line.queue = [] && t.responder = ⟨.free, .free, 0, false, false⟩ && t.notices.causeRestart) = true := by
  decide +kernel

/-- R22: the straps admit the part when both are 62 or less and differ. -/
theorem test_straps :
    after (exec (.powerOnReset 62 0) base) (fun t => t.line.relay) = true ∧
      after (exec (.powerOnReset 5 5) base) (fun t => !t.line.relay) = true ∧
      after (exec (.powerOnReset 5 63) base) (fun t => !t.line.relay) = true ∧
      after (exec .resetAsserted base) (fun t => t.line.held && !t.line.relay) = true := by
  decide +kernel

/-- Chapter 4.1, loading the table: a segment 3 that begins at 3560 is refused against E[27] = 3567, and one that begins
at 3782 is taken. -/
theorem test_load_dew_table :
    let s := { base with fog := { base.fog with dew := dewExample, loaded := #v[true, true, true, false] } }
    (loadDewTable (u8 3 ++ u8 0 ++ u16 3560 ++ ((dewResult s.fog 3).drop 2)) s).status = .range ∧
      (loadDewTable (u8 3 ++ u8 0 ++ dewResult s.fog 3) s).status = .done := by
  decide +kernel

/-- R179: the last ADMIN right cannot be taken away. -/
theorem test_last_admin :
    (writeRights [6#8, 7#8] base).status = .conflict ∧ (writeRights [9#8, 5#8] base).status = .done := by
  decide +kernel

/-- Chapter 6.5: the commit side of a pair in TRANSFER cannot be locked, and an output side never. -/
theorem test_lock_buffer :
    (lockBuffer [4#8] (checkTransfers pairs)).status = .done ∧
      (lockBuffer [4#8] (startTransfer 2 pairs)).status = .lockError ∧ (lockBuffer [5#8] pairs).status = .pairError := by
  decide +kernel

/-- R185, log entry 5: a step with no command waiting takes what has been handed, and then time passes. -/
theorem test_idle_step :
    after (step { base with handed := [.noticeOffer .mode 0 3] }) (fun t => t.handed = [] && t.timeBase = 0) = true ∧
      after (step base) (fun t => t.timeBase = 1 && t.line.wakeTimer = some 9) = true := by
  decide +kernel

/-! ### Witnesses: states and operands that meet the hypotheses of the statements -/

theorem fromOther {frame : List Byte} {s : State}
    (h : s.line.held = false ∧ s.line.relay = true ∧ goodFrame frame = true ∧ sourceOf frame ≠ s.line.own ∧
      1 ≤ kindOf frame ∧ kindOf frame ≤ 7) : FromOther frame s :=
  ⟨h.1, h.2.1, h.2.2.1, h.2.2.2.1, h.2.2.2.2⟩

/-- A part whose node 9 has been seen with sequence 4. -/
def heard : State := { base with line.nodes := base.line.nodes.set 9 ⟨true, 4, 0, 0, allRights⟩ }

/-- A SAMPLE frame of node 9, addressed to 63, with one entry. -/
def sampleFrame (seq : Nat) : List Byte := frameOf 63 9 1 seq (u8 3 ++ u16 5260)

/-- The part with so many frames in the Forward Buffer. -/
def crowded (n : Nat) (s : State) : State := { s with line.forward := List.replicate n (sampleFrame 0) }

theorem witness_stepRunsTheFrontCommand :
    (powerOnState 5 6 [.secondsTick, .stepStart]).pending = .secondsTick :: [.stepStart] := rfl

theorem witness_idleStep :
    (({ base with handed := [.hazeCut .one] } : State).pending = [] ∧
      ({ base with handed := [.hazeCut .one] } : State).handed = .hazeCut .one :: []) ∧
    (({ base with line.held := true } : State).pending = [] ∧ ({ base with line.held := true } : State).handed = [] ∧
      ({ base with line.held := true } : State).line.held = true) ∧
    base.pending = [] ∧ base.handed = [] ∧ base.line.held = false := by
  refine ⟨⟨rfl, rfl⟩, ⟨rfl, rfl, rfl⟩, rfl, rfl, rfl⟩

theorem witness_everyCommand_held :
    ({ base with line.held := true } : State).line.held = true ∧
      (∀ own controller, Instr.secondsTick ≠ .powerOnReset own controller) ∧ Instr.secondsTick ≠ .resetAsserted :=
  ⟨rfl, by simp, by simp⟩

/-- Of the two requests, the first is refused with STATE and the second is a read. -/
theorem witness_refusedRequests :
    CanTake .enablePoint 0 (asked .enablePoint [0#8]) (ask .enablePoint [0#8] base) ∧
      (enablePoint [0#8] base).status ≠ .done ∧
      CanTake .readPoint 0 (asked .readPoint [255#8]) (ask .readPoint [255#8] base) ∧
      rightOf .readPoint = .read ∧ Req.readPoint ≠ .readStatus :=
  ⟨canTake_ask rfl rfl, by decide +kernel, canTake_ask rfl rfl, rfl, by decide⟩

/-- A request in slot 1 that is not made to wait for the other. -/
theorem witness_refusedRequests_slot1 :
    CanTake .readNode 1 (asked .readNode [0#8])
      { base with responder := ⟨.checked (asked .writePoint []), .checked (asked .readNode [0#8]), 0, false, false⟩ } where
  awake := rfl
  staged := rfl
  code := rfl
  first := by
    intro p hp _
    have : p = asked .writePoint [] := by simpa [slotOf, otherSlot] using hp.symm
    subst this
    decide

theorem witness_restart_taken : CanTake .restart 0 (asked .restart []) (ask .restart [] arena) := canTake_ask rfl rfl

/-- The state in which the DONE reply of a RESTART is being sent. -/
def restarting : State := { arena with
  line.sending := some ⟨frameOf 6 5 4 0 [0x64#8, 60#8, 0#8], .reply 0 true⟩
  responder := ⟨.replying, .free, 0, false, true⟩ }

theorem witness_restart_effect :
    restarting.line.held = false ∧
      restarting.line.sending = some ⟨frameOf 6 5 4 0 [0x64#8, 60#8, 0#8], .reply 0 true⟩ ∧
      restarting.responder.restartPending = true := ⟨rfl, rfl, rfl⟩

/-! #### The line -/

/-- RESTART with pair 2 ready and sheet 1 ENABLED: the transfer starts, and the haze cut sends g6 a 0. -/
theorem test_restart_engine_and_cut :
    after (exec .lineOutSendComplete { restarting with
        scene.buffers := (base.scene.buffers.set 4 (pairSide .locked true false 4 4 .immediate)).set 5
          (pairSide .selected true true 7 5 .immediate)
        fog.sheet1 := sheetAt .clear 0 false 0, line.forward := [sampleFrame 0] })
      (fun t => t.scene.engine = some 2 && t.line.queue = [.actuator ⟨24, 0⟩ 0] &&
        t.scene.groups[(6 : GroupIx)].hazeBlocked) = true := by
  decide +kernel

/-- A frame cut short, a frame of the part itself, and a frame of an unknown kind, 0 and 8. -/
theorem witness_frames_first_tests :
    base.line.held = false ∧ base.line.relay = true ∧ goodFrame ((sampleFrame 0).take 9) = false ∧
      goodFrame (frameOf 63 5 6 0 []) = true ∧ sourceOf (frameOf 63 5 6 0 []) = base.line.own ∧
      (goodFrame (frameOf 63 62 0 0 []) = true ∧ sourceOf (frameOf 63 62 0 0 []) ≠ base.line.own ∧
        kindOf (frameOf 63 62 0 0 []) = 0) ∧
      goodFrame (frameOf 63 0 8 0 []) = true ∧ sourceOf (frameOf 63 0 8 0 []) ≠ base.line.own ∧
        7 < kindOf (frameOf 63 0 8 0 []) := by
  decide +kernel

theorem witness_frames_full :
    FromOther (sampleFrame 0) (crowded 4 base) ∧ ¬ManagesPart (sampleFrame 0) (crowded 4 base) ∧
      4 ≤ (crowded 4 base).line.forward.length :=
  ⟨fromOther (by decide +kernel), by unfold ManagesPart; decide +kernel, by decide +kernel⟩

/-- A SAMPLE frame whose length its row does not allow, and a REPLY for another node. -/
theorem witness_frames_unread :
    (FromOther (frameOf 63 9 1 0 [0#8]) base ∧ ¬ManagesPart (frameOf 63 9 1 0 [0#8]) base ∧
      sampleLength (lengthOf (frameOf 63 9 1 0 [0#8])) = false ∧ kindOf (frameOf 63 9 1 0 [0#8]) ≠ 2) ∧
    FromOther (frameOf 8 9 4 0 []) base ∧ ¬ManagesPart (frameOf 8 9 4 0 []) base ∧ kindOf (frameOf 8 9 4 0 []) ≠ 1 ∧
      kindOf (frameOf 8 9 4 0 []) ≠ 2 :=
  ⟨⟨fromOther (by decide +kernel), by unfold ManagesPart; decide +kernel, by decide +kernel⟩,
    fromOther (by decide +kernel), by unfold ManagesPart; decide +kernel, by decide +kernel⟩

theorem witness_frames_sample :
    (FromOther (sampleFrame 4) (crowded 3 heard) ∧ ¬ManagesPart (sampleFrame 4) (crowded 3 heard) ∧
      kindOf (sampleFrame 4) = 1 ∧ sampleLength (lengthOf (sampleFrame 4)) = true ∧
      (crowded 3 heard).line.forward.length < 4 ∧ IsRepeat (sampleFrame 4) (crowded 3 heard)) ∧
    FromOther (sampleFrame 5) (crowded 3 heard) ∧ ¬ManagesPart (sampleFrame 5) (crowded 3 heard) ∧
      kindOf (sampleFrame 5) = 1 ∧ sampleLength (lengthOf (sampleFrame 5)) = true ∧
      ¬IsRepeat (sampleFrame 5) (crowded 3 heard) :=
  ⟨⟨fromOther (by decide +kernel), by unfold ManagesPart; decide +kernel, by decide +kernel, by decide +kernel,
      by decide +kernel, by unfold IsRepeat; decide +kernel⟩,
    fromOther (by decide +kernel), by unfold ManagesPart; decide +kernel, by decide +kernel, by decide +kernel,
    by unfold IsRepeat; decide +kernel⟩

/-- A node not seen, a duplicate, and an accepted frame; and a READ_NODE of node 63. -/
theorem witness_sequenceTest :
    (FromOther (sampleFrame 4) base ∧ (nodeRec base.line (sourceOf (sampleFrame 4))).seen = false) ∧
    (FromOther (sampleFrame 4) heard ∧ (nodeRec heard.line (sourceOf (sampleFrame 4))).seen = true ∧
      seqOf (sampleFrame 4) = (nodeRec heard.line (sourceOf (sampleFrame 4))).last) ∧
    (FromOther (sampleFrame 3) heard ∧ (nodeRec heard.line (sourceOf (sampleFrame 3))).seen = true ∧
      seqOf (sampleFrame 3) ≠ (nodeRec heard.line (sourceOf (sampleFrame 3))).last ∧
      (nodeRec heard.line (sourceOf (sampleFrame 3))).last < 16) ∧
    CanTake .readNode 0 (asked .readNode [63#8]) (ask .readNode [63#8] base) ∧
      byteAt (asked .readNode [63#8]).args 0 = (63 : Fin 64).val :=
  ⟨⟨fromOther (by decide +kernel), by decide +kernel⟩, ⟨fromOther (by decide +kernel), by decide +kernel⟩,
    ⟨fromOther (by decide +kernel), by decide +kernel⟩, canTake_ask rfl rfl, by decide⟩

/-- The record that owns an address of the arena, alone. -/
theorem mine_arena (node channel : Nat) (o : ActOwner)
    (h : node < 63 ∧ ownerOf arena ⟨node, channel⟩ = some o ∧ ownsOnly arena ⟨node, channel⟩ o = true) :
    node < 63 ∧ ∀ p, Owns arena ⟨node, channel⟩ p → p = o :=
  ⟨h.1, owner_of_ownsOnly h.2.2⟩

theorem witness_commandEntries_none :
    63 ≤ 63 ∧ 62 < 63 ∧ (∀ o, ¬Owns arena ⟨62, 0⟩ o) ∧ (∀ o, ¬Owns arena ⟨22, 15⟩ o) :=
  ⟨by decide, by decide, no_owner (by decide +kernel), no_owner (by decide +kernel)⟩

theorem witness_commandEntries_consumers :
    (22 < 63 ∧ Owns arena ⟨22, 3⟩ (.consumer 4) ∧ (∀ p, Owns arena ⟨22, 3⟩ p → p = .consumer 4) ∧
      arena.budget.consumers[(4 : ConsumerIx)].state = .enabled ∧
      arena.budget.consumers[(4 : ConsumerIx)].defn.handling = some .govern) ∧
    (Owns arena ⟨22, 4⟩ (.consumer 0) ∧ (∀ p, Owns arena ⟨22, 4⟩ p → p = .consumer 0) ∧
      arena.budget.consumers[(0 : ConsumerIx)].defn.handling = some .drive) ∧
    Owns idleArena ⟨22, 3⟩ (.consumer 4) ∧ (∀ p, Owns idleArena ⟨22, 3⟩ p → p = .consumer 4) ∧
      idleArena.budget.consumers[(4 : ConsumerIx)].state ≠ .enabled :=
  ⟨⟨by decide, by unfold Owns; decide +kernel, owner_of_ownsOnly (by decide +kernel), by decide +kernel⟩,
    ⟨by unfold Owns; decide +kernel, owner_of_ownsOnly (by decide +kernel), by decide +kernel⟩,
    by unfold Owns; decide +kernel, owner_of_ownsOnly (by decide +kernel), by decide +kernel⟩

theorem witness_commandEntries_zones :
    (Owns arena ⟨23, 0⟩ (.zoneValve 0) ∧ (∀ p, Owns arena ⟨23, 0⟩ p → p = .zoneValve 0)) ∧
    (Owns arena ⟨23, 1⟩ (.zoneBoost 0) ∧ (∀ p, Owns arena ⟨23, 1⟩ p → p = .zoneBoost 0)) ∧
    arena.zones.zones[(0 : ZoneIx)].state = .enabled ∧
    (Owns idleArena ⟨23, 0⟩ (.zoneValve 0) ∧ (∀ p, Owns idleArena ⟨23, 0⟩ p → p = .zoneValve 0)) ∧
    (Owns idleArena ⟨23, 1⟩ (.zoneBoost 0) ∧ (∀ p, Owns idleArena ⟨23, 1⟩ p → p = .zoneBoost 0)) ∧
    idleArena.zones.zones[(0 : ZoneIx)].state ≠ .enabled :=
  ⟨⟨by unfold Owns; decide +kernel, owner_of_ownsOnly (by decide +kernel)⟩,
    ⟨by unfold Owns; decide +kernel, owner_of_ownsOnly (by decide +kernel)⟩, by decide +kernel,
    ⟨by unfold Owns; decide +kernel, owner_of_ownsOnly (by decide +kernel)⟩,
    ⟨by unfold Owns; decide +kernel, owner_of_ownsOnly (by decide +kernel)⟩, by decide +kernel⟩

theorem witness_commandEntries_groups :
    (Owns arena ⟨24, 0⟩ (.group 6) ∧ (∀ p, Owns arena ⟨24, 0⟩ p → p = .group 6) ∧
      arena.scene.groups[(6 : GroupIx)].state = .enabled) ∧
    Owns idleArena ⟨24, 0⟩ (.group 6) ∧ (∀ p, Owns idleArena ⟨24, 0⟩ p → p = .group 6) ∧
      idleArena.scene.groups[(6 : GroupIx)].state ≠ .enabled :=
  ⟨⟨by unfold Owns; decide +kernel, owner_of_ownsOnly (by decide +kernel), by decide +kernel⟩,
    by unfold Owns; decide +kernel, owner_of_ownsOnly (by decide +kernel), by decide +kernel⟩

/-- A COMMAND frame of node 9 for node 23: the valve and the boost of z0, and an address without an owner. -/
def zoneCommand : List Byte := frameOf 23 9 2 5 (u8 0 ++ u16 7500 ++ u8 1 ++ u16 3 ++ u8 15 ++ u16 9)

/-- A COMMAND frame for the preheat valve. -/
def preheatCommand : List Byte := frameOf 22 9 2 5 (u8 3 ++ u16 7500)

theorem witness_forwardedCommand :
    (FromOther zoneCommand (crowded 3 arena) ∧ kindOf zoneCommand = 2 ∧ commandLength (lengthOf zoneCommand) = true ∧
      (crowded 3 arena).line.forward.length < 4 ∧ 3 * 2 < lengthOf zoneCommand ∧
      entryOwner (crowded 3 arena) 23 0 = some (.zoneValve 0) ∧
      entryOwner (crowded 3 arena) 23 1 = some (.zoneBoost 0) ∧ entryOwner (crowded 3 arena) 23 15 = none) ∧
    FromOther preheatCommand arena ∧ kindOf preheatCommand = 2 ∧ commandLength (lengthOf preheatCommand) = true ∧
      entryOwner arena 22 3 = some (.consumer 4) ∧
      arena.budget.consumers[(4 : ConsumerIx)].defn.handling = some .govern :=
  ⟨⟨fromOther (by decide +kernel), by decide +kernel⟩, fromOther (by decide +kernel), by decide +kernel⟩

/-- The three checks: no handle, a code that names no request, a wrong length, a missing right, and a request that
passes. -/
theorem witness_requests_checks :
    [0x60#8].length < 2 ∧ reqOfCode 0x7F#8 = none ∧ reqOfCode 0x60#8 = some .readStatus ∧
      argsFit .readStatus [] = false ∧ argsFit .readStatus [0#8] = true ∧
      holdsRight ⟨false, true, true, true⟩ (rightOf .readStatus) = false ∧
      holdsRight readOnlyRights (rightOf .readStatus) = true := by
  decide

/-- A READ_STATUS of node 9 for the part. -/
def statusFrame (seq : Nat) : List Byte := frameOf 5 9 3 seq [0x60#8, 40#8, 0#8]

/-- Both slots held, and so many BUSY replies pending. -/
def full (busy : Nat) : State := { heard with
  responder := ⟨.replying, .checked (asked .setMode [0#8]), 1, false, false⟩
  line.queue := List.replicate busy (.busy 9 []) }

theorem witness_requests_held :
    (FromOther (statusFrame 4) heard ∧ ManagesPart (statusFrame 4) heard ∧ IsRepeat (statusFrame 4) heard) ∧
    (FromOther (statusFrame 5) (full 5) ∧ ManagesPart (statusFrame 5) (full 5) ∧ ¬IsRepeat (statusFrame 5) (full 5) ∧
      (full 5).responder.slot0 ≠ .free ∧ (full 5).responder.slot1 ≠ .free ∧
      ((full 5).line.queue.filter isBusy).length < 6) ∧
    FromOther (statusFrame 5) (full 6) ∧ ManagesPart (statusFrame 5) (full 6) ∧ ¬IsRepeat (statusFrame 5) (full 6) ∧
      (full 6).responder.slot0 ≠ .free ∧ (full 6).responder.slot1 ≠ .free ∧
      ¬((full 6).line.queue.filter isBusy).length < 6 :=
  ⟨⟨fromOther (by decide +kernel), by unfold ManagesPart; decide +kernel, by unfold IsRepeat; decide +kernel⟩,
    ⟨fromOther (by decide +kernel), by unfold ManagesPart; decide +kernel, by unfold IsRepeat; decide +kernel,
      by decide +kernel⟩,
    fromOther (by decide +kernel), by unfold ManagesPart; decide +kernel, by unfold IsRepeat; decide +kernel,
    by decide +kernel⟩

/-- R21, log entry 31: a request of no bytes that finds both slots held is answered BUSY with code 0 and handle 0. -/
theorem test_busy_empty :
    after (exec (.frameArrival (frameOf 5 9 3 5 [])) { full 0 with line.sending := some ⟨[], .busy⟩ })
      (fun t => t.line.queue = [.busy 9 [0#8, 0#8, 1#8]]) = true := by
  decide +kernel

/-- Slot 0 free, and slot 1 free beside a CHECKED request, for a request that passes and one that is refused. -/
theorem witness_requests_slots :
    (FromOther (statusFrame 5) heard ∧ ManagesPart (statusFrame 5) heard ∧ ¬IsRepeat (statusFrame 5) heard ∧
      slotOf heard.responder 0 = .free ∧
      checkRequest (nodeRec heard.line (sourceOf (statusFrame 5))).rights (payloadOf (statusFrame 5)) =
        .pass .readStatus) ∧
    (let s := ask .setMode [0#8] heard
     slotOf s.responder 1 = .free ∧ s.responder.slot0 ≠ .free) ∧
    FromOther (frameOf 5 9 3 5 [0x60#8]) heard ∧ ManagesPart (frameOf 5 9 3 5 [0x60#8]) heard ∧
      ¬IsRepeat (frameOf 5 9 3 5 [0x60#8]) heard ∧
      checkRequest (nodeRec heard.line (sourceOf (frameOf 5 9 3 5 [0x60#8]))).rights
        (payloadOf (frameOf 5 9 3 5 [0x60#8])) = .refuse .badFormat :=
  ⟨⟨fromOther (by decide +kernel), by unfold ManagesPart; decide +kernel, by unfold IsRepeat; decide +kernel,
      by decide +kernel⟩, by decide +kernel,
    fromOther (by decide +kernel), by unfold ManagesPart; decide +kernel, by unfold IsRepeat; decide +kernel,
    by decide +kernel⟩

/-- The part with Line In UP. -/
def awake : State := { base with line.up := true, line.silenceTimer := some 100, line.wakeTimer := none }

theorem witness_lineTimers :
    (awake.line.held = false ∧ awake.line.up = true ∧ awake.line.silenceTimer ≠ none) ∧
    (base.line.held = false ∧ base.line.up = false ∧ base.line.wakeTimer ≠ none) ∧
    (base.line.statusTimer ≠ none ∧ base.notices.status = none) ∧
    ({ base with notices.status := some [] } : State).line.statusTimer ≠ none ∧
      ({ base with notices.status := some [] } : State).notices.status ≠ none := by
  decide +kernel

/-- The arbiter: busy; a forwarded frame alone; one beside another source at run counts 3 and 4; the five other sources
in turn; nothing, with and without a pending WAKE frame. -/
theorem witness_arbiter :
    (restarting.line.sending ≠ none) ∧
    ((crowded 1 base).line.sending = none ∧ (crowded 1 base).line.forward = sampleFrame 0 :: [] ∧
      ¬((crowded 1 base).line.queue ≠ [] ∨ (crowded 1 base).notices.queue ≠ [] ∨
        (crowded 1 base).notices.status ≠ none)) ∧
    (let s := { crowded 1 base with line.queue := [.busy 9 []], line.runCount := 3 }
     s.line.sending = none ∧ s.line.forward = sampleFrame 0 :: [] ∧ s.line.queue ≠ [] ∧ s.line.runCount < 4) ∧
    (let s := { crowded 1 base with line.queue := [.actuator ⟨22, 3⟩ 0], line.runCount := 4 }
     s.line.sending = none ∧ 4 ≤ s.line.runCount ∧ s.line.queue = .actuator ⟨22, 3⟩ 0 :: []) ∧
    (let s := { base with line.queue := [.reply 1 6 [] false, .busy 9 []] }
     s.line.forward = [] ∧ s.line.queue = .reply 1 6 [] false :: [.busy 9 []]) ∧
    (let s := { base with line.queue := [.busy 9 []] }
     s.line.forward = [] ∧ s.line.queue = .busy 9 [] :: []) ∧
    (let s := { base with notices.queue := [⟨.mode, 0, 3, 0⟩], notices.status := some [] }
     s.line.forward = [] ∧ s.line.queue = [] ∧ s.notices.queue = ⟨.mode, 0, 3, 0⟩ :: []) ∧
    (let s := { base with notices.status := some [] }
     s.line.forward = [] ∧ s.line.queue = [] ∧ s.notices.queue = [] ∧ s.notices.status = some []) ∧
    base.line.sending = none ∧ base.line.forward = [] ∧
      ¬(base.line.queue ≠ [] ∨ base.notices.queue ≠ [] ∨ base.notices.status ≠ none) := by
  refine ⟨?_, ?_, ?_, ?_, ?_, ?_, ?_, ?_, ?_⟩ <;> decide +kernel

theorem witness_sendComplete :
    (let s := { base with line.sending := some ⟨[], .wake⟩ }
     s.line.held = false ∧ s.line.sending = some ⟨[], .wake⟩ ∧
       ∀ slot restart, SendSource.wake ≠ .reply slot restart) ∧
    ({ base with line.sending := some ⟨[], .reply 1 false⟩ } : State).line.sending = some ⟨[], .reply 1 false⟩ :=
  ⟨⟨rfl, rfl, by simp⟩, rfl⟩

/-- A queue that holds no command for (22, 4), and one for (22, 3) at its head and between two entries. -/
theorem witness_queueCommand :
    (∀ w, .actuator ⟨22, 4⟩ w ∉ ([.busy 9 [], .actuator ⟨22, 3⟩ 7] : List QueueEntry)) ∧
    (∀ x, .actuator ⟨22, 3⟩ x ∉ ([] ++ [.busy 9 []] : List QueueEntry)) ∧
    ∀ x, .actuator ⟨22, 3⟩ x ∉ ([.busy 9 []] ++ [.actuator ⟨24, 0⟩ 450] : List QueueEntry) := by
  simp

/-! #### Points -/

theorem reaches_withPoint (i : PointIx) (p : Point) (h : p.state ≠ .unused ∧ p.state ≠ .disabled) :
    Reaches p.defn.node p.defn.channel i (withPoint i p base) where
  enabled := by rw [withPoint_same]; exact h
  key := by rw [withPoint_same]; exact ⟨rfl, rfl⟩
  only := by
    intro j hj hu
    rw [withPoint_other i j p base hj, base_point] at hu
    exact absurd rfl hu

/-- p7 with a presented value. -/
def p7 : Point := freshAt p7Def 1186

/-- p40 in a state, with streaks. -/
def p40 (state : PointState) (spikes recovery : Nat) : Point :=
  { freshAt p40Def 5260 with state := state, spikeCount := spikes, recovery := recovery }

theorem witness_rejectedEntries :
    Reaches 17 0 7 (withPoint 7 p7 base) ∧
      2 ^ (withPoint 7 p7 base).points[(7 : PointIx)].defn.rawWidth - 1 < 4096 :=
  ⟨reaches_withPoint 7 p7 (by decide), by rw [withPoint_same]; decide⟩

/-- An entry no enabled point matches: no point at all, and a DISABLED one. -/
theorem witness_entry_unmatched :
    (∀ i : PointIx, base.points[i].defn.node = 9 ∧ base.points[i].defn.channel = 3 →
      base.points[i].state = .unused ∨ base.points[i].state = .disabled) ∧
    ∀ i : PointIx, (withPoint 40 (clearedPoint p40Def .disabled) base).points[i].defn.node = 9 ∧
        (withPoint 40 (clearedPoint p40Def .disabled) base).points[i].defn.channel = 3 →
      (withPoint 40 (clearedPoint p40Def .disabled) base).points[i].state = .unused ∨
        (withPoint 40 (clearedPoint p40Def .disabled) base).points[i].state = .disabled := by
  refine ⟨fun i _ => .inl (by rw [base_point]; rfl), fun i _ => ?_⟩
  rcases Classical.em (i = 40) with rfl | h
  · exact .inr (by rw [withPoint_same]; rfl)
  · exact .inl (by rw [withPoint_other _ _ _ _ h, base_point]; rfl)

/-- The candidates of the spike test: 5760 lies at the limit of 500 and 5761 beyond it; with two spikes ABOVE counted
the third passes. -/
theorem witness_entry_spikes :
    (∀ n, Reaches 9 3 40 (withPoint 40 (p40 .fresh n 0) base)) ∧ 5761 ≤ 2 ^ p40Def.rawWidth - 1 ∧
      0 < p40Def.maxStep ∧ candidateValue p40Def 5760 = 5760 ∧ candidateValue p40Def 5761 = 5761 ∧
      ¬((p40Def.maxStep : Int) < |5760 - 5260|) ∧ (p40Def.maxStep : Int) < |5761 - 5260| ∧
      spikeStreak (p40 .fresh 1 0) .above = 2 ∧ spikeStreak (p40 .fresh 2 0) .above = 3 :=
  ⟨fun n => reaches_withPoint 40 (p40 .fresh n 0) (by simp [p40]), by decide, by decide, by decide, by decide,
    by norm_num [p40Def], by norm_num [p40Def], by decide, by decide⟩

/-- Accepted candidates in SETTLING, in STALE_HELD before and at its recover count of 3, and in NEVER. -/
theorem witness_entry_states :
    Reaches 9 3 40 (withPoint 40 (p40 .settling 0 0) base) ∧
    (Reaches 9 3 40 (withPoint 40 (p40 .staleHeld 0 1) base) ∧
      (p40 .staleHeld 0 1).recovery + 1 ≠ (p40 .staleHeld 0 1).defn.recoverCount) ∧
    (Reaches 9 3 40 (withPoint 40 (p40 .staleHeld 0 2) base) ∧
      (p40 .staleHeld 0 2).recovery + 1 = (p40 .staleHeld 0 2).defn.recoverCount) ∧
    Reaches 9 3 40 (withPoint 40 (clearedPoint p40Def .never) base) :=
  ⟨reaches_withPoint 40 (p40 .settling 0 0) (by decide),
    ⟨reaches_withPoint 40 (p40 .staleHeld 0 1) (by decide), by decide⟩,
    ⟨reaches_withPoint 40 (p40 .staleHeld 0 2) (by decide), by decide⟩,
    reaches_withPoint 40 (clearedPoint p40Def .never) (by decide)⟩

/-- WRITE_POINT of p40, whose substitute p41 is loaded. -/
theorem witness_writePoint :
    let s := withPoint 41 (freshAt p41Def 5350) base
    let args := u8 40 ++ pointDefBytes p40Def
    let t := ask .writePoint args s
    CanTake .writePoint 0 (asked .writePoint args) t ∧ pointIxAt args 0 = 40 ∧
      t.points[(40 : PointIx)].state = .unused ∧ pointArgs t.line.own args = some p40Def ∧
      (∀ j : PointIx, j ≠ 40 → t.points[j].state ≠ .unused →
        ¬(t.points[j].defn.node = p40Def.node ∧ t.points[j].defn.channel = p40Def.channel)) ∧
      (∀ j, p40Def.substitute = some j → j ≠ 40 ∧ t.points[j].state ≠ .unused ∧ t.points[j].defn.cls = p40Def.cls) ∧
      (∀ j : PointIx, j ≠ 40 → t.points[j].state ≠ .unused → t.points[j].defn.substitute = some 40 →
        t.points[j].defn.cls = p40Def.cls) := by
  intro s args t
  have other : ∀ j : PointIx, j ≠ 41 → t.points[j] = clearedPoint unusedPointDef .unused := by
    intro j hj
    exact (withPoint_other 41 j _ base hj).trans (base_point j)
  have same : t.points[(41 : PointIx)] = freshAt p41Def 5350 := withPoint_same 41 _ base
  refine ⟨canTake_ask rfl rfl, by decide +kernel, ?_, by decide +kernel, ?_, ?_, ?_⟩
  · rw [other 40 (by decide)]
    rfl
  · intro j _ hu
    rcases Classical.em (j = 41) with rfl | h
    · rw [same]
      decide
    · rw [other j h] at hu
      exact absurd rfl hu
  · intro j hj
    obtain rfl : j = 41 := by simpa [p40Def] using hj.symm
    rw [same]
    decide
  · intro j _ hu hs
    rcases Classical.em (j = 41) with rfl | h
    · rw [same] at hs
      simp [freshAt, clearedPoint, p41Def] at hs
    · rw [other j h] at hu
      exact absurd rfl hu

/-- ENABLE_POINT of a DISABLED and of a FRESH point, DISABLE_POINT, CLEAR_SUBSTITUTE. -/
theorem witness_pointRequests :
    (∀ r : Req, ∀ p : Point, CanTake r 0 (asked r [40#8]) (ask r [40#8] (withPoint 40 p base))) ∧
      pointIxAt [40#8] 0 = 40 ∧
      (ask .enablePoint [40#8] (withPoint 40 (clearedPoint p40Def .disabled) base)).points[(40 : PointIx)].state =
        .disabled ∧
      (ask .disablePoint [40#8] (withPoint 40 (p40 .fresh 0 0) base)).points[(40 : PointIx)].state = .fresh ∧
      (ask .clearSubstitute [40#8] (withPoint 40 (p40 .staleHeld 0 0) base)).points[(40 : PointIx)].state =
        .staleHeld :=
  ⟨fun _ _ => canTake_ask rfl rfl, by decide, by decide +kernel, by decide +kernel, by decide +kernel⟩

/-- The stale timer of p40 runs in FRESH with p41 FRESH, in FRESH with p41 unused, in NEVER and in STALE_HELD; the settle
timer of p60 runs in SETTLING. -/
theorem witness_pointTimers :
    (let s := withPoint 41 (freshAt p41Def 5350) (withPoint 40 (p40 .fresh 0 0) base)
     s.line.held = false ∧ s.points[(40 : PointIx)].staleTimer ≠ none ∧
       s.points[(40 : PointIx)].defn.substitute ≠ some 40 ∧ live s.points[(40 : PointIx)] ∧
       s.points[(40 : PointIx)].defn.substitute = some 41 ∧ live s.points[(41 : PointIx)]) ∧
    (let s := withPoint 40 (p40 .settling 0 0) base
     s.points[(40 : PointIx)].staleTimer ≠ none ∧ live s.points[(40 : PointIx)] ∧
       s.points[(40 : PointIx)].defn.substitute = some 41 ∧ ¬live s.points[(41 : PointIx)]) ∧
    (let s := withPoint 40 { p40 .never 0 0 with presented := 0 } base
     s.points[(40 : PointIx)].staleTimer ≠ none ∧ s.points[(40 : PointIx)].state = .never) ∧
    (let s := withPoint 40 (p40 .staleHeld 0 1) base
     s.points[(40 : PointIx)].staleTimer ≠ none ∧ s.points[(40 : PointIx)].state = .staleHeld) ∧
    let s := withPoint 60 { freshAt p60Def 180 with state := .settling, settleTimer := some 4000 } base
    s.line.held = false ∧ s.points[(60 : PointIx)].settleTimer ≠ none ∧ s.points[(60 : PointIx)].state = .settling := by
  unfold live
  decide +kernel

/-- p40 follows p41; p60, FRESH and SETTLING, has a settle time, p40 has none, and p60 stale is left alone. -/
theorem witness_settleStart :
    (let s := withPoint 41 (freshAt p41Def 5350) (withPoint 40 (p40 .staleSub 0 0) base)
     live s.points[(41 : PointIx)] ∧ s.points[(40 : PointIx)].state = .staleSub ∧
       s.points[(40 : PointIx)].defn.substitute = some 41) ∧
    (0 < p60Def.settleTime ∧ live (freshAt p60Def 180) ∧
      live { freshAt p60Def 180 with state := .settling, settleTimer := some 1 }) ∧
    ¬0 < p40Def.settleTime ∧ ¬live { freshAt p60Def 180 with state := .staleHeld } := by
  unfold live
  decide +kernel

/-! #### Budget -/

/-- The recovery settings of chapter 3.5, with their three points loaded. -/
def loop : Recovery := ⟨1, 2, 3, 3950, 2⟩

/-- The arena with the recovery loop loaded and read as in chapter 3.5. -/
def warm : State := { arena with
  points := ((arena.points.set 1 (freshAt (sensorDef 1 .temperature) 4820)).set 2
    (freshAt (sensorDef 2 .temperature) 3970)).set 3 (freshAt (sensorDef 3 .flow) 1250)
  budget.settings := some loop
  budget.smoothed := 4000 }

/-- The inputs an allocation of the warm arena captures. -/
def captured : Capture := captureInputs warm

/-- The warm arena while that allocation is in flight, c4 taking part. -/
def allocating : State := { warm with budget.allocation := some captured }

theorem witness_reallocation :
    (warm.line.held = false ∧ warm.budget.allocation = none ∧ warm.budget.periodTimer ≠ none ∧
      warm.budget.settings = some loop) ∧
    allocating.line.held = false ∧ allocating.budget.allocation ≠ none ∧ allocating.budget.periodTimer ≠ none := by
  refine ⟨⟨rfl, rfl, by decide +kernel, rfl⟩, rfl, by simp [allocating], by decide +kernel⟩

/-- c4 takes part and has a handling; c0 does not take part. -/
theorem witness_completion :
    allocating.line.held = false ∧ allocating.budget.allocation = some captured ∧
      allocating.budget.consumers[(4 : ConsumerIx)].takingPart = true ∧
      captured.consumers[(4 : ConsumerIx)] = some ⟨c4Def, ⟨0, .none⟩, 0⟩ ∧ c4Def.handling ≠ none ∧
      allocating.budget.consumers[(0 : ConsumerIx)].takingPart = false := by
  refine ⟨rfl, rfl, by decide +kernel, by decide +kernel, by decide, by decide +kernel⟩

/-- That allocation with c0 taking part and naming p60 as its settle point, c4 and z0 last forwarded at 10000, and the
pending flag set. -/
def moved : State := { withPoint 60 (freshAt p60Def 180) allocating with
  budget.consumers := (allocating.budget.consumers.set 0
    { clearedConsumer { c0Def with settlePoint := some 60 } .enabled with lastSent := some 7000, takingPart := true }).set
      4 { clearedConsumer c4Def .enabled with lastForwarded := 10000, takingPart := true }
  budget.pendingFlag := true
  zones.zones := allocating.zones.zones.set 0 { clearedZone z0Def .enabled 1000 with lastForwarded := 10000 }
  line.sending := some ⟨[], .busy⟩ }

/-- R72, R73, R114: at its completion c0's position changes and p60 settles, c4 and z0 stand above what they are allowed,
and the consumers' commands precede the valve's (log entry 26). -/
theorem witness_completion_commands :
    after (exec .allocationCompletion moved) (fun t =>
      t.budget.consumers[(0 : ConsumerIx)].allowed != 7000 && t.budget.consumers[(4 : ConsumerIx)].allowed < 10000 &&
        t.points[(60 : PointIx)].state = .settling && t.budget.allocation.isSome &&
        (t.line.queue.map fun e => match e with
          | .actuator a _ => a
          | _ => ⟨0, 0⟩) = [⟨22, 4⟩, ⟨22, 3⟩, ⟨23, 0⟩]) = true := by
  decide +kernel

/-- The premise on the classes, and a usable heat that holds the floor parts and demands, one that does not. -/
theorem witness_grants :
    (∀ i : ConsumerIx, ∀ k, captured.consumers[i] = some k → k.defn.cls ≤ 3) ∧
      captured.consumers[(0 : ConsumerIx)] = some ⟨c0Def, ⟨0, .none⟩, 0⟩ ∧
      (captureSum captured fun _ k => min (demandOf captured k) (effectiveCap captured k)) = 600 ∧
      (captureSum captured fun _ k => min k.defn.floor (min (demandOf captured k) (effectiveCap captured k))) = 200 := by
  refine ⟨?_, by decide +kernel, by decide +kernel, by decide +kernel⟩
  intro i k h
  have all : ∀ i : ConsumerIx, ((captured.consumers[i]).all fun k => decide (k.defn.cls ≤ 3)) = true := by
    decide +kernel
  have := all i
  rw [h] at this
  simpa using this

/-- The limits of Q and Qf, and an allocation in flight. -/
theorem witness_smoothed :
    (999999 ≤ 999999) ∧ (0 : Nat) < 999999 ∧ allocating.line.held = false ∧
      allocating.budget.allocation = some captured := ⟨le_refl _, by decide, rfl, rfl⟩

theorem witness_recomputation :
    show1.line.held = false ∧ (Instr.electricRecompute = .electricRecompute ∧ (0 : Nat) = show1.budget.load) ∧
      Instr.lightingLoadUpdate 319968 = .lightingLoadUpdate 319968 := ⟨rfl, ⟨rfl, rfl⟩, rfl⟩

/-- R113, R114: a load that leaves 400 of the ceiling of 1000 lowers z0 from three stages of 250 to one, and sheds it. -/
theorem test_boost_shed :
    after (exec (.lightingLoadUpdate 600) { arena with
        zones.zones := base.zones.zones.set 0
          { clearedZone z0Def .enabled 1000 with reqStages := 3, allowedStages := 3, lastStages := 3 }
        mode.practiceProfile := { base.mode.practiceProfile with eMax := 1000 }
        line.sending := some ⟨[], .busy⟩ })
      (fun t => t.line.queue = [.actuator ⟨23, 1⟩ 1] && t.zones.zones[(0 : ZoneIx)].lastStages = 1) = true := by
  decide +kernel

theorem writeConsumer_owners (o : ActOwner) : Owns idleArena ⟨22, 3⟩ o → o = .consumer 4 :=
  owner_of_ownsOnly (by decide +kernel) o

/-- WRITE_CONSUMER of c4 over itself. -/
theorem witness_writeConsumer :
    let args := u8 4 ++ consumerDefBytes c4Def
    let s := ask .writeConsumer args idleArena
    CanTake .writeConsumer 0 (asked .writeConsumer args) s ∧ byteAt args 0 = (4 : ConsumerIx).val ∧
      s.budget.consumers[(4 : ConsumerIx)].state ≠ .enabled ∧ consumerArgs args = some c4Def ∧
      (∀ j : ConsumerIx, j ≠ 4 → s.budget.consumers[j].state ≠ .unused →
        s.budget.consumers[j].defn.kind = c4Def.kind → s.budget.consumers[j].defn.sheet = c4Def.sheet →
        c4Def.kind = .preheat ∨ c4Def.kind = .general) ∧
      ∀ a, c4Def.addr = some a → a.node ≠ s.line.own ∧ a.node ≠ 63 ∧ ∀ o, Owns s a o → o = .consumer 4 := by
  intro args s
  refine ⟨canTake_ask rfl rfl, by decide +kernel, by decide +kernel, by decide +kernel, fun _ _ _ _ _ => .inl rfl, ?_⟩
  intro a ha
  obtain rfl : a = ⟨22, 3⟩ := by simpa [c4Def] using ha.symm
  exact ⟨by decide +kernel, by decide, fun o ho => writeConsumer_owners o (by cases o <;> exact ho)⟩

/-- R67, R176: a WRITE_CONSUMER that is taken raises a reallocation request, and one that is refused raises none. -/
theorem test_writeConsumer_reallocates :
    let args := u8 4 ++ consumerDefBytes c4Def
    after (exec (.writeConsumer 0) (ask .writeConsumer args idleArena))
        (fun t => t.handed = [.reallocationRequest] &&
          t.budget.consumers[(4 : ConsumerIx)].state = .disabled) = true ∧
      after (exec (.writeConsumer 0) (ask .writeConsumer args arena)) (fun t => t.handed = []) = true := by
  decide +kernel

theorem witness_consumerRequests :
    (let args := recoveryBytes (some loop)
     let s := ask .writeRecovery args warm
     CanTake .writeRecovery 0 (asked .writeRecovery args) s ∧ recoveryArgs args = some loop ∧
       (s.points[loop.supply].state ≠ .unused ∧ s.points[loop.supply].defn.cls = .temperature) ∧
       (s.points[loop.ret].state ≠ .unused ∧ s.points[loop.ret].defn.cls = .temperature) ∧
       s.points[loop.flow].state ≠ .unused ∧ s.points[loop.flow].defn.cls = .flow) ∧
    (let s := ask .enableConsumer [4#8] idleArena
     CanTake .enableConsumer 0 (asked .enableConsumer [4#8]) s ∧ byteAt [4#8] 0 = (4 : ConsumerIx).val ∧
       s.budget.consumers[(4 : ConsumerIx)].state = .disabled) ∧
    let s := ask .disableConsumer [4#8] arena
    CanTake .disableConsumer 0 (asked .disableConsumer [4#8]) s ∧
      s.budget.consumers[(4 : ConsumerIx)].state = .enabled :=
  ⟨⟨canTake_ask rfl rfl, by decide +kernel⟩, ⟨canTake_ask rfl rfl, by decide +kernel⟩, canTake_ask rfl rfl,
    by decide +kernel⟩

/-! #### Fog -/

theorem witness_fogPeriod :
    rink.line.held = false ∧ (sheetRec rink.fog .one).state = .enabled ∧ (sheetRec rink.fog .one).fogTimer ≠ none ∧
      covered rink .one = false ∧ (∀ r ∈ mainReadings rink (sheetRec rink.fog .one).defn, r.quality ≠ .none) ∧
      sheet1Def.haze = some 60 ∧ rink.points[(60 : PointIx)].state = .fresh ∧
      rink.points[(60 : PointIx)].defn.cls = .haze := by
  decide +kernel

/-- The rows of R91, each at the boundary of its condition: the margins 100, 150, 400 and 450 and one below, the haze
limits 3000 and 1500 and one above. -/
theorem witness_fogRows :
    ((99 : Int) < 100 ∧ evaluatedFog (sheetAt .clear 99 false 0) = .fog ∧
      evaluatedFog (sheetAt .recover 100 true 3001) = .fog) ∧
    (evaluatedFog (sheetAt .clear 399 true 3000) = .watch ∧ evaluatedFog (sheetAt .clear 400 true 3000) = .clear) ∧
    (evaluatedFog (sheetAt .watch 450 false 0) = .clear ∧ evaluatedFog (sheetAt .watch 449 false 0) = .watch) ∧
    (evaluatedFog (sheetAt .fog 150 true 1500) = .recover ∧ evaluatedFog (sheetAt .fog 150 true 1501) = .fog ∧
      evaluatedFog (sheetAt .fog 149 false 0) = .fog) ∧
    evaluatedFog (sheetAt .recover 100 true 3000) = .recover := by
  decide

/-- The table rises; 102 lies below its first entry, 8650 at its last, and 611 at E[0]; the air at and beyond both
limits and in the first and last degrees, at 100.00 %. -/
theorem witness_dewPoint :
    (∀ k, k < 63 → dewEntry dewExample k < dewEntry dewExample (k + 1)) ∧ 102 < dewEntry dewExample 0 ∧
      dewEntry dewExample 63 ≤ 8650 ∧ dewEntry dewExample 20 ≤ 611 ∧ 611 < dewEntry dewExample 21 ∧
      dewEntry dewExample 62 ≤ 8649 ∧ 8649 < dewEntry dewExample 63 ∧
      (-2000 : Int) = 100 * (((0 : Nat) : Int) - 20) + (0 : Nat) ∧
      (4299 : Int) = 100 * (((62 : Nat) : Int) - 20) + (99 : Nat) ∧
      saturationPressure dewExample (-2001) = 103 ∧ saturationPressure dewExample (-350) = 456 ∧
      saturationPressure dewExample 4301 = 8650 ∧ dewPointOf dewExample (vapourPressure dewExample 4300 10000) = 4300 ∧
      dewPointOf dewExample (vapourPressure dewExample (-2000) 10000) = -2000 := by
  decide +kernel

theorem witness_lostInput :
    (let s := { rink with points := base.points }
     s.line.held = false ∧ (sheetRec s.fog .one).state = .enabled ∧ (sheetRec s.fog .one).fogTimer ≠ none ∧
       covered s .one = false ∧ ∃ r ∈ mainReadings s (sheetRec s.fog .one).defn, r.quality = .none) ∧
    let s := { rink with fog.sheet1 := { sheetAt .recover 450 true 900 with recoverTimer := some 0 } }
    s.line.held = false ∧ (sheetRec s.fog .one).recoverTimer ≠ none ∧ fogOf s .one = .recover := by
  refine ⟨⟨rfl, rfl, by decide +kernel, rfl, ?_⟩, rfl, by decide +kernel, rfl⟩
  exact ⟨⟨0, .none⟩, by decide +kernel, rfl⟩

/-- LOAD_DEW_TABLE arguments for a segment. -/
def dewSegment (g : Nat) (fresh : Bool) : List Byte :=
  u8 g ++ u8 (if fresh then 1 else 0) ++ dewResult { base.fog with dew := dewExample } g

/-- Segment 1 between the loaded segments 0 and 2, as in chapter 4.1, and segment 2 with NEW_TABLE set. -/
theorem witness_loadDewTable :
    let s := ask .loadDewTable (dewSegment 1 false) { base with
      fog := { base.fog with dew := dewExample, loaded := #v[true, false, true, false] } }
    CanTake .loadDewTable 0 (asked .loadDewTable (dewSegment 1 false)) s ∧
      byteAt (dewSegment 1 false) 0 = (1 : Fin 4).val ∧ byteAt (dewSegment 1 false) 1 = 0 ∧
      s.fog.sheet1.state ≠ .enabled ∧ s.fog.sheet2.state ≠ .enabled ∧ 0 < wordAt (dewSegment 1 false) 2 ∧
      (∀ k, k < 15 → wordAt (dewSegment 1 false) (2 + 2 * k) < wordAt (dewSegment 1 false) (4 + 2 * k)) ∧
      (∀ b : Fin 4, b.val + 1 = (1 : Fin 4).val → s.fog.loaded[b] = true →
        dewEntry s.fog.dew (16 * (1 : Fin 4).val - 1) < wordAt (dewSegment 1 false) 2) ∧
      (∀ b : Fin 4, b.val = (1 : Fin 4).val + 1 → s.fog.loaded[b] = true →
        wordAt (dewSegment 1 false) 32 < dewEntry s.fog.dew (16 * b.val)) ∧
      byteAt (dewSegment 2 true) 1 = 1 := by
  intro s
  exact ⟨canTake_ask rfl rfl, by decide +kernel⟩

/-- WRITE_SHEET of a sheet not ENABLED, and WRITE_FOG_CAPS with caps at 0 and 1000. -/
theorem witness_fogWrites :
    (let s := { rink with fog.sheet1 := clearedSheet sheet1Def .disabled }
     let args := u8 1 ++ sheetDefBytes sheet1Def
     let t := ask .writeSheet args s
     CanTake .writeSheet 0 (asked .writeSheet args) t ∧ byteAt args 0 = sheetNumber .one ∧
       (sheetRec t.fog .one).state ≠ .enabled ∧ sheetArgs args = some sheet1Def ∧
       (t.points[(10 : PointIx)].state ≠ .unused ∧ t.points[(10 : PointIx)].defn.cls = .temperature) ∧
       (t.points[(11 : PointIx)].state ≠ .unused ∧ t.points[(11 : PointIx)].defn.cls = .temperature) ∧
       (t.points[(12 : PointIx)].state ≠ .unused ∧ t.points[(12 : PointIx)].defn.cls = .temperature) ∧
       (t.points[sheet1Def.humidity].state ≠ .unused ∧ t.points[sheet1Def.humidity].defn.cls = .humidity) ∧
       sheet1Def.haze = some 60 ∧ t.points[(60 : PointIx)].state ≠ .unused ∧
       t.points[(60 : PointIx)].defn.cls = .haze) ∧
    let table : CapTable := ⟨⟨1000, 1000, 1000⟩, ⟨600, 900, 1000⟩, ⟨200, 500, 800⟩, ⟨0, 0, 0⟩⟩
    CanTake .writeFogCaps 0 (asked .writeFogCaps (capTableBytes table))
        (ask .writeFogCaps (capTableBytes table) base) ∧
      capTableArgs (capTableBytes table) = some table :=
  ⟨⟨canTake_ask rfl rfl, by decide +kernel⟩, canTake_ask rfl rfl, by decide +kernel⟩

/-- ENABLE_FOG of a DISABLED sheet, uncovered and covered, and DISABLE_FOG of one in FOG. -/
theorem witness_fogMonitor :
    (let s := ask .enableFog [1#8] { rink with fog.sheet1 := clearedSheet sheet1Def .disabled }
     CanTake .enableFog 0 (asked .enableFog [1#8]) s ∧ byteAt [1#8] 0 = sheetNumber .one ∧
       (sheetRec s.fog .one).state = .disabled ∧ (∀ b : Fin 4, s.fog.loaded[b] = true) ∧ fogOf s .one = .clear) ∧
    let s := ask .disableFog [1#8] { rink with fog.sheet1 := sheetAt .fog (-222) true 900 }
    CanTake .disableFog 0 (asked .disableFog [1#8]) s ∧ byteAt [1#8] 0 = sheetNumber .one ∧
      (sheetRec s.fog .one).state = .enabled :=
  ⟨⟨canTake_ask rfl rfl, by decide +kernel⟩, canTake_ask rfl rfl, by decide +kernel⟩

/-! #### Zones -/

/-- Caps the set holds already and others; z0 ENABLED on sheet 1 and, in the idle arena, DISABLED; z1 without a sheet. -/
theorem witness_capHanding :
    arena.line.held = false ∧ capSet arena.zones .one = ⟨1000, 1000, 1000⟩ ∧
      capSet arena.zones .one ≠ ⟨0, 500, 1000⟩ ∧ arena.zones.zones[(0 : ZoneIx)].defn.sheet = some .one ∧
      arena.zones.zones[(0 : ZoneIx)].state = .enabled ∧ arena.zones.zones[(1 : ZoneIx)].defn.sheet ≠ some .one ∧
      capSet idleArena.zones .one ≠ ⟨0, 500, 1000⟩ ∧ idleArena.zones.zones[(0 : ZoneIx)].defn.sheet = some .one ∧
      idleArena.zones.zones[(0 : ZoneIx)].state ≠ .enabled := by
  decide +kernel

/-- A grant of 1305 under the aggregate of 2100, one at it, and an ENABLED zone. -/
theorem witness_split :
    zoneAggregate stands ≤ 2100 ∧ ¬zoneAggregate stands ≤ 1305 ∧ stands.zones.zones[(0 : ZoneIx)].state = .enabled := by
  decide +kernel

theorem witness_boost :
    (arena.zones.zones[(0 : ZoneIx)].state = .enabled ∧ arena.zones.zones[(0 : ZoneIx)].defn.boost ≠ none ∧
      0 < arena.zones.zones[(0 : ZoneIx)].defn.stagePower) ∧
    stands.zones.zones[(0 : ZoneIx)].defn.boost = none ∧ arena.zones.zones[(1 : ZoneIx)].state ≠ .enabled := by
  decide +kernel

theorem writeZone_owners (a : ActAddr) (h : a = ⟨23, 0⟩ ∨ a = ⟨23, 1⟩) (o : ActOwner) (ho : Owns idleArena a o) :
    o = .zoneValve 0 ∨ o = .zoneBoost 0 := by
  rcases h with rfl | rfl
  · exact .inl (owner_of_ownsOnly (s := idleArena) (by decide +kernel) o ho)
  · exact .inr (owner_of_ownsOnly (s := idleArena) (by decide +kernel) o ho)

/-- WRITE_ZONE of z0 over itself, ENABLE_ZONE and DISABLE_ZONE. -/
theorem witness_zoneRequests :
    (let args := u8 0 ++ zoneDefBytes z0Def
     let s := ask .writeZone args idleArena
     CanTake .writeZone 0 (asked .writeZone args) s ∧ byteAt args 0 = (0 : ZoneIx).val ∧
       s.zones.zones[(0 : ZoneIx)].state ≠ .enabled ∧ zoneArgs args = some z0Def ∧
       (∀ a, a = z0Def.valve ∨ z0Def.boost = some a →
         a.node ≠ s.line.own ∧ a.node ≠ 63 ∧ ∀ o, Owns s a o → o = .zoneValve 0 ∨ o = .zoneBoost 0) ∧
       z0Def.boost ≠ some z0Def.valve) ∧
    (CanTake .enableZone 0 (asked .enableZone [0#8]) (ask .enableZone [0#8] idleArena) ∧
      (ask .enableZone [0#8] idleArena).zones.zones[(0 : ZoneIx)].state = .disabled) ∧
    CanTake .disableZone 0 (asked .disableZone [0#8]) (ask .disableZone [0#8] arena) ∧
      (ask .disableZone [0#8] arena).zones.zones[(0 : ZoneIx)].state = .enabled := by
  refine ⟨⟨canTake_ask rfl rfl, by decide +kernel, by decide +kernel, by decide +kernel, ?_, by decide⟩,
    ⟨canTake_ask rfl rfl, by decide +kernel⟩, canTake_ask rfl rfl, by decide +kernel⟩
  intro a ha
  have h : a = ⟨23, 0⟩ ∨ a = ⟨23, 1⟩ := by
    rcases ha with rfl | ha
    · exact .inl rfl
    · exact .inr (by simpa [z0Def] using ha.symm)
  have n : a.node = 23 := by rcases h with rfl | rfl <;> rfl
  exact ⟨by rw [n]; decide +kernel, by rw [n]; decide,
    fun o ho => writeZone_owners a h o (by cases o <;> exact ho)⟩

/-! #### Buffers, steps and groups -/

/-- Pair 2 with its output side IDLE: eligible in STREAMING mode, its scene played. -/
def ready : State := { pairs with
  scene.buffers := pairs.scene.buffers.set 5 (pairSide .idle true true 7 5 .streaming) }

theorem witness_transfer :
    (ready.scene.engine = none ∧ eligible ready.scene 2 = true ∧ ∀ m : PairIx, m < 2 → eligible ready.scene m = false) ∧
    (∀ n : PairIx, eligible base.scene n = false) ∧
    (checkTransfers ready).scene.engine ≠ none ∧ (checkTransfers ready).line.held = false ∧
      (checkTransfers ready).scene.engine = some 2 := by
  decide +kernel

/-- A SINGLE buffer 3 in a state. -/
def single (state : BufferState) : State := { base with
  scene.buffers := base.scene.buffers.set 3 { powerOnBuffer 3 with state := state, committed := true } }

/-- WRITE_SCENE arguments: one entry, level 1000, into buffer 3. -/
def sceneBytes : List Byte := [3#8, 1#8, 1#8, 31#8, 0x03#8, 0xE8#8, 255#8]

theorem witness_editing :
    byteAt [3#8] 0 = (3 : BufferIx).val ∧
      (∀ st, ¬((single st).scene.buffers[(3 : BufferIx)].type = .paired ∧ (3 : BufferIx).val % 2 = 1)) ∧
      (∀ (r : Req) (st : BufferState), CanTake r 0 (asked r [3#8]) (ask r [3#8] (single st))) ∧
      (single .disabled).scene.buffers[(3 : BufferIx)].state ≠ .transfer ∧
      (single .selected).scene.buffers[(3 : BufferIx)].state ≠ .transfer ∧
      (single .locked).scene.buffers[(3 : BufferIx)].state = .locked ∧
      (single .disabledLocked).scene.buffers[(3 : BufferIx)].state = .disabledLocked ∧
      CanTake .writeScene 0 (asked .writeScene sceneBytes) (ask .writeScene sceneBytes (single .locked)) ∧
      byteAt sceneBytes 0 = (3 : BufferIx).val ∧ sceneArgs sceneBytes = some ⟨[⟨31, 1000, 255⟩], true⟩ ∧
      ¬(pairs.scene.buffers[(4 : BufferIx)].type = .paired ∧ (4 : BufferIx).val % 2 = 1) :=
  ⟨by decide, fun st => by cases st <;> decide +kernel, fun _ _ => canTake_ask rfl rfl, by decide +kernel,
    by decide +kernel, by decide +kernel, by decide +kernel, canTake_ask rfl rfl, by decide +kernel, by decide +kernel,
    by decide +kernel⟩

/-- A DISABLED pair 2. -/
def offPair : State := { base with
  scene.buffers := (base.scene.buffers.set 4 (pairSide .disabled false false 4 4 .streaming)).set 5
    (pairSide .disabled false false 7 5 .streaming) }

/-- CONFIGURE_BUFFER: b3 as SINGLE, b62 as PAIRED, and either side of a DISABLED pair as SINGLE. -/
theorem witness_configureBuffer :
    (let args := [3#8, 0#8, 0#8, 63#8, 63#8, 1#8]
     let s := ask .configureBuffer args base
     CanTake .configureBuffer 0 (asked .configureBuffer args) s ∧ byteAt args 0 = (3 : BufferIx).val ∧
       bufferArgs args = some ⟨.single, .streaming, 63, 63, true⟩ ∧ s.scene.buffers[(3 : BufferIx)].state = .disabled ∧
       s.scene.buffers[partner 3].type = s.scene.buffers[(3 : BufferIx)].type) ∧
    (let args := [62#8, 1#8, 1#8, 0#8, 0#8, 0#8]
     let s := ask .configureBuffer args base
     byteAt args 0 = (62 : BufferIx).val ∧ bufferArgs args = some ⟨.paired, .immediate, 0, 0, false⟩ ∧
       (62 : BufferIx).val % 2 = 0 ∧ s.scene.buffers[(62 : BufferIx)].state = .disabled ∧
       s.scene.buffers[partner 62].state = .disabled ∧
       s.scene.buffers[partner 62].type = s.scene.buffers[(62 : BufferIx)].type) ∧
    let s := ask .configureBuffer [5#8, 0#8, 0#8, 0#8, 0#8, 0#8] offPair
    s.scene.buffers[(5 : BufferIx)].state = .disabled ∧ s.scene.buffers[(5 : BufferIx)].type = .paired ∧
      s.scene.buffers[partner 5].state = .disabled ∧
      s.scene.buffers[partner 5].type = s.scene.buffers[(5 : BufferIx)].type :=
  ⟨⟨canTake_ask rfl rfl, by decide +kernel⟩, by decide +kernel⟩

theorem witness_buffersEnabled :
    (CanTake .enableBuffer 0 (asked .enableBuffer [3#8]) (ask .enableBuffer [3#8] (single .disabledLocked)) ∧
      (single .disabledLocked).scene.buffers[(3 : BufferIx)].type = .single ∧
      (single .disabledLocked).scene.buffers[(3 : BufferIx)].state = .disabledLocked) ∧
    (byteAt [5#8] 0 = (5 : BufferIx).val ∧ offPair.scene.buffers[(5 : BufferIx)].type = .paired ∧
      (5 : BufferIx).val % 2 = 1 ∧ offPair.scene.buffers[(5 : BufferIx)].state = .disabled) ∧
    (CanTake .disableBuffer 0 (asked .disableBuffer [3#8]) (ask .disableBuffer [3#8] (single .locked)) ∧
      (single .locked).scene.buffers[(3 : BufferIx)].state ≠ .selected) ∧
    ready.scene.buffers[(5 : BufferIx)].type = .paired ∧ ready.scene.buffers[(5 : BufferIx)].state = .idle :=
  ⟨⟨canTake_ask rfl rfl, by decide +kernel⟩, by decide +kernel, ⟨canTake_ask rfl rfl, by decide +kernel⟩,
    by decide +kernel⟩

theorem witness_stepStart :
    (pairs.line.held = false ∧ ∃ i : BufferIx, pairs.scene.buffers[i].state ≠ .disabled ∧
      pairs.scene.buffers[i].state ≠ .disabledLocked) ∧
    base.line.held = false ∧
      ∀ i : BufferIx, base.scene.buffers[i].state = .disabled ∨ base.scene.buffers[i].state = .disabledLocked :=
  ⟨⟨rfl, 4, by decide +kernel⟩, rfl, by decide +kernel⟩

/-- The view rises; test_search gives a winner of each class, a hold and a group without a candidate. -/
theorem witness_search : searchView.Pairwise fun c d => c.buffer < d.buffer := by decide

/-- A blocked group, one with a new winner and a fade, one without a fade, and one nothing drives; a fade at its start
and at its end. -/
theorem witness_groupLevels :
    (let s := { arena with fog.sheet1 := sheetAt .watch 184 true 900 }
     blockedNow s g6Def = true ∧ blockedNow s g0Def = false ∧ blockedNow arena g6Def = false) ∧
    (∀ d, lights.scene.groups[(0 : GroupIx)].driver = some d → ¬(d.buffer = 5 ∧ d.generation = 7)) ∧
    searchGroup searchView 12 0 = .winner ⟨5, 1, 7, false, 800, 4⟩ ∧
    searchGroup searchView 12 2 = .winner ⟨3, 0, 2, true, 1000, 0⟩ ∧ searchGroup searchView 12 4 = .none ∧
    (lights.scene.groups[(3 : GroupIx)].driver = some ⟨9, 5, false⟩ ∧
      lights.scene.groups[(3 : GroupIx)].fade = some ⟨0, 900, 3, 1⟩ ∧ searchGroup searchView 12 3 = .hold ∧
      searchGroup searchView 13 3 = .winner ⟨9, 1, 5, false, 900, 3⟩) ∧
    (0 : Nat) < (⟨0, 800, 4, 0⟩ : Fade).length ∧ (⟨0, 800, 4, 4⟩ : Fade).elapsed ≤ (⟨0, 800, 4, 4⟩ : Fade).length := by
  decide +kernel

/-- R151 to R153: the driver of g3 wins again: its fade moves from 1 to 2 of 3, and at its end stays there; without a fade
it takes the level. A hold keeps the level of a group whose driver carries PRIORITY, and puts another under the ceiling. -/
theorem test_same_driver_and_hold :
    let g := { clearedGroup g0Def .enabled with level := 800, driver := some ⟨9, 5, false⟩ }
    let again := SearchResult.winner ⟨9, 1, 5, false, 900, 3⟩
    (levelledGroup lights again { g with fade := some ⟨0, 900, 3, 1⟩ }).level = 600 ∧
      (levelledGroup lights again { g with fade := some ⟨0, 600, 3, 3⟩ }).level = 600 ∧
      (levelledGroup lights again g).level = 700 ∧ (levelledGroup lights .hold g).level = 700 ∧
      (levelledGroup lights .hold { g with driver := some ⟨3, 2, true⟩ }).level = 800 := by
  decide +kernel

theorem witness_searchCompletion :
    lights.line.held = false ∧ lights.scene.search = some 12 ∧ lights.scene.groups[(0 : GroupIx)].state = .enabled ∧
      lights.scene.groups[(5 : GroupIx)].state ≠ .enabled ∧
      searchGroup lights.scene.view 12 0 = .winner ⟨5, 1, 7, false, 800, 4⟩ ∧
      lights.scene.buffers[(5 : BufferIx)].state = .idle ∧ lights.scene.buffers[(5 : BufferIx)].generation = 7 ∧
      isCommitSide 5 lights.scene.buffers[(5 : BufferIx)] = false := by
  decide +kernel

/-- R137, R138, R157: b3, a flash, wins g2 near sheet 1, whose haze point settles; b5 is marked with the copy on b4, and
b9, which wins nothing, keeps its state. -/
theorem test_flash_settles :
    after (exec .searchCompletion { withPoint 60 (freshAt p60Def 180) lights with
        fog.sheet1 := sheetAt .clear 0 false 0
        scene.groups := lights.scene.groups.set 2 { lights.scene.groups[(2 : GroupIx)] with defn.near1 := true } })
      (fun t => t.points[(60 : PointIx)].state = .settling && t.scene.buffers[(4 : BufferIx)].lastPlayed = some 12 &&
        t.scene.buffers[(9 : BufferIx)] = lights.scene.buffers[(9 : BufferIx)]) = true := by
  decide +kernel

/-- g6 is a haze source of sheet 1, and g0 is not. -/
theorem witness_hazeCut :
    arena.line.held = false ∧ HazeGroup .one arena.scene.groups[(6 : GroupIx)] ∧
      ¬HazeGroup .one arena.scene.groups[(0 : GroupIx)] ∧
      ∀ i : GroupIx, HazeGroup .one arena.scene.groups[i] →
        isCommandFor arena.scene.groups[i].defn.dimmer (.actuator ⟨22, 4⟩ 7000) = false := by
  unfold HazeGroup
  decide +kernel

/-- SET_STEP_PERIOD at 5 and 10000 and beyond both, WRITE_GROUP of g6 over itself, ENABLE_GROUP blocked and not, DISABLE_GROUP. -/
theorem witness_groupRequests :
    (CanTake .setStepPeriod 0 (asked .setStepPeriod (u16 5)) (ask .setStepPeriod (u16 5) base) ∧
      5 ≤ wordAt (u16 5) 0 ∧ wordAt (u16 10000) 0 = 10000 ∧ wordAt (u16 4) 0 < 5 ∧ 10000 < wordAt (u16 10001) 0) ∧
    (let args := u8 6 ++ groupDefBytes g6Def
     let s := ask .writeGroup args idleArena
     CanTake .writeGroup 0 (asked .writeGroup args) s ∧ byteAt args 0 = (6 : GroupIx).val ∧
       s.scene.groups[(6 : GroupIx)].state ≠ .enabled ∧ groupArgs args = some g6Def ∧
       g6Def.dimmer.node ≠ s.line.own ∧ g6Def.dimmer.node ≠ 63 ∧ ∀ o, Owns s g6Def.dimmer o → o = .group 6) ∧
    (let s := ask .enableGroup [6#8] { idleArena with fog.sheet1 := sheetAt .watch 184 true 900 }
     CanTake .enableGroup 0 (asked .enableGroup [6#8]) s ∧ s.scene.groups[(6 : GroupIx)].state = .disabled ∧
       s.scene.groups[(6 : GroupIx)].defn.hazeSource = true ∧
       s.scene.groups[(6 : GroupIx)].defn.sheet = some .one ∧ covered s .one = false ∧ fogOf s .one ≠ .clear) ∧
    (let s := ask .enableGroup [6#8] idleArena
     s.scene.groups[(6 : GroupIx)].state = .disabled ∧ fogOf s .one = .clear) ∧
    CanTake .disableGroup 0 (asked .disableGroup [6#8]) (ask .disableGroup [6#8] arena) ∧
      (ask .disableGroup [6#8] arena).scene.groups[(6 : GroupIx)].state = .enabled := by
  refine ⟨⟨canTake_ask rfl rfl, by decide +kernel⟩,
    ⟨canTake_ask rfl rfl, by decide +kernel, by decide +kernel, by decide +kernel, by decide +kernel, by decide,
      fun o ho => owner_of_ownsOnly (s := idleArena) (a := ⟨24, 0⟩) (by decide +kernel) o (by cases o <;> exact ho)⟩,
    ⟨canTake_ask rfl rfl, by decide +kernel⟩, by decide +kernel, canTake_ask rfl rfl, by decide +kernel⟩

/-! #### Modes, reads and notices -/

/-- A wake, three reports that are none, and SET_MODE of no mode, of the mode in force and of another. -/
theorem witness_modes :
    (night.line.held = false ∧ night.mode.mode = .setback ∧ 90 ∈ night.mode.setbackProfile.wakePoints ∧
      night.points[(90 : PointIx)].defn.cls = .count ∧ (0 : Int) < 1) ∧
    (¬((0 : Int) < 0) ∧ 89 ∉ night.mode.setbackProfile.wakePoints ∧ base.mode.mode ≠ .setback) ∧
    3 < byteAt [4#8] 0 ∧
    (CanTake .setMode 0 (asked .setMode [1#8]) (ask .setMode [1#8] base) ∧ byteAt [1#8] 0 = modeCode .practice ∧
      Mode.practice = base.mode.mode) ∧
    CanTake .setMode 0 (asked .setMode [3#8]) (ask .setMode [3#8] base) ∧ byteAt [3#8] 0 = modeCode .setback ∧
      Mode.setback ≠ base.mode.mode :=
  ⟨by decide +kernel, by decide +kernel, by decide, ⟨canTake_ask rfl rfl, by decide +kernel⟩, canTake_ask rfl rfl,
    by decide +kernel⟩

/-- A SETBACK profile with one wake point. -/
def oneWake : Profile := { setbackProfile with wakePoints := [90] }

/-- WRITE_PROFILE of SETBACK and of the mode in force; COVER_SHEET and UNCOVER_SHEET in both cover states. -/
theorem witness_profiles :
    (let args := profileBytes .setback oneWake
     let s := ask .writeProfile args night
     CanTake .writeProfile 0 (asked .writeProfile args) s ∧ byteAt args 0 = modeCode .setback ∧
       profileArgs .setback args = some oneWake ∧ oneWake.wakePoints.Nodup ∧
       (∀ i ∈ oneWake.wakePoints, s.points[i].state ≠ .unused ∧
         (s.points[i].defn.cls = .count ∨ s.points[i].defn.cls = .position)) ∧ Mode.setback = s.mode.mode) ∧
    (let args := profileBytes .event eventProfile
     profileArgs .event args = some eventProfile ∧ eventProfile.wakePoints = [] ∧ Mode.event ≠ base.mode.mode) ∧
    (let s := ask .coverSheet [1#8] { rink with fog.sheet1 := sheetAt .watch 184 true 900 }
     CanTake .coverSheet 0 (asked .coverSheet [1#8]) s ∧ byteAt [1#8] 0 = sheetNumber .one ∧ covered s .one = false) ∧
    (covered { rink with mode.cover1 := true } .one = true) ∧
    (let s := ask .uncoverSheet [1#8] { rink with mode.cover1 := true }
     CanTake .uncoverSheet 0 (asked .uncoverSheet [1#8]) s ∧ covered s .one = true ∧ fogOf s .one = .clear ∧
       (sheetRec s.fog .one).state = .enabled) ∧
    let s := ask .uncoverSheet [2#8] { rink with mode.cover2 := true }
    byteAt [2#8] 0 = sheetNumber .two ∧ covered s .two = true ∧ fogOf s .two = .clear ∧
      (sheetRec s.fog .two).state ≠ .enabled :=
  ⟨⟨canTake_ask rfl rfl, by decide +kernel⟩, by decide +kernel, ⟨canTake_ask rfl rfl, by decide +kernel⟩,
    by decide +kernel, ⟨canTake_ask rfl rfl, by decide +kernel⟩, by decide +kernel⟩

/-- The arguments of each read, at the last index where it carries one; the values that bound a presented value and a
margin; a grant and none. -/
theorem witness_reads :
    (∀ (r : Req) (args : List Byte), CanTake r 0 (asked r args) (ask r args arena)) ∧
      pointIxAt [255#8] 0 = 255 ∧ [7#8] = [BitVec.ofNat 8 (7 : ConsumerIx).val] ∧
      [2#8] = [BitVec.ofNat 8 (sheetNumber .two)] ∧ [7#8] = [BitVec.ofNat 8 (4 + (3 : Fin 4).val)] ∧
      [23#8] = [BitVec.ofNat 8 (23 : ZoneIx).val] ∧ byteAt [63#8] 0 = (63 : BufferIx).val ∧
      [31#8] = [BitVec.ofNat 8 (31 : GroupIx).val] ∧ byteAt [3#8] 0 = modeCode .setback ∧
      (-8388608 ≤ presentedValue arena 255 ∧ presentedValue arena 255 < 8388608) ∧
      (-32768 ≤ (sheetRec arena.fog .one).margin ∧ (sheetRec arena.fog .one).margin < 32768) ∧
      arena.zones.grant = none ∧ (splitGrant (some 1305) stands).zones.grant = some 1305 :=
  ⟨fun _ _ => canTake_ask rfl rfl, by decide +kernel⟩

/-- READ_STATUS with and without CLEAR_CAUSE; WRITE_RIGHTS of nodes 0 and 62, frozen, with an ADMIN left and with none;
FREEZE_RIGHTS in both states of the flag. -/
theorem witness_responder :
    (∀ (r : Req) (args : List Byte) (s : State), s.line.held = false → s.responder.slot1 = .free →
      CanTake r 0 (asked r args) (ask r args s)) ∧
    byteAt [0#8] 0 = (if false then 1 else 0) ∧ byteAt [1#8] 0 = (if true then 1 else 0) ∧
    (byteAt [62#8, 3#8] 0 = (62 : Fin 64).val ∧ (62 : Fin 64).val ≤ 62 ∧ (62 : Fin 64).val ≠ base.line.own ∧
      (6 : Fin 64) ≠ 62 ∧ base.line.nodes[(6 : Fin 64)].rights.admin = true) ∧
    (byteAt [6#8, 7#8] 0 = (6 : Fin 64).val ∧ 7 / 8 % 2 ≠ 1 ∧
      ∀ m : Fin 64, m ≠ 6 → m.val ≤ 62 → base.line.nodes[m].rights.admin = false) ∧
    base.responder.frozen = false ∧ ({ base with responder.frozen := true } : State).responder.frozen = true :=
  ⟨fun _ _ _ h k => canTake_ask h k, by decide +kernel⟩

/-- A suppressed kind; an enabled one coalesced; one that finds 31 notices, and one that finds 32; the masks 8191
and 8192. -/
theorem witness_notices :
    (let s := { base with notices.mask := 0#13 }
     s.line.held = false ∧ kindEnabled s.notices.mask .mode = false) ∧
    (let s := { base with notices.queue := [⟨.mode, 0, 3, 0⟩] }
     kindEnabled s.notices.mask .mode = true ∧ ∃ m ∈ s.notices.queue, m.kind = .mode ∧ m.subject = 0) ∧
    (∀ n, n = 31 ∨ n = 32 →
      let s := { base with notices.queue := List.replicate n ⟨.transferred, 2, 0, 0⟩ }
      kindEnabled s.notices.mask .mode = true ∧ (∀ m ∈ s.notices.queue, ¬(m.kind = .mode ∧ m.subject = 0)) ∧
        s.notices.queue.length = n) ∧
    (CanTake .writeNoticeMask 0 (asked .writeNoticeMask (u16 8191)) (ask .writeNoticeMask (u16 8191) base) ∧
      wordAt (u16 8191) 0 < 8192 ∧ 8192 ≤ wordAt (u16 8192) 0) := by
  refine ⟨by decide +kernel, ⟨by decide, ⟨.mode, 0, 3, 0⟩, by simp, rfl, rfl⟩, ?_, canTake_ask rfl rfl, by decide⟩
  rintro n (rfl | rfl) <;> decide +kernel

/-! #### Refusals: the operands of the clauses that say which status answers, and the status each is answered with -/

theorem addrTaken {s : State} {a : ActAddr} {o : ActOwner} {mine : ActOwner → Prop}
    (own : a.node ≠ s.line.own) (last : a.node ≠ 63) (owns : Owns s a o) (only : ownsOnly s a o = true)
    (other : ¬mine o) : AddrTaken s mine a :=
  ⟨fun h => h.elim own last, ⟨o, owns⟩, fun p hp => by rw [owner_of_ownsOnly only p hp]; exact other⟩

theorem addrFree {s : State} {a : ActAddr} {o : ActOwner} {mine : ActOwner → Prop}
    (own : a.node ≠ s.line.own) (last : a.node ≠ 63) (only : ownsOnly s a o = true) (written : mine o) :
    AddrFree s mine a :=
  ⟨fun h => h.elim own last, fun p hp => by rw [owner_of_ownsOnly only p hp]; exact written⟩

/-- WRITE_POINT of p40: enabled, on the part's own node, with p41's key, with a substitute not loaded. -/
theorem witness_refused_writePoint :
    let write := fun (d : PointDef) (s : State) => (writePoint (u8 40 ++ pointDefBytes d) s).status
    let loaded := withPoint 41 (freshAt p41Def 5350) base
    (∀ j : PointIx, base.points[j].state = .unused) ∧
    (let s := withPoint 40 (freshAt p40Def 5260) base
     s.points[(40 : PointIx)].state = .fresh ∧ write p40Def s = .state) ∧
    (let d := { p40Def with node := 5 }
     pointArgs 5 (u8 40 ++ pointDefBytes d) = none ∧ write d base = .range) ∧
    (let d := { p40Def with channel := 4 }
     pointArgs 5 (u8 40 ++ pointDefBytes d) = some d ∧ loaded.points[(41 : PointIx)].state ≠ .unused ∧
       loaded.points[(41 : PointIx)].defn.node = d.node ∧ loaded.points[(41 : PointIx)].defn.channel = d.channel ∧
       write d loaded = .conflict) ∧
    (p40Def.substitute = some 41 ∧ base.points[(41 : PointIx)].state = .unused ∧ write p40Def base = .range) := by
  refine ⟨fun j => by rw [base_point]; rfl, ?_⟩
  decide +kernel

/-- WRITE_POINT of p40 as its own substitute, and as the substitute of a temperature point. -/
theorem witness_refused_writePoint_substitutes :
    let write := fun (d : PointDef) (s : State) => (writePoint (u8 40 ++ pointDefBytes d) s).status
    (let d := { p40Def with substitute := some 40 }
     pointArgs 5 (u8 40 ++ pointDefBytes d) = some d ∧ write d base = .range) ∧
    let s := withPoint 7 (freshAt { p7Def with substitute := some 40 } 1186) base
    let d := { p40Def with substitute := none }
    pointArgs 5 (u8 40 ++ pointDefBytes d) = some d ∧ s.points[(7 : PointIx)].state ≠ .unused ∧
      s.points[(7 : PointIx)].defn.substitute = some 40 ∧ s.points[(7 : PointIx)].defn.cls ≠ d.cls ∧
      ¬(p7Def.node = d.node ∧ p7Def.channel = d.channel) ∧ write d s = .conflict := by
  decide +kernel

/-- The three requests of a point: UNUSED, DISABLED, and in STALE_SUB. -/
theorem witness_refused_points :
    ((enablePoint [40#8] base).status = .state ∧ (disablePoint [40#8] base).status = .state ∧
      (clearSubstitute [40#8] base).status = .state) ∧
    (let s := withPoint 40 (p40 .staleSub 0 0) base
     s.points[(40 : PointIx)].state = .staleSub ∧ (clearSubstitute [40#8] s).status = .state) ∧
    let s := withPoint 40 (clearedPoint p40Def .disabled) base
    s.points[(40 : PointIx)].state = .disabled ∧ (disablePoint [40#8] s).status = .done := by
  decide +kernel

/-- WRITE_RECOVERY with a fluid constant of 2999 and with its points not loaded; ENABLE_CONSUMER and DISABLE_CONSUMER at
index 8 and of a record in each state. -/
theorem witness_refused_consumers :
    (recoveryArgs (recoveryBytes (some { loop with fluid := 2999 })) = none ∧
      (writeRecovery (recoveryBytes (some { loop with fluid := 2999 })) warm).status = .range) ∧
    (recoveryArgs (recoveryBytes (some loop)) = some loop ∧ base.points[loop.flow].state = .unused ∧
      (writeRecovery (recoveryBytes (some loop)) base).status = .range) ∧
    ((enableConsumer [8#8] arena).status = .range ∧ (disableConsumer [8#8] arena).status = .range) ∧
    (arena.budget.consumers[(7 : ConsumerIx)].state = .unused ∧ (enableConsumer [7#8] arena).status = .state ∧
      (disableConsumer [7#8] arena).status = .state) ∧
    (enableConsumer [4#8] arena).status = .done ∧ (disableConsumer [4#8] idleArena).status = .done := by
  decide +kernel

/-- WRITE_CONSUMER at index 8, of an ENABLED record, with a weight of 0, of a kind held, and with an address on the
part's own node, on node 63 and of another record. -/
theorem witness_refused_writeConsumer :
    let write := fun (i : Nat) (d : ConsumerDef) (s : State) => (writeConsumer (u8 i ++ consumerDefBytes d) s).status
    let on := fun a : ActAddr => { c0Def with addr := some a }
    (write 8 c0Def base = .range ∧ write 4 c4Def arena = .state ∧
      consumerArgs (u8 7 ++ consumerDefBytes { c0Def with weight := 0 }) = none ∧
      write 7 { c0Def with weight := 0 } base = .range) ∧
    (arena.budget.consumers[(1 : ConsumerIx)].state ≠ .enabled ∧
      arena.budget.consumers[(0 : ConsumerIx)].state ≠ .unused ∧
      arena.budget.consumers[(0 : ConsumerIx)].defn.kind = c0Def.kind ∧
      arena.budget.consumers[(0 : ConsumerIx)].defn.sheet = c0Def.sheet ∧ write 1 c0Def arena = .conflict) ∧
    (∀ j : ConsumerIx, idleArena.budget.consumers[j].defn.kind = c0Def.kind →
      idleArena.budget.consumers[j].state = .unused) ∧
    (∀ a ∈ ([⟨5, 0⟩, ⟨63, 15⟩, ⟨22, 3⟩] : List ActAddr),
      consumerArgs (u8 0 ++ consumerDefBytes (on a)) = some (on a)) ∧
    write 0 (on ⟨5, 0⟩) idleArena = .range ∧ write 0 (on ⟨63, 15⟩) idleArena = .range ∧
      write 0 (on ⟨22, 3⟩) idleArena = .conflict := by
  decide +kernel

/-- The own node and node 63 are foreign; c4's address is taken for c0, z0's and g6's for another record, and z0's own
are free for it. -/
theorem witness_addresses :
    (AddrForeign idleArena ⟨5, 0⟩ ∧ AddrForeign idleArena ⟨63, 15⟩) ∧
    AddrTaken idleArena (· = .consumer 0) ⟨22, 3⟩ ∧
    AddrTaken idleArena (fun o => o = .zoneValve 1 ∨ o = .zoneBoost 1) ⟨23, 0⟩ ∧
    AddrTaken idleArena (fun o => o = .zoneValve 1 ∨ o = .zoneBoost 1) ⟨23, 1⟩ ∧
    AddrTaken idleArena (· = .group 0) ⟨24, 0⟩ ∧
    AddrFree idleArena (fun o => o = .zoneValve 0 ∨ o = .zoneBoost 0) ⟨23, 0⟩ ∧
    AddrFree idleArena (fun o => o = .zoneValve 1 ∨ o = .zoneBoost 1) ⟨62, 0⟩ := by
  refine ⟨⟨.inl (by decide +kernel), .inr rfl⟩, ?_, ?_, ?_, ?_, ?_, fun h => ?_, fun o ho => ?_⟩
  · exact addrTaken (o := .consumer 4) (by decide +kernel) (by decide) (by unfold Owns; decide +kernel)
      (by decide +kernel) (by decide)
  · exact addrTaken (o := .zoneValve 0) (by decide +kernel) (by decide) (by unfold Owns; decide +kernel)
      (by decide +kernel) (by decide)
  · exact addrTaken (o := .zoneBoost 0) (by decide +kernel) (by decide) (by unfold Owns; decide +kernel)
      (by decide +kernel) (by decide)
  · exact addrTaken (o := .group 6) (by decide +kernel) (by decide) (by unfold Owns; decide +kernel)
      (by decide +kernel) (by decide)
  · exact addrFree (o := .zoneValve 0) (by decide +kernel) (by decide) (by decide +kernel) (.inl rfl)
  · exact h.elim (by decide +kernel) (by decide)
  · exact absurd ho (no_owner (by decide +kernel) o)

/-- LOAD_DEW_TABLE while a sheet is ENABLED; segment 4, flag 2, a first entry of 0, two entries alike, and segment 3
at its loaded neighbour's last entry. -/
theorem witness_refused_loadDewTable :
    let idle := { base with fog := { base.fog with dew := dewExample, loaded := #v[true, true, true, false] } }
    let flat := List.flatten (List.replicate 16 (u16 100))
    let status := fun (args : List Byte) (s : State) => (loadDewTable args s).status
    (rink.fog.sheet1.state = .enabled ∧ status (dewSegment 1 false) rink = .state) ∧
    (idle.fog.sheet1.state ≠ .enabled ∧ idle.fog.sheet2.state ≠ .enabled) ∧
    (byteAt (dewSegment 4 true) 0 = 4 ∧ status (u8 4 ++ (dewSegment 3 true).drop 1) idle = .range) ∧
    status (u8 3 ++ u8 2 ++ (dewSegment 3 true).drop 2) idle = .range ∧
    (wordAt (u8 0 ++ u8 1 ++ u16 0) 2 = 0 ∧ status (u8 0 ++ u8 1 ++ u16 0 ++ (dewSegment 0 true).drop 4) idle = .range) ∧
    (wordAt (u8 0 ++ u8 1 ++ flat) 4 ≤ wordAt (u8 0 ++ u8 1 ++ flat) 2 ∧ status (u8 0 ++ u8 1 ++ flat) idle = .range) ∧
    let args := u8 3 ++ u8 0 ++ u16 3567 ++ (dewSegment 3 false).drop 4
    idle.fog.loaded[(2 : Fin 4)] = true ∧ wordAt args 2 ≤ dewEntry idle.fog.dew (16 * 3 - 1) ∧
      status args idle = .range := by
  decide +kernel

/-- WRITE_SHEET of sheets 0 and 3, of an ENABLED one, out of range and with a point not loaded; WRITE_FOG_CAPS with a cap
of 1001; ENABLE_FOG and DISABLE_FOG of sheets 0 and 3, UNLOADED, without all segments, and in the state they lead to. -/
theorem witness_refused_fog :
    let write := fun (n : Nat) (d : SheetDef) (s : State) => (writeSheet (u8 n ++ sheetDefBytes d) s).status
    let off := { rink with fog.sheet1 := clearedSheet sheet1Def .disabled }
    let caps : CapTable := ⟨⟨1001, 0, 0⟩, ⟨0, 0, 0⟩, ⟨0, 0, 0⟩, ⟨0, 0, 0⟩⟩
    (write 0 sheet1Def off = .range ∧ write 3 sheet1Def off = .range ∧ write 1 sheet1Def rink = .state ∧
      sheetArgs (u8 1 ++ sheetDefBytes { sheet1Def with k := 257 }) = none ∧
      write 1 { sheet1Def with k := 257 } off = .range ∧
      sheetArgs (u8 2 ++ sheetDefBytes { sheet1Def with haze := some 255 }) =
        some { sheet1Def with haze := some 255 } ∧
      off.points[(255 : PointIx)].state = .unused ∧ write 2 { sheet1Def with haze := some 255 } off = .range) ∧
    (capTableArgs (capTableBytes caps) = none ∧ (writeFogCaps (capTableBytes caps) rink).status = .range) ∧
    ((enableFog [0#8] rink).status = .range ∧ (disableFog [3#8] rink).status = .range ∧
      (enableFog [2#8] rink).status = .state ∧ (disableFog [2#8] rink).status = .state) ∧
    (let s := { off with fog.loaded := #v[true, true, true, false] }
     s.fog.loaded[(3 : Fin 4)] = false ∧ (enableFog [1#8] s).status = .state) ∧
    (enableFog [1#8] rink).status = .done ∧ (disableFog [1#8] off).status = .done := by
  decide +kernel

/-- The zone requests at index 24 and of a record in each state; WRITE_ZONE with a design heat of 0, with a valve and
with a boost actuator on the own node, on node 63 and of another zone, and with one address for both. -/
theorem witness_refused_zones :
    let write := fun (i : Nat) (d : ZoneDef) (s : State) => (writeZone (u8 i ++ zoneDefBytes d) s).status
    (write 24 z0Def arena = .range ∧ (enableZone [24#8] arena).status = .range ∧
      (disableZone [24#8] arena).status = .range) ∧
    ((enableZone [23#8] arena).status = .state ∧ (disableZone [23#8] arena).status = .state ∧
      write 0 z0Def arena = .state ∧ (enableZone [0#8] arena).status = .done ∧
      (disableZone [0#8] idleArena).status = .done) ∧
    (zoneArgs (u8 1 ++ zoneDefBytes { z0Def with design := 0 }) = none ∧
      write 1 { z0Def with design := 0 } idleArena = .range) ∧
    (write 1 { z0Def with valve := ⟨5, 0⟩ } idleArena = .range ∧ write 1 { z0Def with valve := ⟨63, 0⟩ } idleArena = .range ∧
      write 1 z0Def idleArena = .conflict) ∧
    (write 1 { z0Def with valve := ⟨62, 0⟩, boost := some ⟨5, 0⟩ } idleArena = .range ∧
      write 1 { z0Def with valve := ⟨62, 0⟩ } idleArena = .conflict) ∧
    zoneArgs (u8 0 ++ zoneDefBytes { z0Def with boost := some ⟨23, 0⟩ }) = some { z0Def with boost := some ⟨23, 0⟩ } ∧
      write 0 { z0Def with boost := some ⟨23, 0⟩ } idleArena = .conflict := by
  decide +kernel

/-- The editing requests of buffer 64, of an output side, of a commit side in TRANSFER, and of one not locked; a scene
with a level of 1001. -/
theorem witness_refused_editing :
    let busy := checkTransfers ready
    let bright : List Byte := [3#8, 0#8, 1#8, 31#8, 0x03#8, 0xE9#8, 0#8]
    let status := fun (request : List Byte → State → Answer) (i : Nat) (s : State) => (request (u8 i ++ [0#8, 0#8]) s).status
    ([lockBuffer, unlockBuffer, writeScene, commitBuffer].map fun f => status f 64 base) =
      [.range, .range, .range, .range] ∧
    (ready.scene.buffers[(5 : BufferIx)].type = .paired ∧
      ([lockBuffer, unlockBuffer, writeScene, commitBuffer].map fun f => status f 5 ready) =
        [.pairError, .pairError, .pairError, .pairError]) ∧
    (busy.scene.buffers[(4 : BufferIx)].state = .transfer ∧
      ([lockBuffer, writeScene, commitBuffer].map fun f => status f 4 busy) = [.lockError, .collide, .state]) ∧
    (ready.scene.buffers[(4 : BufferIx)].state = .idle ∧
      ([writeScene, commitBuffer].map fun f => status f 4 ready) = [.state, .state]) ∧
    sceneArgs bright = none ∧ (single .locked).scene.buffers[(3 : BufferIx)].state = .locked ∧
      (writeScene bright (single .locked)).status = .range := by
  decide +kernel

/-- CONFIGURE_BUFFER of buffer 64, with a filter of 64, as PAIRED at an odd index and with a buffer of the pair enabled,
as SINGLE of an enabled buffer and of an output side whose commit side is locked. -/
theorem witness_refused_configureBuffer :
    let configure := fun (i type filter : Nat) (s : State) =>
      (configureBuffer (u8 i ++ u8 type ++ u8 0 ++ u8 filter ++ u8 0 ++ u8 0) s).status
    let half := { base with
      scene.buffers := offPair.scene.buffers.set 4 (pairSide .disabledLocked false false 4 4 .streaming) }
    (configure 64 0 0 base = .range ∧ bufferArgs [3#8, 0#8, 0#8, 64#8, 0#8, 0#8] = none ∧ configure 3 0 64 base = .range) ∧
    ((3 : BufferIx).val % 2 = 1 ∧ configure 3 1 0 base = .state) ∧
    ((single .idle).scene.buffers[partner 2].state ≠ .disabled ∧ configure 2 1 0 (single .idle) = .state) ∧
    ((single .idle).scene.buffers[(3 : BufferIx)].state ≠ .disabled ∧ configure 3 0 0 (single .idle) = .state) ∧
    half.scene.buffers[(5 : BufferIx)].type = .paired ∧ half.scene.buffers[partner 5].state ≠ .disabled ∧
      configure 5 0 0 half = .state := by
  decide +kernel

/-- ENABLE_BUFFER and DISABLE_BUFFER of buffer 64, of a commit side, of a buffer in SELECTED, of an output side in
SELECTED and in TRANSFER, and in the state they lead to. -/
theorem witness_refused_buffersEnabled :
    ((enableBuffer [64#8] base).status = .range ∧ (disableBuffer [64#8] base).status = .range) ∧
    ((4 : BufferIx).val % 2 = 0 ∧ (enableBuffer [4#8] ready).status = .ignored ∧
      (disableBuffer [4#8] ready).status = .ignored) ∧
    ((single .selected).scene.buffers[(3 : BufferIx)].state = .selected ∧
      (disableBuffer [3#8] (single .selected)).status = .ignored) ∧
    (pairs.scene.buffers[(5 : BufferIx)].state = .selected ∧ (disableBuffer [5#8] pairs).status = .ignored ∧
      (checkTransfers ready).scene.buffers[(5 : BufferIx)].state = .transfer ∧
      (disableBuffer [5#8] (checkTransfers ready)).status = .ignored) ∧
    (enableBuffer [3#8] (single .idle)).status = .done ∧ (enableBuffer [5#8] ready).status = .done ∧
      (disableBuffer [5#8] offPair).status = .done := by
  decide +kernel

/-- The group requests at index 32 and of a record in each state; WRITE_GROUP with a rated power of 10000 and with a
dimmer on the own node, on node 63 and of another group; SET_STEP_PERIOD at 4 and 10001. -/
theorem witness_refused_groups :
    let write := fun (i : Nat) (d : GroupDef) (s : State) => (writeGroup (u8 i ++ groupDefBytes d) s).status
    (write 32 g0Def arena = .range ∧ (enableGroup [32#8] arena).status = .range ∧
      (disableGroup [32#8] arena).status = .range) ∧
    ((enableGroup [31#8] arena).status = .state ∧ (disableGroup [31#8] arena).status = .state ∧
      write 6 g6Def arena = .state ∧ (enableGroup [6#8] arena).status = .done ∧
      (disableGroup [6#8] idleArena).status = .done) ∧
    (groupArgs (u8 0 ++ groupDefBytes { g0Def with rated := 10000 }) = none ∧
      write 0 { g0Def with rated := 10000 } idleArena = .range) ∧
    (groupArgs (u8 0 ++ groupDefBytes { g0Def with dimmer := ⟨63, 0⟩ }) = some { g0Def with dimmer := ⟨63, 0⟩ } ∧
      write 0 { g0Def with dimmer := ⟨63, 0⟩ } idleArena = .range ∧
      write 0 { g0Def with dimmer := ⟨5, 0⟩ } idleArena = .range ∧
      write 0 { g0Def with dimmer := ⟨24, 0⟩ } idleArena = .conflict) ∧
    (setStepPeriod (u16 4) base).status = .range ∧ (setStepPeriod (u16 10001) base).status = .range := by
  decide +kernel

/-- WRITE_PROFILE of mode 4, with a ceiling of 1001, with a wake point twice and with wake points UNUSED and of another
class; the cover requests of sheets 0 and 3; and SET_MODE of mode 4. -/
theorem witness_refused_modes :
    let write := fun (m : Mode) (p : Profile) (s : State) => (writeProfile (profileBytes m p) s).status
    let twice := { setbackProfile with wakePoints := [90, 90] }
    let warmth := { setbackProfile with wakePoints := [7] }
    let s := withPoint 7 (freshAt p7Def 1186) night
    (writeProfile (u8 4 ++ (profileBytes .event eventProfile).drop 1) s).status = .range ∧
    (profileArgs .event (profileBytes .event { eventProfile with ceiling := 1001 }) = none ∧
      write .event { eventProfile with ceiling := 1001 } s = .range) ∧
    (profileArgs .setback (profileBytes .setback twice) = some twice ∧ ¬twice.wakePoints.Nodup ∧
      write .setback twice s = .range) ∧
    (s.points[(91 : PointIx)].state = .unused ∧ write .setback setbackProfile s = .range) ∧
    (s.points[(7 : PointIx)].defn.cls = .temperature ∧ write .setback warmth s = .range) ∧
    ((coverSheet [0#8] s).status = .range ∧ (coverSheet [3#8] s).status = .range ∧
      (uncoverSheet [0#8] s).status = .range ∧ (uncoverSheet [3#8] s).status = .range) ∧
    (setMode [4#8] s).status = .range := by
  decide +kernel

/-- The reads one past their last index, number or mode; READ_STATUS with an undefined flag; WRITE_RIGHTS of the own node
and of node 63; WRITE_NOTICE_MASK beyond the thirteen kinds. -/
theorem witness_refused_reads :
    ((readBudget [8#8] arena).status = .range ∧ (readZone [24#8] arena).status = .range ∧
      (readGroup [32#8] arena).status = .range ∧ (readSheet [0#8] arena).status = .range ∧
      (readSheet [8#8] arena).status = .range ∧ (readBuffer [64#8] arena).status = .range ∧
      (readProfile [4#8] arena).status = .range ∧ (readNode [64#8] arena).status = .range) ∧
    ((readStatus [2#8] arena).status = .range ∧ (writeRights [63#8, 15#8] arena).status = .range ∧
      byteAt [5#8, 15#8] 0 = arena.line.own ∧ (writeRights [5#8, 15#8] arena).status = .range) ∧
    (writeNoticeMask (u16 8192) arena).status = .range := by
  decide +kernel

/-! #### Figures and frames the widened statements name -/

/-- The relay released; an entry whose FAULT bit and channel are at their limits. -/
theorem witness_frames_released :
    ({ base with line.held := false, line.relay := false } : State).line.relay = false ∧
      (0xFF#8).toNat % 16 = 15 ∧ 128 ≤ (0x80#8).toNat ∧ ¬128 ≤ (0x7F#8).toNat := by
  decide

/-- R24, R31: of two entries of one frame, the first is read on channel 3 and the second, FAULT set, on channel 4. -/
theorem test_sample_entries :
    let s := withPoint 41 (freshAt p41Def 5350) (withPoint 40 (freshAt p40Def 5260) base)
    let t := sampleEntries 9 [0x03#8, 0x14#8, 0xB4#8, 0x84#8, 0x00#8, 0x00#8] s
    t.points[(40 : PointIx)].presented = 5300 ∧ t.points[(41 : PointIx)].faults = 1 ∧
      t.points[(41 : PointIx)].presented = 5350 := by
  decide +kernel

/-- The captured readings of chapter 3.5, all GOOD: Q is 4196; and with a reading HELD, of quality NONE, and with the
settings unloaded. -/
theorem test_heat :
    captured.settings = some loop ∧ heatOf captured = 4196 ∧ heatInputLost captured = false ∧
      heatDegraded captured = false ∧ shiftOf captured = 2 ∧
    (let c := { captured with flow := ⟨1250, .held⟩ }
     heatOf c = 4196 ∧ heatDegraded c = true) ∧
    (let c := { captured with ret := ⟨0, .none⟩, flow := ⟨1250, .held⟩ }
     heatOf c = 0 ∧ heatInputLost c = true ∧ heatDegraded c = false) ∧
    (let c := { captured with ret := ⟨4820, .good⟩ }
     heatOf c = 0 ∧ heatInputLost c = false) ∧
    (captureInputs base).settings = none ∧ heatOf (captureInputs base) = 0 := by
  decide +kernel

/-- Chapters 3.3 and 3.5: the demand of a subsoil consumer at its setpoint, at the lower end of its band, between, and
without a reading; of a regenerator in each fog state; of the spectator consumer, capped; and of the preheat. -/
theorem test_demands :
    let of := fun (d : ConsumerDef) (reading : Reading) (c : Capture) => demandOf c ⟨d, reading, 7500⟩
    let spectator := { c4Def with kind := .spectator, cap := 9999 }
    (of c0Def ⟨250, .good⟩ captured = 200 ∧ of c0Def ⟨50, .held⟩ captured = 600 ∧ of c0Def ⟨120, .good⟩ captured = 460 ∧
      of c0Def ⟨250, .none⟩ captured = 600) ∧
    ([FogState.clear, .watch, .fog, .recover].map fun f => of c2Def ⟨0, .none⟩ { captured with fog1 := f }) =
      [500, 1400, 1800, 1600] ∧
    of spectator ⟨0, .none⟩ { captured with zoneDemand := 2100 } = 2100 ∧
    effectiveCap { captured with capScale := 300 } ⟨spectator, ⟨0, .none⟩, 0⟩ = 2999 ∧
    of c4Def ⟨0, .none⟩ captured = 600 ∧
    ([FogState.clear, .watch, .fog, .recover].map fun f =>
      effectiveClass { captured with fog1 := f } ⟨c2Def, ⟨0, .none⟩, 0⟩) = [1, 1, 0, 0] := by
  decide +kernel

/-- R85: the fog period of a covered sheet that is ENABLED. -/
theorem witness_fogPeriod_covered :
    let s := { rink with mode.cover1 := true }
    s.line.held = false ∧ (sheetRec s.fog .one).state = .enabled ∧ (sheetRec s.fog .one).fogTimer ≠ none ∧
      covered s .one = true := by
  decide +kernel

/-- R160: two states between which the arena mode changes. -/
theorem witness_modeChange :
    ∃ t, exec (.valueReport 90 1) night = .next t ∧ t.mode.mode ≠ night.mode.mode := ⟨_, rfl, by decide +kernel⟩

/-- R194: definitions one past a limit of their range. -/
theorem witness_definitions_out_of_range :
    ¬PointInRange 5 { p40Def with rawWidth := 17 } ∧ ¬RecoveryInRange { loop with shift := 7 } ∧
      ¬ConsumerInRange { c0Def with weight := 16 } ∧ ¬SheetInRange { sheet1Def with recoverTime := 9 } ∧
      ¬ZoneInRange { z0Def with stageCount := 4 } ∧ ¬GroupInRange { g6Def with sheet := none } ∧
      ¬SceneInRange ⟨[⟨0, 1001, 0⟩], false⟩ ∧ ¬ProfileInRange .event { eventProfile with period := 61 } := by
  refine ⟨fun h => ?_, fun h => ?_, fun h => ?_, fun h => ?_, fun h => ?_, fun h => ?_, fun h => ?_, fun h => ?_⟩
  · exact absurd h.2.2.2.2.1 (by decide)
  · exact absurd h.2 (by decide)
  · exact absurd h.2.2.1 (by decide)
  · exact absurd h.2.2.2.2.2.2.2.1 (by decide)
  · exact absurd (h.2.2.2.2 _ rfl).2.2.1 (by decide)
  · exact absurd (h.2.2 rfl) (by decide)
  · exact absurd (h.2 _ (List.mem_singleton.mpr rfl)).1 (by decide)
  · exact absurd h.2.2.2.1 (by decide)

/-! #### Layouts -/

/-- Arguments each write reads as a definition, of the length its request allows. -/
theorem witness_definitions :
    (argsFit .writePoint (u8 40 ++ pointDefBytes p40Def) = true ∧
      pointArgs 5 (u8 40 ++ pointDefBytes p40Def) = some p40Def) ∧
    (argsFit .writeRecovery (recoveryBytes (some loop)) = true ∧ recoveryArgs (recoveryBytes (some loop)) = some loop) ∧
    (argsFit .writeConsumer (u8 7 ++ consumerDefBytes c0Def) = true ∧
      consumerArgs (u8 7 ++ consumerDefBytes c0Def) = some c0Def) ∧
    argsFit .loadDewTable (dewSegment 3 false) = true ∧
    (argsFit .writeSheet (u8 2 ++ sheetDefBytes sheet1Def) = true ∧
      sheetArgs (u8 2 ++ sheetDefBytes sheet1Def) = some sheet1Def) ∧
    (argsFit .writeFogCaps (capTableBytes base.fog.caps) = true ∧
      capTableArgs (capTableBytes base.fog.caps) = some base.fog.caps) ∧
    (argsFit .writeZone (u8 23 ++ zoneDefBytes z0Def) = true ∧ zoneArgs (u8 23 ++ zoneDefBytes z0Def) = some z0Def) ∧
    (argsFit .writeGroup (u8 31 ++ groupDefBytes g6Def) = true ∧
      groupArgs (u8 31 ++ groupDefBytes g6Def) = some g6Def) ∧
    (argsFit .writeScene sceneBytes = true ∧ sceneArgs sceneBytes = some ⟨[⟨31, 1000, 255⟩], true⟩) ∧
    (argsFit .configureBuffer [63#8, 1#8, 1#8, 63#8, 0#8, 1#8] = true ∧
      bufferArgs [63#8, 1#8, 1#8, 63#8, 0#8, 1#8] = some ⟨.paired, .immediate, 63, 0, true⟩) ∧
    argsFit .writeProfile (profileBytes .setback setbackProfile) = true ∧
      modeOf (byteAt (profileBytes .setback setbackProfile) 0) = some .setback ∧
      profileArgs .setback (profileBytes .setback setbackProfile) = some setbackProfile := by
  decide +kernel

/-- The limits of the fields a frame is formed with. -/
theorem witness_formedFrames :
    255 < 256 ∧ 62 ≤ 62 ∧ 15 < 16 ∧ (List.replicate 48 0xFF#8).length ≤ 48 := by
  decide

/-! #### Invariants -/

/-- A part with a record of every kind loaded and a command waiting. -/
def running : State := { base with
  budget.consumers := base.budget.consumers.set 4 { clearedConsumer c4Def .enabled with grant := 434, allowed := 5425 }
  budget.usable := 3749
  zones.zones := base.zones.zones.set 0
    { clearedZone z0Def .enabled 1000 with capped := 7000, allowed := 6000, lastForwarded := 6000 }
  scene.groups := base.scene.groups.set 6 (clearedGroup g6Def .enabled)
  scene.buffers := (checkTransfers ready).scene.buffers
  scene.engine := some 2
  notices.queue := [⟨.mode, 0, 3, 0⟩, ⟨.fogState, 1, 1, 0⟩]
  line.queue := [.actuator ⟨22, 3⟩ 5425, .reply 1 6 [] false, .actuator ⟨24, 0⟩ 0]
  responder := ⟨.free, .replying, 0, false, false⟩
  pending := [.secondsTick] }

/-- Every step answers a next state: this one from a part at work. -/
theorem witness_step : ∃ t, step running = .next t := ⟨_, rfl⟩

theorem witness_queuesSound :
    NoticeQueueSound running ∧ CommandQueueSound running ∧ LineOutSound running ∧ RepliesSound running := by
  refine ⟨by unfold NoticeQueueSound; decide +kernel, ?_, by unfold LineOutSound; decide +kernel,
    by decide +kernel, .inr ?_⟩
  · simp only [CommandQueueSound, running]
    simp
    rintro a v w rfl - h
    cases h
  · intro slot
    fin_cases slot <;> decide +kernel

theorem witness_countsInRange : CountsInRange running ∧ ModeSound running := by
  refine ⟨?_, by unfold ModeSound; decide +kernel⟩
  have points : ∀ i : PointIx, running.points[i] = clearedPoint unusedPointDef .unused := base_point
  refine ⟨by decide +kernel, by decide +kernel, by decide +kernel, by decide +kernel, by decide +kernel,
    by decide +kernel, ?_, ?_, by decide +kernel⟩
  · unfold nodeInRange
    decide +kernel
  · intro i
    rw [points]
    unfold pointCountsInRange
    decide

/-- The addresses the running part owns, and their owners. -/
theorem owners_running (a : ActAddr) (o : ActOwner) (h : Owns running a o) :
    (a = ⟨22, 3⟩ ∧ o = .consumer 4) ∨ (a = ⟨23, 0⟩ ∧ o = .zoneValve 0) ∨ (a = ⟨23, 1⟩ ∧ o = .zoneBoost 0) ∨
      (a = ⟨24, 0⟩ ∧ o = .group 6) := by
  cases o with
  | consumer i =>
    have : ∀ i : ConsumerIx, running.budget.consumers[i].state = .unused ∨
        (i = 4 ∧ running.budget.consumers[i].defn.addr = some ⟨22, 3⟩) := by decide +kernel
    simp only [Owns, consumerHolds, Bool.and_eq_true, bne_iff_ne, ne_eq, decide_eq_true_eq] at h
    rcases this i with e | ⟨rfl, e⟩
    · exact absurd e h.1
    · exact .inl ⟨Option.some.inj (h.2.symm.trans e), rfl⟩
  | zoneValve i =>
    have : ∀ i : ZoneIx, running.zones.zones[i].state = .unused ∨
        (i = 0 ∧ running.zones.zones[i].defn.valve = ⟨23, 0⟩) := by decide +kernel
    simp only [Owns, valveHolds, Bool.and_eq_true, bne_iff_ne, ne_eq, decide_eq_true_eq] at h
    rcases this i with e | ⟨rfl, e⟩
    · exact absurd e h.1
    · exact .inr (.inl ⟨h.2.symm.trans e, rfl⟩)
  | zoneBoost i =>
    have : ∀ i : ZoneIx, running.zones.zones[i].state = .unused ∨
        (i = 0 ∧ running.zones.zones[i].defn.boost = some ⟨23, 1⟩) := by decide +kernel
    simp only [Owns, boostHolds, Bool.and_eq_true, bne_iff_ne, ne_eq, decide_eq_true_eq] at h
    rcases this i with e | ⟨rfl, e⟩
    · exact absurd e h.1
    · exact .inr (.inr (.inl ⟨Option.some.inj (h.2.symm.trans e), rfl⟩))
  | group i =>
    have : ∀ i : GroupIx, running.scene.groups[i].state = .unused ∨
        (i = 6 ∧ running.scene.groups[i].defn.dimmer = ⟨24, 0⟩) := by decide +kernel
    simp only [Owns, groupHolds, Bool.and_eq_true, bne_iff_ne, ne_eq, decide_eq_true_eq] at h
    rcases this i with e | ⟨rfl, e⟩
    · exact absurd e h.1
    · exact .inr (.inr (.inr ⟨h.2.symm.trans e, rfl⟩))

theorem witness_indexSound : IndexSound running := by
  intro a o h
  rcases owners_running a o h with ⟨rfl, rfl⟩ | ⟨rfl, rfl⟩ | ⟨rfl, rfl⟩ | ⟨rfl, rfl⟩ <;>
    exact ⟨fun p hp => by simpa using owners_running _ p hp, by decide +kernel, by decide⟩

theorem witness_pointsSound : PointsSound running := by
  intro i
  have point : running.points[i] = clearedPoint unusedPointDef .unused := base_point i
  rw [point]
  simp [clearedPoint, live, unusedPointDef]

theorem witness_grantsSound : GrantsSound running := by
  refine ⟨by decide +kernel, fun i => ⟨?_, ?_, fun c h => ?_⟩⟩
  · revert i
    decide +kernel
  · revert i
    decide +kernel
  · cases h

theorem witness_zonesSound : BoostSound running ∧ ForwardedSound running := by
  refine ⟨by unfold BoostSound; decide +kernel, ?_⟩
  unfold ForwardedSound
  decide +kernel

theorem witness_buffersSound : SlotsSound running ∧ TransferSound running ∧ PairsSound running := by
  refine ⟨by unfold SlotsSound; decide +kernel, fun i => ?_, by unfold PairsSound; decide +kernel⟩
  have : ∀ i : BufferIx, running.scene.buffers[i].state = .transfer ↔ (i = 4 ∨ i = 5) := by decide +kernel
  rw [this i]
  constructor
  · intro h
    exact ⟨2, rfl, h⟩
  · rintro ⟨n, hn, h⟩
    obtain rfl : n = 2 := by simpa [running] using hn.symm
    exact h

/-- The running part with sheet 1 in WATCH and uncovered, its haze source at 0. -/
def hazy : State := { running with fog.sheet1 := sheetAt .watch 184 true 900 }

theorem witness_sheetsDark : HazeSound hazy ∧ fogOf hazy .one ≠ .clear ∧ ∃ t, step hazy = .next t := by
  refine ⟨⟨?_, ?_, .inr fun sh => ?_⟩, by decide +kernel, _, rfl⟩
  · intro a o h
    have h' : Owns running a o := by cases o <;> exact h
    have := witness_indexSound a o h'
    exact ⟨fun p hp => this.1 p (by cases p <;> exact hp), this.2⟩
  · decide +kernel
  · cases sh with
    | one =>
      refine ⟨fun h => (by cases h), fun h => absurd rfl h, fun _ _ => .inr fun i hi => ?_⟩
      have : ∀ i : GroupIx, hazy.scene.groups[i].state = .enabled → i = 6 := by decide +kernel
      obtain rfl := this i hi.1
      refine ⟨by decide +kernel, fun v hv => ?_⟩
      have d : hazy.scene.groups[(6 : GroupIx)].defn.dimmer = ⟨24, 0⟩ := by decide +kernel
      rw [d] at hv
      simpa [hazy, running] using hv
    | two =>
      have c : fogOf hazy .two = .clear := by decide +kernel
      exact ⟨fun _ => c, fun _ => c, fun _ h => absurd c h⟩

end Sys2Proof.Tests
end

section
/-! SUPPORT. The commands by their shape, said once: the two resets, the events, and the requests their owners take; and
the induction over a step that every invariant uses. -/

namespace Sys2Proof.Machine

/-! ### The shapes -/

/-- What the owner of a request answers (chapter 9.4, R176). -/
def answerOf : Req → List Byte → State → Answer
  | .writePoint => writePoint
  | .enablePoint => enablePoint
  | .disablePoint => disablePoint
  | .clearSubstitute => clearSubstitute
  | .readPoint => readPointRequest
  | .writeRecovery => writeRecovery
  | .writeConsumer => writeConsumer
  | .enableConsumer => enableConsumer
  | .disableConsumer => disableConsumer
  | .readBudget => readBudget
  | .loadDewTable => loadDewTable
  | .writeSheet => writeSheet
  | .enableFog => enableFog
  | .disableFog => disableFog
  | .writeFogCaps => writeFogCaps
  | .readSheet => readSheet
  | .writeZone => writeZone
  | .enableZone => enableZone
  | .disableZone => disableZone
  | .readZone => readZone
  | .configureBuffer => configureBuffer
  | .lockBuffer => lockBuffer
  | .unlockBuffer => unlockBuffer
  | .writeScene => writeScene
  | .commit => commitBuffer
  | .enableBuffer => enableBuffer
  | .disableBuffer => disableBuffer
  | .readBuffer => readBuffer
  | .setStepPeriod => setStepPeriod
  | .writeGroup => writeGroup
  | .enableGroup => enableGroup
  | .disableGroup => disableGroup
  | .readGroup => readGroup
  | .writeProfile => writeProfile
  | .setMode => setMode
  | .coverSheet => coverSheet
  | .uncoverSheet => uncoverSheet
  | .readProfile => readProfile
  | .readStatus => readStatus
  | .readNode => readNode
  | .writeRights => writeRights
  | .freezeRights => freezeRights
  | .restart => takeRestart
  | .writeNoticeMask => writeNoticeMask

/-- The commands that are neither a reset nor a request, each with its effect on a part that is not held. -/
inductive Event : Instr → (State → State) → Prop
  | frameArrival (bytes : List Byte) : Event (.frameArrival bytes) (arrive bytes)
  | valueReport (point : PointIx) (value : Int) :
      Event (.valueReport point value) fun s => takeReport point value (takeHanded (.valueReport point value) s)
  | silenceTimerExpiry : Event .silenceTimerExpiry silenceExpiry
  | wakeTimerExpiry : Event .wakeTimerExpiry wakeExpiry
  | statusPeriodExpiry : Event .statusPeriodExpiry statusPeriod
  | lineOutSendComplete : Event .lineOutSendComplete completeSending
  | staleTimerExpiry (point : PointIx) : Event (.staleTimerExpiry point) (staleExpiry point)
  | settleTimerExpiry (point : PointIx) : Event (.settleTimerExpiry point) (settleExpiry point)
  | allocationPeriodExpiry : Event .allocationPeriodExpiry allocationPeriod
  | reallocationRequest :
      Event .reallocationRequest fun s => requestAllocation (takeHanded .reallocationRequest s)
  | allocationCompletion : Event .allocationCompletion completeAllocation
  | electricRecompute : Event .electricRecompute fun s => recomputeElectric (takeHanded .electricRecompute s)
  | lightingLoadUpdate (load : Nat) :
      Event (.lightingLoadUpdate load) fun s => updateLoad load (takeHanded (.lightingLoadUpdate load) s)
  | fogPeriodExpiry (sheet : Sheet) : Event (.fogPeriodExpiry sheet) (fogPeriod sheet)
  | recoverTimerExpiry (sheet : Sheet) : Event (.recoverTimerExpiry sheet) (recoverExpiry sheet)
  | capHanding (sheet : Sheet) (caps : Caps) :
      Event (.capHanding sheet caps) fun s => applyCaps sheet caps (takeHanded (.capHanding sheet caps) s)
  | hazeCut (sheet : Sheet) : Event (.hazeCut sheet) fun s => cutHaze sheet (takeHanded (.hazeCut sheet) s)
  | stepStart : Event .stepStart startStep
  | searchCompletion : Event .searchCompletion completeSearch
  | transferCompletion : Event .transferCompletion completeTransfer
  | noticeOffer (kind : NoticeKind) (subject : Nat) (value : Int) :
      Event (.noticeOffer kind subject value) fun s =>
        { takeHanded (.noticeOffer kind subject value) s with notices := offerNotice kind subject value s.notices }
  | secondsTick : Event .secondsTick tickSeconds

/-- Every command is a reset, a request, or an event. -/
theorem command_cases (c : Instr) :
    (∃ own controller, c = .powerOnReset own controller) ∨ c = .resetAsserted ∨
      (∃ r slot, c = takeCommand r slot) ∨ ∃ f, Event c f := by
  cases c with
  | powerOnReset own controller => exact .inl ⟨own, controller, rfl⟩
  | resetAsserted => exact .inr (.inl rfl)
  | writePoint slot => exact .inr (.inr (.inl ⟨.writePoint, slot, rfl⟩))
  | enablePoint slot => exact .inr (.inr (.inl ⟨.enablePoint, slot, rfl⟩))
  | disablePoint slot => exact .inr (.inr (.inl ⟨.disablePoint, slot, rfl⟩))
  | clearSubstitute slot => exact .inr (.inr (.inl ⟨.clearSubstitute, slot, rfl⟩))
  | readPoint slot => exact .inr (.inr (.inl ⟨.readPoint, slot, rfl⟩))
  | writeRecovery slot => exact .inr (.inr (.inl ⟨.writeRecovery, slot, rfl⟩))
  | writeConsumer slot => exact .inr (.inr (.inl ⟨.writeConsumer, slot, rfl⟩))
  | enableConsumer slot => exact .inr (.inr (.inl ⟨.enableConsumer, slot, rfl⟩))
  | disableConsumer slot => exact .inr (.inr (.inl ⟨.disableConsumer, slot, rfl⟩))
  | readBudget slot => exact .inr (.inr (.inl ⟨.readBudget, slot, rfl⟩))
  | loadDewTable slot => exact .inr (.inr (.inl ⟨.loadDewTable, slot, rfl⟩))
  | writeSheet slot => exact .inr (.inr (.inl ⟨.writeSheet, slot, rfl⟩))
  | enableFog slot => exact .inr (.inr (.inl ⟨.enableFog, slot, rfl⟩))
  | disableFog slot => exact .inr (.inr (.inl ⟨.disableFog, slot, rfl⟩))
  | writeFogCaps slot => exact .inr (.inr (.inl ⟨.writeFogCaps, slot, rfl⟩))
  | readSheet slot => exact .inr (.inr (.inl ⟨.readSheet, slot, rfl⟩))
  | writeZone slot => exact .inr (.inr (.inl ⟨.writeZone, slot, rfl⟩))
  | enableZone slot => exact .inr (.inr (.inl ⟨.enableZone, slot, rfl⟩))
  | disableZone slot => exact .inr (.inr (.inl ⟨.disableZone, slot, rfl⟩))
  | readZone slot => exact .inr (.inr (.inl ⟨.readZone, slot, rfl⟩))
  | configureBuffer slot => exact .inr (.inr (.inl ⟨.configureBuffer, slot, rfl⟩))
  | lockBuffer slot => exact .inr (.inr (.inl ⟨.lockBuffer, slot, rfl⟩))
  | unlockBuffer slot => exact .inr (.inr (.inl ⟨.unlockBuffer, slot, rfl⟩))
  | writeScene slot => exact .inr (.inr (.inl ⟨.writeScene, slot, rfl⟩))
  | commit slot => exact .inr (.inr (.inl ⟨.commit, slot, rfl⟩))
  | enableBuffer slot => exact .inr (.inr (.inl ⟨.enableBuffer, slot, rfl⟩))
  | disableBuffer slot => exact .inr (.inr (.inl ⟨.disableBuffer, slot, rfl⟩))
  | readBuffer slot => exact .inr (.inr (.inl ⟨.readBuffer, slot, rfl⟩))
  | setStepPeriod slot => exact .inr (.inr (.inl ⟨.setStepPeriod, slot, rfl⟩))
  | writeGroup slot => exact .inr (.inr (.inl ⟨.writeGroup, slot, rfl⟩))
  | enableGroup slot => exact .inr (.inr (.inl ⟨.enableGroup, slot, rfl⟩))
  | disableGroup slot => exact .inr (.inr (.inl ⟨.disableGroup, slot, rfl⟩))
  | readGroup slot => exact .inr (.inr (.inl ⟨.readGroup, slot, rfl⟩))
  | writeProfile slot => exact .inr (.inr (.inl ⟨.writeProfile, slot, rfl⟩))
  | setMode slot => exact .inr (.inr (.inl ⟨.setMode, slot, rfl⟩))
  | coverSheet slot => exact .inr (.inr (.inl ⟨.coverSheet, slot, rfl⟩))
  | uncoverSheet slot => exact .inr (.inr (.inl ⟨.uncoverSheet, slot, rfl⟩))
  | readProfile slot => exact .inr (.inr (.inl ⟨.readProfile, slot, rfl⟩))
  | readStatus slot => exact .inr (.inr (.inl ⟨.readStatus, slot, rfl⟩))
  | readNode slot => exact .inr (.inr (.inl ⟨.readNode, slot, rfl⟩))
  | writeRights slot => exact .inr (.inr (.inl ⟨.writeRights, slot, rfl⟩))
  | freezeRights slot => exact .inr (.inr (.inl ⟨.freezeRights, slot, rfl⟩))
  | restart slot => exact .inr (.inr (.inl ⟨.restart, slot, rfl⟩))
  | writeNoticeMask slot => exact .inr (.inr (.inl ⟨.writeNoticeMask, slot, rfl⟩))
  | _ => exact .inr (.inr (.inr ⟨_, by constructor⟩))

theorem exec_event {c : Instr} {f : State → State} (h : Event c f) (s : State) : exec c s = perform f s := by
  cases h <;> rfl

theorem exec_request (r : Req) (slot : SlotIx) (s : State) :
    exec (takeCommand r slot) s = perform (takeRequest r slot (decide (r = .restart)) (answerOf r)) s := by
  cases r <;> rfl

theorem exec_powerOnReset (own controller : Strap) (s : State) :
    exec (.powerOnReset own controller) s = .next (powerOnState own controller s.pending) := rfl

theorem exec_resetAsserted (s : State) : exec .resetAsserted s = .next (assertReset s) := rfl

/-- A request its owner can take is answered as the owner answers it, from the state it finds. -/
theorem exec_of_canTake {r : Req} {slot : SlotIx} {q : Request} {s : State} (h : CanTake r slot q s) :
    exec (takeCommand r slot) s =
      .next (answered r slot q (answerOf r q.args (taken r slot s)).status (answerOf r q.args (taken r slot s)).results
        (answerOf r q.args (taken r slot s)).state) := by
  rw [exec_request, takeRequest_of_canTake h]

/-! ### The induction over a step -/

/-- What an invariant needs, shape by shape, to be kept by every step. -/
structure KeptByShape (P : State → Prop) : Prop where
  pending : ∀ s l, P s → P { s with pending := l }
  powerOn : ∀ own controller l, P (powerOnState own controller l)
  reset : ∀ s, P s → P (assertReset s)
  tick : ∀ s, s.line.held = false → P s → P (tickMs s)
  choice : ∀ s, P s → P (arbitrate s)
  event : ∀ c f s, Event c f → s.line.held = false → P s → P (f s)
  request : ∀ r slot s, s.line.held = false → P s →
    P (takeRequest r slot (decide (r = .restart)) (answerOf r) s)

theorem KeptByShape.of_perform {P : State → Prop} (k : KeptByShape P) {f : State → State} {s t : State}
    (hf : s.line.held = false → P s → P (f s)) (h : perform f s = .next t) (hs : P s) : P t := by
  cases hh : s.line.held with
  | true =>
    rw [perform_held s f hh] at h
    cases h
    exact hs
  | false =>
    rw [perform_awake s f hh] at h
    cases h
    exact k.choice _ (hf hh hs)

theorem KeptByShape.of_exec {P : State → Prop} (k : KeptByShape P) {c : Instr} {s t : State}
    (h : exec c s = .next t) (hs : P s) : P t := by
  rcases command_cases c with ⟨own, controller, rfl⟩ | rfl | ⟨r, slot, rfl⟩ | ⟨f, hf⟩
  · rw [exec_powerOnReset] at h
    cases h
    exact k.powerOn own controller _
  · rw [exec_resetAsserted] at h
    cases h
    exact k.reset s hs
  · rw [exec_request] at h
    exact k.of_perform (k.request r slot s) h hs
  · rw [exec_event hf] at h
    exact k.of_perform (k.event c f s hf) h hs

/-- An invariant kept by every shape is kept by every step. -/
theorem KeptByShape.of_step {P : State → Prop} (k : KeptByShape P) {s t : State} (h : step s = .next t) (hs : P s) :
    P t := by
  unfold step at h
  split at h
  · next c rest _ => exact k.of_exec h (k.pending s rest hs)
  · split at h
    · exact k.of_exec h hs
    · cases h
      unfold timePasses
      split
      · exact hs
      · next hh => exact k.tick s (by simpa using hh) hs

/-! ### What every command leaves alone -/

theorem answerOf_pending (r : Req) (args : List Byte) (s : State) : (answerOf r args s).state.pending = s.pending := by
  cases r <;> simp [answerOf]

theorem takeRequest_pending {answer : List Byte → State → Answer}
    (h : ∀ args s, (answer args s).state.pending = s.pending) (r : Req) (slot : SlotIx) (restart : Bool) (s : State) :
    (takeRequest r slot restart answer s).pending = s.pending := by
  unfold takeRequest
  split
  · split
    · rfl
    · simp [h]
  · rfl

theorem restartEffect_pending (s : State) : (restartEffect s).pending = s.pending := by
  simp [restartEffect, restartedBlocks]

@[simp] theorem setSlot_restartPending (slot : SlotIx) (v : SlotState) (s : State) :
    (setSlot slot v s).responder.restartPending = s.responder.restartPending := by
  unfold setSlot
  split <;> rfl

theorem completeSending_idle {s : State} (h : s.line.sending = none) : completeSending s = s := by
  simp [completeSending, h]

theorem completeSending_plain {s : State} {f : List Byte} {source : SendSource}
    (h : s.line.sending = some ⟨f, source⟩) (hs : ∀ slot restart, source ≠ .reply slot restart) :
    completeSending s = { s with line.sending := none } := by
  cases source with
  | reply slot restart => exact absurd rfl (hs slot restart)
  | _ => simp [completeSending, sendingDone, h]

theorem completeSending_reply {s : State} {f : List Byte} {slot : SlotIx} {restart : Bool}
    (h : s.line.sending = some ⟨f, .reply slot restart⟩) :
    completeSending s =
      if restart && s.responder.restartPending then restartEffect (setSlot slot .free { s with line.sending := none })
      else setSlot slot .free { s with line.sending := none } := by
  simp [completeSending, sendingDone, h]

/-- What the completion of a sending can do: nothing, free Line Out, free the slot of a reply too, and after that bring
a restart about (R12, R15, R183). -/
theorem completeSending_keeps {P : State → Prop} {s : State} (idle : P s)
    (plain : (∀ f slot restart, s.line.sending ≠ some ⟨f, .reply slot restart⟩) → P { s with line.sending := none })
    (reply : ∀ f slot restart, s.line.sending = some ⟨f, .reply slot restart⟩ →
      P (setSlot slot .free { s with line.sending := none }))
    (restart : ∀ slot, P (restartEffect (setSlot slot .free { s with line.sending := none }))) :
    P (completeSending s) := by
  cases h : s.line.sending with
  | none => rwa [completeSending_idle h]
  | some sd =>
    obtain ⟨f, source⟩ := sd
    rcases Classical.em (∃ slot restart, source = .reply slot restart) with ⟨slot, r, rfl⟩ | hs
    · rw [completeSending_reply h]
      split
      · exact restart slot
      · exact reply f slot r h
    · have hs' : ∀ slot restart, source ≠ .reply slot restart := fun slot r e => hs ⟨slot, r, e⟩
      rw [completeSending_plain h hs']
      refine plain fun f' slot r e => ?_
      rw [h] at e
      cases e
      exact hs' slot r rfl

theorem completeSending_pending (s : State) : (completeSending s).pending = s.pending :=
  completeSending_keeps (P := fun t => t.pending = s.pending) rfl (fun _ => rfl) (fun _ _ _ _ => by simp)
    (fun _ => by simp [restartEffect_pending])

theorem event_pending {c : Instr} {f : State → State} (h : Event c f) (s : State) : (f s).pending = s.pending := by
  cases h with
  | lineOutSendComplete => exact completeSending_pending s
  | _ => simp

theorem perform_answers (f : State → State) (s : State) (hf : (f s).pending = s.pending) :
    ∃ t, perform f s = .next t ∧ t.pending = s.pending ∧ (s.line.held = true → t = s) := by
  cases h : s.line.held with
  | true => exact ⟨s, perform_held s f h, rfl, fun _ => rfl⟩
  | false => exact ⟨_, perform_awake s f h, by rw [arbitrate_pending, hf], by simp⟩

end Sys2Proof.Machine
end

section
/-! THEOREMS. The part as a whole: a step runs the front command, and every command answers. -/

namespace Sys2Proof.Machine

/-- Settles O1. -/
theorem stepRunsTheFrontCommand : Obligations.StepRunsTheFrontCommand := by
  intro s c rest h
  unfold step
  rw [h]

/-- Settles O3, by the shape of the command. -/
theorem everyCommandAnswersANextState : Obligations.EveryCommandAnswersANextState := by
  intro c s
  rcases command_cases c with ⟨own, controller, rfl⟩ | rfl | ⟨r, slot, rfl⟩ | ⟨f, hf⟩
  · exact ⟨_, exec_powerOnReset own controller s, rfl, fun _ h => absurd rfl (h own controller)⟩
  · exact ⟨_, exec_resetAsserted s, rfl, fun _ _ h => absurd rfl h⟩
  · rw [exec_request]
    obtain ⟨t, ht, hp, hh⟩ := perform_answers _ s (takeRequest_pending (answerOf_pending r) r slot _ s)
    exact ⟨t, ht, hp, fun h _ _ => hh h⟩
  · rw [exec_event hf]
    obtain ⟨t, ht, hp, hh⟩ := perform_answers f s (event_pending hf s)
    exact ⟨t, ht, hp, fun h _ _ => hh h⟩

end Sys2Proof.Machine
end

section
/-! SUPPORT. What the blocks leave of the Line Interface: their operations touch its Command Queue alone, by queuing
actuator commands and by dropping them (R11, R17). -/

namespace Sys2Proof.Machine

/-! ### The Command Queue under commands -/

/-- One queue comes from another by commands queued (R11) and pending commands dropped (R17). -/
inductive CommandsOnly : List QueueEntry → List QueueEntry → Prop
  | refl (q : List QueueEntry) : CommandsOnly q q
  | enqueue (a : ActAddr) (v : Nat) {q r : List QueueEntry} : CommandsOnly q r → CommandsOnly q (enqueueCommand a v r)
  | drop (gone : List ActAddr) {q r : List QueueEntry} : CommandsOnly q r →
      CommandsOnly q (r.filter fun e => !gone.any fun a => isCommandFor a e)

theorem CommandsOnly.trans {q r u : List QueueEntry} (h : CommandsOnly q r) (k : CommandsOnly r u) :
    CommandsOnly q u := by
  induction k with
  | refl => exact h
  | enqueue a v _ ih => exact .enqueue a v (ih h)
  | drop gone _ ih => exact .drop gone (ih h)

/-- From s to t the Line Interface has changed in its Command Queue alone, and that by actuator commands. -/
structure LineKept (s t : State) : Prop where
  rest : t.line = { s.line with queue := t.line.queue }
  queue : CommandsOnly s.line.queue t.line.queue

theorem LineKept.of_eq {s t : State} (h : t.line = s.line) : LineKept s t :=
  ⟨by rw [h], by rw [h]; exact .refl _⟩

theorem LineKept.refl (s : State) : LineKept s s := .of_eq rfl

theorem LineKept.trans {s t u : State} (h : LineKept s t) (k : LineKept t u) : LineKept s u :=
  ⟨by rw [k.rest, h.rest], h.queue.trans k.queue⟩

/-- What follows a change that keeps the line, and leaves it as it then is, keeps the line. -/
theorem LineKept.then_eq {s t u : State} (h : LineKept s t) (k : u.line = t.line) : LineKept s u := h.trans (.of_eq k)

/-- What keeps the line from a state of this line keeps it from this state. -/
theorem LineKept.from_eq {s t u : State} (h : LineKept t u) (k : t.line = s.line) : LineKept s u :=
  (LineKept.of_eq k).trans h

theorem LineKept.foldl {β : Type} {f : State → β → State} (h : ∀ s b, LineKept s (f s b)) (l : List β) (s : State) :
    LineKept s (l.foldl f s) :=
  foldl_invariant (LineKept s) f (fun t b k => k.trans (h t b)) l s (.refl s)

theorem queueCommand_lineKept (a : ActAddr) (v : Nat) (s : State) : LineKept s (queueCommand a v s) :=
  ⟨rfl, .enqueue a v (.refl _)⟩

theorem dropCommands_lineKept (gone : List ActAddr) (s : State) : LineKept s (dropCommands gone s) :=
  ⟨rfl, .drop gone (.refl _)⟩

/-! ### The blocks' operations -/

section
variable (s : State)

theorem shedValve_lineKept (i : ZoneIx) : LineKept s (shedValve s i) := by
  unfold shedValve
  dsimp only
  split
  · exact (queueCommand_lineKept _ _ s).then_eq rfl
  · exact .refl s

theorem shedBoost_lineKept (i : ZoneIx) : LineKept s (shedBoost s i) := by
  unfold shedBoost
  dsimp only
  split
  · split
    · exact (queueCommand_lineKept _ _ s).then_eq rfl
    · exact .refl s
  · exact .refl s

theorem shedBoth_lineKept (i : ZoneIx) : LineKept s (shedBoth s i) :=
  (shedValve_lineKept s i).trans (shedBoost_lineKept _ i)

theorem applyCaps_lineKept (sh : Sheet) (c : Caps) : LineKept s (applyCaps sh c s) := by
  unfold applyCaps
  split
  · exact .refl s
  · exact (LineKept.foldl shedBoth_lineKept _ _).from_eq rfl

theorem splitGrant_lineKept (g : Option Nat) : LineKept s (splitGrant g s) := by
  unfold splitGrant
  exact (LineKept.foldl shedValve_lineKept _ _).from_eq rfl

theorem distributeBoost_lineKept (a : Nat) : LineKept s (distributeBoost a s) := by
  unfold distributeBoost
  exact (LineKept.foldl shedBoost_lineKept _ _).from_eq rfl

theorem recomputeElectric_lineKept : LineKept s (recomputeElectric s) := by
  unfold recomputeElectric
  exact (distributeBoost_lineKept _ _).from_eq (by simp)

theorem recomputeElectricSilently_lineKept : LineKept s (recomputeElectricSilently s) := by
  unfold recomputeElectricSilently
  exact (distributeBoost_lineKept _ _).from_eq rfl

theorem driveValve_lineKept (i : ConsumerIx) (r : Consumer) (a : ActAddr) : LineKept s (driveValve i r a s) := by
  unfold driveValve
  split
  · exact .refl s
  · dsimp only
    split <;> exact (queueCommand_lineKept a r.allowed s).then_eq (by simp)

theorem governValve_lineKept (i : ConsumerIx) (r : Consumer) (a : ActAddr) : LineKept s (governValve i r a s) := by
  unfold governValve
  split
  · exact (queueCommand_lineKept _ _ s).then_eq rfl
  · exact .refl s

theorem commandConsumer_lineKept (i : ConsumerIx) : LineKept s (commandConsumer s i) := by
  unfold commandConsumer
  dsimp only
  split
  · split
    · exact driveValve_lineKept s i _ _
    · exact governValve_lineKept s i _ _
    all_goals exact .refl s
  · exact .refl s

theorem completeAllocation_lineKept : LineKept s (completeAllocation s) := by
  unfold completeAllocation
  split
  · exact .refl s
  · unfold completeWith
    have commands := LineKept.foldl commandConsumer_lineKept consumerOrder
    exact (((commands _).from_eq (by simp)).trans ((splitGrant_lineKept _ _).trans (recomputeElectric_lineKept _))).then_eq
      (nextAllocation_frame _).1

theorem sendLevel_lineKept (i : GroupIx) (g : Group) : LineKept s (sendLevel i g s) := by
  unfold sendLevel
  split
  · exact .of_eq rfl
  · exact (queueCommand_lineKept _ _ s).then_eq rfl

theorem levelGroup_lineKept (rs : Vector SearchResult 32) (i : GroupIx) : LineKept s (levelGroup rs s i) := by
  unfold levelGroup
  dsimp only
  split
  · exact sendLevel_lineKept s i _
  · exact .refl s

theorem finishSearch_lineKept (n : Nat) : LineKept s (finishSearch n s) := by
  let results := searchResults s.scene.view n
  have levels := LineKept.foldl (fun s i => levelGroup_lineKept s results i) groupOrder
    { s with scene.search := none, scene.results := results }
  refine (LineKept.from_eq (s := s) levels rfl).then_eq ?_
  unfold finishSearch
  simp [results]

theorem completeSearch_lineKept : LineKept s (completeSearch s) := by
  unfold completeSearch
  split
  · exact .refl s
  · exact finishSearch_lineKept s _

theorem startStep_lineKept : LineKept s (startStep s) := by
  unfold startStep
  dsimp only
  split
  · exact (finishSearch_lineKept _ _).from_eq (by simp)
  · exact .of_eq (by simp)

theorem cutGroup_lineKept (sh : Sheet) (i : GroupIx) : LineKept s (cutGroup sh s i) := by
  unfold cutGroup
  dsimp only
  split
  · exact (queueCommand_lineKept _ _ s).then_eq rfl
  · exact .refl s

theorem cutHaze_lineKept (sh : Sheet) : LineKept s (cutHaze sh s) := by
  unfold cutHaze
  exact (LineKept.foldl (fun s i => cutGroup_lineKept s sh i) groupOrder s).then_eq (reportLoad_line _)

/-- The restart, once the blocks stand at their RESTART values, queues commands alone. -/
theorem restartEffect_lineKept : LineKept (restartedBlocks s) (restartEffect s) := by
  have caps (sh : Sheet) (s : State) : LineKept s (restartCaps sh s) := applyCaps_lineKept s sh _
  have cut (sh : Sheet) (s : State) : LineKept s (restartCut sh s) := by
    unfold restartCut
    split
    · exact cutHaze_lineKept s sh
    · exact .refl s
  unfold restartEffect
  exact ((((caps .one _).trans (caps .two _)).trans ((cut .one _).trans (cut .two _))).trans
    (recomputeElectricSilently_lineKept _)).from_eq (checkTransfers_frame _).1

/-! ### The requests -/

/-- A WRITE_CONSUMER refused changes nothing; one that is taken has passed the check of its address (R17, R56). -/
theorem writeConsumer_cases (args : List Byte) : (writeConsumer args s).state = s ∨
    ∃ i d, s.budget.consumers[i].state ≠ .enabled ∧ checkConsumerAddr i d s = none ∧
      (writeConsumer args s).state = hand .reallocationRequest (loadConsumer i d s) := by
  fun_cases writeConsumer args s
  case case6 i _ hs d _ _ hc => exact .inr ⟨i, d, hs, hc, rfl⟩
  all_goals exact .inl rfl

/-- A WRITE_ZONE refused changes nothing; one that is taken has passed the check of its addresses (R17, R101). -/
theorem writeZone_cases (args : List Byte) : (writeZone args s).state = s ∨
    ∃ i d, s.zones.zones[i].state ≠ .enabled ∧ checkZoneAddrs i d s = none ∧
      (writeZone args s).state = loadZone i d s := by
  fun_cases writeZone args s
  case case5 i _ hs d _ hc => exact .inr ⟨i, d, hs, hc, rfl⟩
  all_goals exact .inl rfl

/-- A WRITE_GROUP refused changes nothing; one that is taken has passed the check of its address (R17, R144). -/
theorem writeGroup_cases (args : List Byte) : (writeGroup args s).state = s ∨
    ∃ i d, s.scene.groups[i].state ≠ .enabled ∧ checkAddr s (mineGroup i) d.dimmer = none ∧
      (writeGroup args s).state = loadGroup i d s := by
  fun_cases writeGroup args s
  case case5 i _ hs d _ hc => exact .inr ⟨i, d, hs, hc, rfl⟩
  all_goals exact .inl rfl

theorem loadConsumer_lineKept (i : ConsumerIx) (d : ConsumerDef) : LineKept s (loadConsumer i d s) :=
  (dropCommands_lineKept _ s).then_eq rfl

theorem loadZone_lineKept (i : ZoneIx) (d : ZoneDef) : LineKept s (loadZone i d s) :=
  (dropCommands_lineKept _ s).then_eq rfl

theorem loadGroup_lineKept (i : GroupIx) (d : GroupDef) : LineKept s (loadGroup i d s) :=
  (dropCommands_lineKept _ s).then_eq rfl

theorem enableGroup_lineKept (args : List Byte) : LineKept s (enableGroup args s).state := by
  unfold enableGroup
  split
  · exact .refl s
  · split
    · exact .refl s
    · exact .refl s
    · unfold admitGroup
      dsimp only
      split
      · exact (queueCommand_lineKept _ _ s).then_eq rfl
      · exact .of_eq rfl

/-- Every request but READ_STATUS, which arms the overrun notice, and WRITE_RIGHTS keeps the line. -/
theorem answerOf_lineKept (r : Req) (args : List Byte) (hs : r ≠ .readStatus) (hr : r ≠ .writeRights) :
    LineKept s (answerOf r args s).state := by
  cases r with
  | readStatus => exact absurd rfl hs
  | writeRights => exact absurd rfl hr
  | writeConsumer =>
    obtain h | ⟨i, d, -, -, h⟩ := writeConsumer_cases s args
    · exact .of_eq (congrArg State.line h)
    · exact ((loadConsumer_lineKept s i d).then_eq (hand_line _ _)).then_eq (congrArg State.line h)
  | writeZone =>
    obtain h | ⟨i, d, -, -, h⟩ := writeZone_cases s args
    · exact .of_eq (congrArg State.line h)
    · exact (loadZone_lineKept s i d).then_eq (congrArg State.line h)
  | writeGroup =>
    obtain h | ⟨i, d, -, -, h⟩ := writeGroup_cases s args
    · exact .of_eq (congrArg State.line h)
    · exact (loadGroup_lineKept s i d).then_eq (congrArg State.line h)
  | enableGroup => exact enableGroup_lineKept s args
  | _ => exact .of_eq (by simp [answerOf])

/-- The events of the line itself. -/
def isLineEvent : Instr → Bool
  | .frameArrival _ | .silenceTimerExpiry | .wakeTimerExpiry | .statusPeriodExpiry | .lineOutSendComplete => true
  | _ => false

/-- Every event but those of the line itself keeps the line. -/
theorem event_lineKept {c : Instr} {f : State → State} (h : Event c f) (hc : isLineEvent c = false) :
    LineKept s (f s) := by
  cases h with
  | frameArrival => cases hc
  | silenceTimerExpiry => cases hc
  | wakeTimerExpiry => cases hc
  | statusPeriodExpiry => cases hc
  | lineOutSendComplete => cases hc
  | allocationCompletion => exact completeAllocation_lineKept s
  | electricRecompute => exact (recomputeElectric_lineKept _).from_eq rfl
  | lightingLoadUpdate load => exact (recomputeElectric_lineKept _).from_eq rfl
  | capHanding sheet caps => exact (applyCaps_lineKept _ sheet caps).from_eq rfl
  | hazeCut sheet => exact (cutHaze_lineKept _ sheet).from_eq rfl
  | stepStart => exact startStep_lineKept s
  | searchCompletion => exact completeSearch_lineKept s
  | _ => exact .of_eq (by simp)

end

end Sys2Proof.Machine
end

section
/-! SUPPORT. What the arbiter, the arrival of a frame and the taking of a request can do, said once for the invariants. -/

namespace Sys2Proof.Machine

/-! ### The arbiter (R15) -/

/-- The arbiter leaves the state alone, or takes the head of the Forward Buffer, or one frame of the other sources with
the run count at 0. -/
theorem arbitrate_cases (s : State) : arbitrate s = s ∨ s.line.sending = none ∧
    ((∃ f rest n, s.line.forward = f :: rest ∧ n ≤ 4 ∧ arbitrate s = sendForwarded f rest n s) ∨
      arbitrate s = sendOther { s with line.runCount := 0 } ∨ arbitrate s = sendWake s) := by
  cases hs : s.line.sending with
  | some sd => exact .inl (arbitrate_busy s (by simp [hs]))
  | none =>
    rw [arbitrate_idle s hs]
    fun_cases chooseFrame s
    case case1 f rest hf _ => exact .inr ⟨rfl, .inl ⟨f, rest, 0, hf, by omega, rfl⟩⟩
    case case2 f rest hf _ hr => exact .inr ⟨rfl, .inl ⟨f, rest, s.line.runCount + 1, hf, hr, rfl⟩⟩
    case case3 => exact .inr ⟨rfl, .inr (.inl rfl)⟩
    case case4 => exact .inr ⟨rfl, .inr (.inl rfl)⟩
    case case5 => exact .inr ⟨rfl, .inr (.inr rfl)⟩
    case case6 => exact .inl rfl

/-- Of the other sources the Command Queue sends first, then the Notice Queue, then the STATUS frame (R15, R189). -/
theorem sendOther_cases (s : State) : sendOther s = s ∨
    (∃ e rest, s.line.queue = e :: rest ∧ sendOther s = sendEntry e rest s) ∨
    (∃ n rest, s.notices.queue = n :: rest ∧ sendOther s =
      beginOwn .notice s.line.controller kindNotice (noticePayload n) { s with notices.queue := rest }) ∨
    ∃ p, sendOther s = beginOwn .status Config.broadcast kindStatus p { s with notices.status := none } := by
  fun_cases sendOther s
  case case1 e rest h => exact .inr (.inl ⟨e, rest, h, rfl⟩)
  case case2 n rest h => exact .inr (.inr (.inl ⟨n, rest, h, rfl⟩))
  case case3 p _ => exact .inr (.inr (.inr ⟨p, rfl⟩))
  case case4 => exact .inl rfl

/-- What holds of every frame the arbiter can take holds after its choice. -/
theorem arbitrate_keeps {P : State → Prop} {s : State} (same : P s)
    (forwarded : ∀ f rest n, s.line.sending = none → s.line.forward = f :: rest → n ≤ 4 → P (sendForwarded f rest n s))
    (idle : s.line.sending = none → P { s with line.runCount := 0 })
    (entry : ∀ e rest, s.line.sending = none → s.line.queue = e :: rest →
      P (sendEntry e rest { s with line.runCount := 0 }))
    (notice : ∀ n rest, s.line.sending = none → s.notices.queue = n :: rest →
      P (beginOwn .notice s.line.controller kindNotice (noticePayload n)
        { s with line.runCount := 0, notices.queue := rest }))
    (status : ∀ p, s.line.sending = none → P (beginOwn .status Config.broadcast kindStatus p
      { s with line.runCount := 0, notices.status := none }))
    (wake : s.line.sending = none → P (sendWake s)) : P (arbitrate s) := by
  rcases arbitrate_cases s with h | ⟨free, ⟨f, rest, n, hf, hn, h⟩ | h | h⟩ <;> rw [h]
  · exact same
  · exact forwarded f rest n free hf hn
  · rcases sendOther_cases { s with line.runCount := 0 } with h | ⟨e, rest, hq, h⟩ | ⟨n, rest, hq, h⟩ | ⟨p, h⟩ <;> rw [h]
    · exact idle free
    · exact entry e rest free hq
    · exact notice n rest free hq
    · exact status p free
  · exact wake free

/-! ### The arrival of a frame (R1 to R10, R21) -/

theorem forwardFull_iff (s : State) : forwardFull s = true ↔ 4 ≤ s.line.forward.length :=
  decide_eq_true_iff

/-- What the parts of an arrival keep, the arrival keeps. -/
structure KeptByArrival (P : State → Prop) : Prop where
  error : ∀ s, P s → P { s with line.lineErrors := countUp 1 s.line.lineErrors }
  activity : ∀ s, P s → P (lineActivity s)
  node : ∀ source seq s, seq < 16 → P s → P (setNode source (testedNode (nodeRec s.line source) seq) s)
  overrun : ∀ s, P s → P (overrun s)
  forward : ∀ frame s, s.line.forward.length < 4 → P s → P (forwardFrame frame s)
  samples : ∀ source payload s, P s → P (sampleEntries source payload s)
  entries : ∀ dest dup payload s, P s → P (rewriteEntries dest dup payload s).2
  offered : ∀ source payload s, P s → P (offerRequest source payload s)

section
variable {P : State → Prop} (k : KeptByArrival P)
include k

theorem KeptByArrival.of_dispatchForward (frame : List Byte) (dup : Bool) (s : State) (h : P s) :
    P (dispatchForward frame dup s) := by
  unfold dispatchForward
  split
  · exact k.overrun s h
  · next hf =>
    have room : s.line.forward.length < 4 := by simpa [forwardFull_iff] using hf
    split
    · refine k.forward frame _ ?_ ?_
      · cases dup <;> simpa using room
      · cases dup
        · exact k.samples _ _ s h
        · exact h
    · split
      · exact k.forward _ _ (by simpa using room) (k.entries _ _ _ s h)
      · exact k.forward frame s room h

theorem KeptByArrival.of_takeKnown (frame : List Byte) (s : State) (h : P s) : P (takeKnown frame s) := by
  have hn := k.node (sourceOf frame) (seqOf frame) s (Nat.mod_lt _ (by decide)) h
  unfold takeKnown dispatch
  dsimp only
  split
  · split
    · exact hn
    · exact k.offered _ _ _ hn
  · exact k.of_dispatchForward _ _ _ hn

theorem KeptByArrival.of_arrive (frame : List Byte) (s : State) (h : P s) : P (arrive frame s) := by
  unfold arrive
  split
  · exact h
  · split
    · have ha := k.activity s h
      unfold takeGood
      split
      · exact ha
      · split
        · exact k.of_takeKnown frame _ ha
        · unfold forwardUnread
          split
          · exact k.overrun _ ha
          · next hf => exact k.forward frame _ (by simpa [forwardFull_iff] using hf) ha
    · exact k.error s h

end

/-- A request offered is answered BUSY, dropped and counted, refused at once, or staged (R21, R174, R175). -/
theorem offerRequest_keeps {P : State → Prop} {source : Nat} {payload : List Byte} {s : State}
    (busy : ∀ p, (s.line.queue.filter isBusy).length < 6 → P (queueEntry (.busy source p) s))
    (dropped : P { s with line.drops := countUp 1 s.line.drops })
    (refused : ∀ slot p, slotOf s.responder slot = .free → P (placeReply slot source p false s))
    (staged : ∀ slot r, slotOf s.responder slot = .free → P (stageRequest slot source payload r s)) :
    P (offerRequest source payload s) := by
  unfold offerRequest
  split
  · next slot hslot =>
    have free : slotOf s.responder slot = .free := by
      unfold freeSlot at hslot
      split at hslot
      · cases hslot
        assumption
      · split at hslot
        · cases hslot
          assumption
        · cases hslot
    unfold checkIn
    split
    · exact refused slot _ free
    · exact staged slot _ free
  · unfold answerBusy
    split
    · next hb => exact busy _ hb
    · exact dropped

/-! ### The taking of a request (R174, R176) -/

/-- A request is taken by its handing, its answer and the placing of its reply. -/
theorem takeRequest_keeps {P : State → Prop} {r : Req} {slot : SlotIx} {s : State} {restart : Bool}
    {answer : List Byte → State → Answer} (handed : ∀ e s, P s → P (takeHanded e s))
    (answered : ∀ args s, P s → P (answer args s).state)
    (reply : ∀ slot dest p restart s, P s → P (placeReply slot dest p restart s)) (h : P s) :
    P (takeRequest r slot restart answer s) := by
  unfold takeRequest
  split
  · split
    · exact h
    · exact reply _ _ _ _ _ (answered _ _ (handed _ _ h))
  · exact handed _ _ h

/-- The slot of a request that is staged holds it CHECKED. -/
theorem slotOf_of_stagedRequest {r : Req} {slot : SlotIx} {s : State} {q : Request}
    (h : stagedRequest r slot s = some q) : slotOf s.responder slot = .checked q := by
  unfold stagedRequest at h
  split at h
  · next p hp =>
    split at h
    · cases h
      exact hp
    · cases h
  · cases h
  · cases h

/-- What an invariant needs, part by part, to be kept by every step: an arrival by its parts, a request by its handing,
its answer and the placing of its reply. -/
structure KeptByParts (P : State → Prop) : Prop where
  pending : ∀ s l, P s → P { s with pending := l }
  powerOn : ∀ own controller l, P (powerOnState own controller l)
  reset : ∀ s, P s → P (assertReset s)
  tick : ∀ s, P s → P (tickMs s)
  choice : ∀ s, P s → P (arbitrate s)
  arrival : KeptByArrival P
  completed : ∀ s, P s → P (completeSending s)
  event : ∀ {c f}, Event c f → (∀ bytes, c ≠ .frameArrival bytes) → c ≠ .lineOutSendComplete → ∀ s, P s → P (f s)
  handed : ∀ e s, P s → P (takeHanded e s)
  answer : ∀ r args s, P s → P (answerOf r args s).state
  reply : ∀ slot dest p restart s, P s → P (placeReply slot dest p restart s)

theorem KeptByParts.keptByShape {P : State → Prop} (k : KeptByParts P) : KeptByShape P where
  pending := k.pending
  powerOn := k.powerOn
  reset := k.reset
  tick s _ := k.tick s
  choice := k.choice
  event c f s he _ h := by
    rcases Classical.em (∃ bytes, c = .frameArrival bytes) with ⟨bytes, rfl⟩ | ha
    · cases he
      exact k.arrival.of_arrive bytes s h
    · rcases Classical.em (c = .lineOutSendComplete) with rfl | hl
      · cases he
        exact k.completed s h
      · exact k.event he (fun bytes e => ha ⟨bytes, e⟩) hl s h
  request r _ _ _ := takeRequest_keeps k.handed (k.answer r) k.reply

/-! ### Slots -/

theorem slotOf_setSlot_same (slot : SlotIx) (v : SlotState) (s : State) :
    slotOf (setSlot slot v s).responder slot = v := by
  unfold slotOf setSlot
  split <;> rfl

theorem slotOf_setSlot_other {slot other : SlotIx} (h : other ≠ slot) (v : SlotState) (s : State) :
    slotOf (setSlot slot v s).responder other = slotOf s.responder other := by
  unfold slotOf setSlot
  split
  · next ho => rw [if_neg (ho ▸ h.symm)]
  · next ho => rw [if_pos ((by decide : ∀ i j : SlotIx, j ≠ i → j ≠ 0 → i = 0) slot other h ho)]

end Sys2Proof.Machine
end

section
/-! SUPPORT. The queues of Line Out under every shape of command (R9, R11, R12, R14, R15, R21, R174, R188). -/

namespace Sys2Proof.Machine

/-! ### The Command Queue under commands -/

theorem isCommandFor_iff {a : ActAddr} {e : QueueEntry} : isCommandFor a e = true ↔ ∃ v, e = .actuator a v := by
  cases e <;> simp [isCommandFor]

theorem filter_replaceCommand {p : QueueEntry → Bool} (hp : ∀ a v, p (.actuator a v) = false) (a : ActAddr) (v : Nat)
    (q : List QueueEntry) : (replaceCommand a v q).filter p = q.filter p := by
  unfold replaceCommand
  induction q with
  | nil => rfl
  | cons e q ih =>
    rw [List.map_cons, List.filter_cons, List.filter_cons, ih]
    split
    · next he =>
      obtain ⟨w, rfl⟩ := isCommandFor_iff.1 he
      simp [hp]
    · rfl

/-- A command queued moves no entry of another sort. -/
theorem filter_enqueueCommand {p : QueueEntry → Bool} (hp : ∀ a v, p (.actuator a v) = false) (a : ActAddr) (v : Nat)
    (q : List QueueEntry) : (enqueueCommand a v q).filter p = q.filter p := by
  unfold enqueueCommand
  split
  · exact filter_replaceCommand hp a v q
  · simp [hp]

theorem CommandsOnly.filter_eq {q r : List QueueEntry} (h : CommandsOnly q r) {p : QueueEntry → Bool}
    (hp : ∀ a v, p (.actuator a v) = false) : r.filter p = q.filter p := by
  induction h with
  | refl => rfl
  | enqueue a v _ ih => rw [filter_enqueueCommand hp, ih]
  | drop gone _ ih =>
    rw [List.filter_filter, ← ih]
    refine List.filter_congr fun e _ => ?_
    cases e with
    | actuator a v => simp [hp]
    | _ => simp [isCommandFor]

/-- R11: at most one command for each address. -/
def DistinctCommands (q : List QueueEntry) : Prop :=
  q.Pairwise fun d e => ∀ a v w, d = .actuator a v → e ≠ .actuator a w

/-- A value replaced in place leaves each command at its address. -/
theorem actuator_of_replaced {a b : ActAddr} {v w : Nat} {e : QueueEntry}
    (h : (if isCommandFor a e then .actuator a v else e) = QueueEntry.actuator b w) : ∃ x, e = .actuator b x := by
  split at h
  · next he =>
    cases h
    exact isCommandFor_iff.1 he
  · exact ⟨w, h⟩

theorem DistinctCommands.enqueueCommand {q : List QueueEntry} (h : DistinctCommands q) (a : ActAddr) (v : Nat) :
    DistinctCommands (enqueueCommand a v q) := by
  unfold Machine.enqueueCommand DistinctCommands
  split
  · refine List.pairwise_map.2 (h.imp fun {d e} hde b x y hd he => ?_)
    obtain ⟨x', hd'⟩ := actuator_of_replaced hd
    obtain ⟨y', he'⟩ := actuator_of_replaced he
    exact hde b x' y' hd' he'
  · next hq =>
    refine List.pairwise_append.2 ⟨h, List.pairwise_singleton _ _, fun d hd e he b x y hdb heb => hq ?_⟩
    obtain rfl := List.mem_singleton.1 he
    cases heb
    exact List.any_eq_true.2 ⟨d, hd, isCommandFor_iff.2 ⟨x, hdb⟩⟩

theorem DistinctCommands.commandsOnly {q r : List QueueEntry} (k : CommandsOnly q r) (h : DistinctCommands q) :
    DistinctCommands r := by
  induction k with
  | refl => exact h
  | enqueue a v _ ih => exact (ih h).enqueueCommand a v
  | drop gone _ ih => exact (ih h).filter _

theorem DistinctCommands.append_reply {q : List QueueEntry} (h : DistinctCommands q) {e : QueueEntry}
    (he : ∀ a v, e ≠ .actuator a v) : DistinctCommands (q ++ [e]) := by
  refine List.pairwise_append.2 ⟨h, List.pairwise_singleton _ _, fun d _ e' he' a v w _ => ?_⟩
  obtain rfl := List.mem_singleton.1 he'
  exact he a w

/-! ### What Line Out keeps -/

/-- From s to t Line Out has changed in the commands of its Command Queue alone. -/
structure OutKept (s t : State) : Prop where
  own : t.line.own = s.line.own
  held : t.line.held = s.line.held
  forward : t.line.forward = s.line.forward
  runCount : t.line.runCount = s.line.runCount
  sending : t.line.sending = s.line.sending
  originSeq : t.line.originSeq = s.line.originSeq
  queue : CommandsOnly s.line.queue t.line.queue

theorem OutKept.of_eq {s t : State} (h : t.line = s.line) : OutKept s t := by
  constructor <;> rw [h]
  exact .refl _

theorem OutKept.refl (s : State) : OutKept s s := .of_eq rfl

theorem LineKept.outKept {s t : State} (k : LineKept s t) : OutKept s t := by
  constructor
  case queue => exact k.queue
  all_goals rw [k.rest]

theorem lineActivity_outKept (s : State) : OutKept s (lineActivity s) := by
  unfold lineActivity
  split
  · exact ⟨rfl, rfl, rfl, rfl, rfl, rfl, .refl _⟩
  · exact ⟨rfl, rfl, rfl, rfl, rfl, rfl, .refl _⟩

theorem overrun_outKept (s : State) : OutKept s (overrun s) := by
  unfold overrun
  dsimp only
  split
  · exact ⟨rfl, rfl, rfl, rfl, rfl, rfl, .refl _⟩
  · exact ⟨rfl, rfl, rfl, rfl, rfl, rfl, .refl _⟩

theorem silenceExpiry_outKept (s : State) : OutKept s (silenceExpiry s) := by
  unfold silenceExpiry
  split
  · exact ⟨rfl, rfl, rfl, rfl, rfl, rfl, .refl _⟩
  · exact .refl s
  · exact .refl s

theorem wakeExpiry_outKept (s : State) : OutKept s (wakeExpiry s) := by
  unfold wakeExpiry
  split
  · exact ⟨rfl, rfl, rfl, rfl, rfl, rfl, .refl _⟩
  · exact .refl s
  · exact .refl s

theorem statusPeriod_outKept (s : State) : OutKept s (statusPeriod s) := by
  unfold statusPeriod
  split
  · exact .refl s
  · dsimp only
    split
    · exact ⟨rfl, rfl, rfl, rfl, rfl, rfl, .refl _⟩
    · exact ⟨rfl, rfl, rfl, rfl, rfl, rfl, .refl _⟩

theorem readStatus_outKept (args : List Byte) (s : State) : OutKept s (readStatus args s).state := by
  unfold readStatus
  dsimp only
  split
  · exact ⟨rfl, rfl, rfl, rfl, rfl, rfl, .refl _⟩
  · constructor <;> rw [doneWith_state, (clearCause_frame _).1]
    exact .refl _
  · exact .refl s

theorem writeRights_outKept (args : List Byte) (s : State) : OutKept s (writeRights args s).state := by
  fun_cases writeRights args s
  case case3 => exact ⟨rfl, rfl, rfl, rfl, rfl, rfl, .refl _⟩
  all_goals exact .refl s

/-- No answer touches Line Out but for the commands it drops and queues. -/
theorem answerOf_outKept (r : Req) (args : List Byte) (s : State) : OutKept s (answerOf r args s).state := by
  cases r with
  | readStatus => exact readStatus_outKept args s
  | writeRights => exact writeRights_outKept args s
  | _ => exact (answerOf_lineKept s _ args (by simp) (by simp)).outKept

/-- Nor does an event, but the arrival of a frame and the completion of a sending. -/
theorem event_outKept {c : Instr} {f : State → State} (h : Event c f) (ha : ∀ bytes, c ≠ .frameArrival bytes)
    (hl : c ≠ .lineOutSendComplete) (s : State) : OutKept s (f s) := by
  cases hc : isLineEvent c with
  | false => exact (event_lineKept s h hc).outKept
  | true =>
    cases h with
    | frameArrival bytes => exact absurd rfl (ha bytes)
    | lineOutSendComplete => exact absurd rfl hl
    | silenceTimerExpiry => exact silenceExpiry_outKept s
    | wakeTimerExpiry => exact wakeExpiry_outKept s
    | statusPeriodExpiry => exact statusPeriod_outKept s
    | _ => cases hc

/-- The slots of the Request Stage stand as they stood. -/
def SlotsKept (s t : State) : Prop := ∀ slot, slotOf t.responder slot = slotOf s.responder slot

theorem SlotsKept.of_eq {s t : State} (h : t.responder = s.responder) : SlotsKept s t := fun slot => by rw [h]

theorem answerOf_slotsKept (r : Req) (args : List Byte) (s : State) : SlotsKept s (answerOf r args s).state := by
  cases r with
  | freezeRights =>
    show SlotsKept s (freezeRights args s).state
    unfold freezeRights
    split <;> exact fun _ => rfl
  | restart => exact fun _ => rfl
  | _ => exact .of_eq (by simp [answerOf])

theorem event_slotsKept {c : Instr} {f : State → State} (h : Event c f) (ha : ∀ bytes, c ≠ .frameArrival bytes)
    (hl : c ≠ .lineOutSendComplete) (s : State) : SlotsKept s (f s) := by
  cases h with
  | frameArrival bytes => exact absurd rfl (ha bytes)
  | lineOutSendComplete => exact absurd rfl hl
  | _ => exact .of_eq (by simp)

/-- What an invariant of Line Out and the Request Stage needs to be kept by every step. -/
structure KeptOnLineOut (P : State → Prop) : Prop where
  kept : ∀ {s t}, OutKept s t → SlotsKept s t → P s → P t
  powerOn : ∀ own controller l, P (powerOnState own controller l)
  reset : ∀ s, P s → P (assertReset s)
  choice : ∀ s, P s → P (arbitrate s)
  forward : ∀ frame s, s.line.forward.length < 4 → P s → P (forwardFrame frame s)
  offered : ∀ source payload s, P s → P (offerRequest source payload s)
  completed : ∀ s, P s → P (completeSending s)
  request : ∀ r slot s, s.line.held = false → P s → P (takeRequest r slot (decide (r = .restart)) (answerOf r) s)

theorem KeptOnLineOut.keptByArrival {P : State → Prop} (k : KeptOnLineOut P) : KeptByArrival P where
  error _ := k.kept ⟨rfl, rfl, rfl, rfl, rfl, rfl, .refl _⟩ fun _ => rfl
  activity s := k.kept (lineActivity_outKept s) (.of_eq (by simp))
  node _ _ _ _ := k.kept ⟨rfl, rfl, rfl, rfl, rfl, rfl, .refl _⟩ fun _ => rfl
  overrun s := k.kept (overrun_outKept s) (.of_eq (by simp))
  forward := k.forward
  samples _ _ _ := k.kept (.of_eq (by simp)) (.of_eq (by simp))
  entries _ _ _ _ := k.kept (.of_eq (by simp)) (.of_eq (by simp))
  offered := k.offered

theorem KeptOnLineOut.keptByShape {P : State → Prop} (k : KeptOnLineOut P) : KeptByShape P where
  pending _ _ := k.kept (.of_eq rfl) fun _ => rfl
  powerOn := k.powerOn
  reset := k.reset
  tick _ _ := k.kept ⟨rfl, rfl, rfl, rfl, rfl, rfl, .refl _⟩ fun _ => rfl
  choice := k.choice
  event c f s he _ h := by
    rcases Classical.em (∃ bytes, c = .frameArrival bytes) with ⟨bytes, rfl⟩ | ha
    · cases he
      exact k.keptByArrival.of_arrive bytes s h
    · rcases Classical.em (c = .lineOutSendComplete) with rfl | hl
      · cases he
        exact k.completed s h
      · have ha' : ∀ bytes, c ≠ .frameArrival bytes := fun bytes e => ha ⟨bytes, e⟩
        exact k.kept (event_outKept he ha' hl s) (event_slotsKept he ha' hl s) h
  request := k.request

/-! ### The Notice Queue (R188) -/

theorem statusPeriod_noticeQueue (s : State) : (statusPeriod s).notices.queue = s.notices.queue := by
  unfold statusPeriod
  split
  · rfl
  · dsimp only
    split <;> rfl

theorem answerOf_noticeQueue (r : Req) (args : List Byte) (s : State) :
    (answerOf r args s).state.notices.queue = s.notices.queue := by
  cases r with
  | readStatus =>
    show (readStatus args s).state.notices.queue = _
    unfold readStatus clearCause
    dsimp only
    repeat' split
    all_goals rfl
  | writeNoticeMask =>
    show (writeNoticeMask args s).state.notices.queue = _
    unfold writeNoticeMask
    split <;> rfl
  | _ => simp [answerOf]

theorem restartEffect_notices (s : State) : (restartEffect s).notices = restartedNotices s.notices := by
  simp [restartEffect, restartedBlocks]

theorem restartEffect_responder (s : State) : (restartEffect s).responder = restartedResponder s.responder := by
  simp [restartEffect, restartedBlocks]

/-- R188: the notices of a queue are of different kinds or subjects. -/
def DistinctNotices (q : List Notice) : Prop := q.Pairwise fun m n => ¬(m.kind = n.kind ∧ m.subject = n.subject)

theorem sameNotice_iff {k : NoticeKind} {subject : Nat} {n : Notice} :
    sameNotice k subject n = true ↔ n.kind = k ∧ n.subject = subject := by
  simp [sameNotice]

theorem placeNotice_sound (n : Notice) {u : NoticeUnit} (h : u.queue.length ≤ 32 ∧ DistinctNotices u.queue) :
    (placeNotice n u).queue.length ≤ 32 ∧ DistinctNotices (placeNotice n u).queue := by
  obtain ⟨hl, hd⟩ := h
  have key (m : Notice) : (if sameNotice n.kind n.subject m then n else m).kind = m.kind ∧
      (if sameNotice n.kind n.subject m then n else m).subject = m.subject := by
    split
    · next hm =>
      obtain ⟨hk, hs⟩ := sameNotice_iff.1 hm
      exact ⟨hk.symm, hs.symm⟩
    · exact ⟨rfl, rfl⟩
  unfold placeNotice
  split
  · refine ⟨by simpa [coalesced] using hl, List.pairwise_map.2 (hd.imp fun {a b} hab => ?_)⟩
    rwa [(key a).1, (key a).2, (key b).1, (key b).2]
  · next hq =>
    split
    · next hroom =>
      refine ⟨by rw [List.length_append]; exact hroom, List.pairwise_append.2 ⟨hd, List.pairwise_singleton _ _, ?_⟩⟩
      intro a ha b hb hab
      obtain rfl := List.mem_singleton.1 hb
      exact hq (List.any_eq_true.2 ⟨a, ha, sameNotice_iff.2 hab⟩)
    · exact ⟨hl, hd⟩

theorem offerNotice_sound (k : NoticeKind) (subject : Nat) (value : Int) {u : NoticeUnit}
    (h : u.queue.length ≤ 32 ∧ DistinctNotices u.queue) :
    (offerNotice k subject value u).queue.length ≤ 32 ∧ DistinctNotices (offerNotice k subject value u).queue := by
  unfold offerNotice
  split
  · exact placeNotice_sound _ h
  · exact h

theorem noticeQueueSound_congr {s t : State} (h : t.notices.queue = s.notices.queue) (hs : NoticeQueueSound s) :
    NoticeQueueSound t := by
  unfold NoticeQueueSound
  rwa [h]

theorem noticeQueueSound_tail {s t : State} {n : Notice} (h : s.notices.queue = n :: t.notices.queue)
    (hs : NoticeQueueSound s) : NoticeQueueSound t := by
  obtain ⟨hl, hd⟩ := hs
  rw [h] at hl hd
  exact ⟨by simp only [List.length_cons] at hl; omega, (List.pairwise_cons.1 hd).2⟩

theorem noticeQueueSound_empty {s : State} (h : s.notices.queue = []) : NoticeQueueSound s := by
  simp [NoticeQueueSound, h]

theorem noticeQueueSound_kept : KeptByShape NoticeQueueSound where
  pending _ _ h := h
  powerOn _ _ _ := noticeQueueSound_empty rfl
  reset _ h := h
  tick _ _ h := h
  choice s h := arbitrate_keeps h (fun _ _ _ _ _ _ => h) (fun _ => h)
    (fun e rest _ _ => by cases e <;> exact h) (fun _ _ _ hq => noticeQueueSound_tail hq h) (fun _ _ => h) (fun _ => h)
  event c f s he _ h := by
    cases he with
    | noticeOffer kind subject value => exact offerNotice_sound kind subject value h
    | statusPeriodExpiry => exact noticeQueueSound_congr (statusPeriod_noticeQueue s) h
    | lineOutSendComplete =>
      exact completeSending_keeps h (fun _ => h) (fun _ _ _ _ => noticeQueueSound_congr (by simp) h)
        (fun _ => noticeQueueSound_empty (congrArg NoticeUnit.queue (restartEffect_notices _)))
    | _ => exact noticeQueueSound_congr (by simp) h
  request r slot s _ h := takeRequest_keeps (fun _ _ h => h)
    (fun args s => noticeQueueSound_congr (answerOf_noticeQueue r args s))
    (fun _ _ _ _ _ => noticeQueueSound_congr (by simp)) h

/-! ### The Command Queue (R11) -/

theorem commandQueueSound_iff {s : State} : CommandQueueSound s ↔ DistinctCommands s.line.queue := .rfl

theorem OutKept.commandQueueSound {s t : State} (k : OutKept s t) (h : CommandQueueSound s) : CommandQueueSound t :=
  DistinctCommands.commandsOnly k.queue h

theorem commandQueueSound_tail {s t : State} {e : QueueEntry} (h : s.line.queue = e :: t.line.queue)
    (hs : CommandQueueSound s) : CommandQueueSound t := by
  rw [commandQueueSound_iff, h] at hs
  exact (List.pairwise_cons.1 hs).2

theorem commandQueueSound_append {s t : State} {e : QueueEntry} (h : t.line.queue = s.line.queue ++ [e])
    (he : ∀ a v, e ≠ .actuator a v) (hs : CommandQueueSound s) : CommandQueueSound t := by
  rw [commandQueueSound_iff, h]
  exact DistinctCommands.append_reply hs he

theorem commandQueueSound_empty {s : State} (h : s.line.queue = []) : CommandQueueSound s := by
  rw [commandQueueSound_iff, h]
  exact .nil

theorem placeReply_line (slot : SlotIx) (dest : Nat) (p : List Byte) (restart : Bool) (s : State) :
    (placeReply slot dest p restart s).line =
      { s.line with queue := s.line.queue ++ [.reply slot dest p restart] } := by
  simp [placeReply]

theorem placeReply_commandQueueSound (slot : SlotIx) (dest : Nat) (p : List Byte) (restart : Bool) (s : State)
    (h : CommandQueueSound s) : CommandQueueSound (placeReply slot dest p restart s) :=
  commandQueueSound_append (by rw [placeReply_line]) (by simp) h

theorem commandQueueSound_kept : KeptOnLineOut CommandQueueSound where
  kept k _ h := k.commandQueueSound h
  powerOn _ _ _ := commandQueueSound_empty rfl
  reset _ h := h
  choice s h := arbitrate_keeps h (fun _ _ _ _ _ _ => h) (fun _ => h)
    (fun e rest _ hq => by cases e <;> exact commandQueueSound_tail hq h) (fun _ _ _ _ => h) (fun _ _ => h) (fun _ => h)
  forward _ _ _ h := h
  offered source payload s h := offerRequest_keeps
    (fun _ _ => commandQueueSound_append rfl (by simp) h) h
    (fun slot p _ => placeReply_commandQueueSound slot source p false s h)
    (fun _ _ _ => (OutKept.of_eq (by simp)).commandQueueSound h)
  completed s h := completeSending_keeps h (fun _ => h)
    (fun _ slot _ _ => (OutKept.of_eq (setSlot_line _ slot _)).commandQueueSound h)
    (fun _ => (restartEffect_lineKept _).outKept.commandQueueSound (commandQueueSound_empty rfl))
  request r slot s _ h := takeRequest_keeps (fun _ _ h => h)
    (fun args s => (answerOf_outKept r args s).commandQueueSound) placeReply_commandQueueSound h

/-! ### The Forward Buffer, the run count and the origin sequence (R9, R14, R15) -/

theorem OutKept.lineOutSound {s t : State} (k : OutKept s t) (h : LineOutSound s) : LineOutSound t := by
  unfold LineOutSound
  rwa [k.forward, k.runCount, k.originSeq]

/-- The sending of a frame of the part takes the next origin sequence (R14). -/
theorem lineOutSound_beginOwn {t : State} (source : SendSource) (dest kind : Nat) (p : List Byte)
    (h : t.line.forward.length ≤ 4) (hr : t.line.runCount = 0) : LineOutSound (beginOwn source dest kind p t) :=
  ⟨h, by simp [hr], Nat.mod_lt _ (by decide)⟩

theorem placeReply_lineOutSound (slot : SlotIx) (dest : Nat) (p : List Byte) (restart : Bool) (s : State)
    (h : LineOutSound s) : LineOutSound (placeReply slot dest p restart s) := by
  unfold LineOutSound
  rwa [placeReply_line]

theorem lineOutSound_choice (s : State) (h : LineOutSound s) : LineOutSound (arbitrate s) := by
  have same := h
  obtain ⟨hf, hr, ho⟩ := h
  refine arbitrate_keeps same (fun f rest n _ hq hn => ⟨?_, hn, ho⟩) (fun _ => ⟨hf, by simp, ho⟩)
    (fun e rest _ _ => ?_) (fun _ _ _ _ => lineOutSound_beginOwn _ _ _ _ hf rfl)
    (fun _ _ => lineOutSound_beginOwn _ _ _ _ hf rfl) (fun _ => lineOutSound_beginOwn _ _ _ _ hf rfl)
  · rw [hq] at hf
    exact Nat.le_of_succ_le hf
  · cases e <;> exact lineOutSound_beginOwn _ _ _ _ hf rfl

/-- RESTART sets the run count to 0 and keeps the Forward Buffer and the origin sequence (R23). -/
theorem restartedBlocks_lineOutSound {s : State} (h : LineOutSound s) : LineOutSound (restartedBlocks s) := by
  obtain ⟨hf, -, ho⟩ := h
  exact ⟨hf, Nat.zero_le _, ho⟩

theorem lineOutSound_kept : KeptOnLineOut LineOutSound where
  kept k _ h := k.lineOutSound h
  powerOn _ _ _ := by simp [LineOutSound, powerOnState, powerOnLine]
  reset _ h := h
  choice := lineOutSound_choice
  forward frame s hf h := by
    obtain ⟨-, hr, ho⟩ := h
    exact ⟨by simpa using hf, hr, ho⟩
  offered source payload s h := offerRequest_keeps (fun _ _ => h) h
    (fun slot p _ => placeReply_lineOutSound slot source p false s h)
    (fun _ _ _ => (OutKept.of_eq (by simp)).lineOutSound h)
  completed s h := completeSending_keeps h (fun _ => h)
    (fun _ slot _ _ => (OutKept.of_eq (setSlot_line { s with line.sending := none } slot _)).lineOutSound h)
    (fun slot => (restartEffect_lineKept _).outKept.lineOutSound (restartedBlocks_lineOutSound
      ((OutKept.of_eq (setSlot_line { s with line.sending := none } slot _)).lineOutSound h)))
  request r slot s _ h := takeRequest_keeps (fun _ _ h => h)
    (fun args s => (answerOf_outKept r args s).lineOutSound) placeReply_lineOutSound h

/-! ### Replies and slots (R12, R21, R174) -/

/-- R12: the count a slot's state allows. -/
def replyingCount (slot : SlotIx) (s : State) : Nat := if slotOf s.responder slot = .replying then 1 else 0

theorem repliesSound_iff {s : State} : RepliesSound s ↔ (s.line.queue.filter isBusy).length ≤ 6 ∧
    (s.line.held = true ∨ ∀ slot, repliesOf slot s = replyingCount slot s) := .rfl

theorem replyingCount_eq_of_slotsKept {s t : State} (k : SlotsKept s t) (slot : SlotIx) :
    replyingCount slot t = replyingCount slot s := by
  rw [replyingCount, k slot, replyingCount]

/-- Where no slot and no reply has moved, and no BUSY reply has come, the replies stay sound. -/
theorem repliesSound_of_same {s t : State} (hb : (t.line.queue.filter isBusy).length ≤ (s.line.queue.filter isBusy).length)
    (hh : t.line.held = s.line.held) (hr : ∀ slot, repliesOf slot t = repliesOf slot s) (k : SlotsKept s t)
    (h : RepliesSound s) : RepliesSound t := by
  obtain ⟨hb', h⟩ := repliesSound_iff.1 h
  refine repliesSound_iff.2 ⟨hb.trans hb', h.imp (hh.trans ·) fun h slot => ?_⟩
  rw [hr, h, replyingCount_eq_of_slotsKept k]

/-- Where one slot goes to a state that its replies fit, and the replies of the other are as they were, the replies
stay sound. -/
theorem repliesSound_of_slot {s t : State} {slot : SlotIx} {v : SlotState}
    (hb : (t.line.queue.filter isBusy).length ≤ (s.line.queue.filter isBusy).length) (hh : t.line.held = s.line.held)
    (hv : slotOf t.responder slot = v) (ho : ∀ k, k ≠ slot → slotOf t.responder k = slotOf s.responder k)
    (same : repliesOf slot s = replyingCount slot s → repliesOf slot t = if v = .replying then 1 else 0)
    (other : ∀ k, k ≠ slot → repliesOf k t = repliesOf k s) (h : RepliesSound s) : RepliesSound t := by
  obtain ⟨hb', h⟩ := repliesSound_iff.1 h
  refine repliesSound_iff.2 ⟨hb.trans hb', h.imp (hh.trans ·) fun h k => ?_⟩
  unfold replyingCount
  rcases Classical.em (k = slot) with rfl | hk
  · rw [hv, same (h k)]
  · rw [ho k hk, other k hk, h k, replyingCount]

/-- The replies of a slot that stand in a queue (R12). -/
theorem repliesOf_eq (slot : SlotIx) (s : State) : repliesOf slot s =
    (s.line.queue.filter (isReplyOf slot)).length + if sendsReplyOf slot s.line.sending then 1 else 0 := rfl

theorem OutKept.repliesSound {s t : State} (k : OutKept s t) (ks : SlotsKept s t) (h : RepliesSound s) :
    RepliesSound t := by
  refine repliesSound_of_same (Nat.le_of_eq ?_) k.held (fun slot => ?_) ks h
  · rw [k.queue.filter_eq fun _ _ => rfl]
  · rw [repliesOf_eq, repliesOf_eq, k.queue.filter_eq fun _ _ => rfl, k.sending]

theorem repliesOf_sendEntry {s : State} {e : QueueEntry} {rest : List QueueEntry} (free : s.line.sending = none)
    (hq : s.line.queue = e :: rest) (slot : SlotIx) (n : Nat) :
    repliesOf slot (sendEntry e rest { s with line.runCount := n }) = repliesOf slot s := by
  rw [repliesOf_eq, repliesOf_eq, hq, free]
  cases e with
  | actuator a v => simp [sendEntry, isReplyOf, sendsReplyOf]
  | busy dest p => simp [sendEntry, isReplyOf, sendsReplyOf]
  | reply k dest p r =>
    rcases Classical.em (k = slot) with rfl | hk
    · simp [sendEntry, isReplyOf, sendsReplyOf]
    · simp [sendEntry, isReplyOf, sendsReplyOf, hk]

theorem repliesSound_choice (s : State) (h : RepliesSound s) : RepliesSound (arbitrate s) := by
  -- A frame of a source that holds no reply leaves the replies as they are.
  have plain {t : State} (free : s.line.sending = none) (hq : t.line.queue = s.line.queue)
      (hh : t.line.held = s.line.held) (hr : t.responder = s.responder)
      (hs : ∀ slot, sendsReplyOf slot t.line.sending = false) : RepliesSound t := by
    refine repliesSound_of_same (by rw [hq]) hh (fun slot => ?_) (.of_eq hr) h
    rw [repliesOf_eq, repliesOf_eq, hq, hs, free]
    rfl
  refine arbitrate_keeps h (fun _ _ _ free _ _ => plain free rfl rfl rfl fun _ => rfl)
    (fun free => plain free rfl rfl rfl fun _ => by simp [free, sendsReplyOf]) (fun e rest free hq => ?_)
    (fun _ _ free _ => plain free rfl rfl rfl fun _ => rfl) (fun _ free => plain free rfl rfl rfl fun _ => rfl)
    (fun free => plain free rfl rfl rfl fun _ => rfl)
  refine repliesSound_of_same ?_ (by cases e <;> rfl) (fun slot => repliesOf_sendEntry free hq slot 0)
    (.of_eq (by cases e <;> rfl)) h
  have rests : (sendEntry e rest { s with line.runCount := 0 }).line.queue = rest := by cases e <;> rfl
  rw [rests, hq]
  exact ((List.sublist_cons_self e rest).filter _).length_le

theorem isReplyOf_reply (slot k : SlotIx) (dest : Nat) (p : List Byte) (restart : Bool) :
    isReplyOf slot (.reply k dest p restart) = decide (k = slot) := rfl

/-- A slot that is not REPLYING takes its one reply (R174). -/
theorem placeReply_repliesSound {slot : SlotIx} {s : State} (hs : slotOf s.responder slot ≠ .replying) (dest : Nat)
    (p : List Byte) (restart : Bool) (h : RepliesSound s) : RepliesSound (placeReply slot dest p restart s) := by
  have hl := placeReply_line slot dest p restart s
  refine repliesSound_of_slot (s := s) (slot := slot) (v := .replying) (by simp [hl, isBusy]) (by rw [hl])
    (slotOf_setSlot_same _ _ _) (fun k hk => slotOf_setSlot_other hk _ _) (fun hc => ?_) (fun k hk => ?_) h
  · rw [repliesOf_eq, replyingCount, if_neg hs] at hc
    rw [repliesOf_eq, hl]
    simp only [List.filter_append, List.length_append, List.filter_cons, isReplyOf_reply, decide_true, if_true,
      List.filter_nil, List.length_singleton]
    omega
  · simp [repliesOf_eq, hl, isReplyOf_reply, hk.symm]

theorem repliesSound_offered (source : Nat) (payload : List Byte) (s : State) (h : RepliesSound s) :
    RepliesSound (offerRequest source payload s) := by
  refine offerRequest_keeps (fun p hb => ?_) ?_
    (fun slot p hs => placeReply_repliesSound (by rw [hs]; exact nofun) source p false h) (fun slot r hs => ?_)
  · obtain ⟨-, h⟩ := repliesSound_iff.1 h
    refine repliesSound_iff.2 ⟨?_, h.imp id fun h slot => (Eq.trans ?_ (h slot))⟩
    · rw [queueEntry_line, List.filter_append, List.length_append]
      exact hb
    · rw [repliesOf_eq, repliesOf_eq, queueEntry_line, List.filter_append]
      simp [isReplyOf]
  · exact OutKept.repliesSound ⟨rfl, rfl, rfl, rfl, rfl, rfl, .refl _⟩ (fun _ => rfl) h
  · have hl : (stageRequest slot source payload r s).line = s.line := by simp
    refine repliesSound_of_slot (s := s) (slot := slot) (by rw [hl]) (by rw [hl]) (slotOf_setSlot_same _ _ _)
      (fun k hk => slotOf_setSlot_other hk _ _) (fun hc => ?_) (fun k _ => ?_) h
    · rw [replyingCount, if_neg (by rw [hs]; exact nofun)] at hc
      rw [if_neg nofun, ← hc, repliesOf_eq, repliesOf_eq, hl]
    · rw [repliesOf_eq, repliesOf_eq, hl]

theorem sendsReplyOf_eq_false {slot : SlotIx} {sending : Option Sending}
    (h : ∀ f k restart, sending ≠ some ⟨f, .reply k restart⟩) : sendsReplyOf slot sending = false := by
  unfold sendsReplyOf
  split
  · next f k restart => exact absurd rfl (h f k restart)
  · rfl

/-- The reply that has been sent was the one of its slot (R12). -/
theorem repliesSound_freed {s : State} {f : List Byte} {slot : SlotIx} {restart : Bool}
    (hf : s.line.sending = some ⟨f, .reply slot restart⟩) (h : RepliesSound s) :
    RepliesSound (setSlot slot .free { s with line.sending := none }) := by
  have hl := setSlot_line { s with line.sending := none } slot .free
  refine repliesSound_of_slot (s := s) (slot := slot) (v := .free) (by rw [hl]) (by rw [hl]) (slotOf_setSlot_same _ _ _)
    (fun k hk => slotOf_setSlot_other hk _ _) (fun hc => ?_) (fun k hk => ?_) h
  · have hone : replyingCount slot s ≤ 1 := by
      unfold replyingCount
      split <;> omega
    have hs : sendsReplyOf slot s.line.sending = true := by simp [hf, sendsReplyOf]
    rw [repliesOf_eq, if_pos hs] at hc
    rw [repliesOf_eq, hl, if_neg nofun, if_neg nofun]
    show (s.line.queue.filter (isReplyOf slot)).length + 0 = 0
    omega
  · rw [repliesOf_eq, repliesOf_eq, hl, hf]
    simp [sendsReplyOf, hk.symm]

/-- With both slots free, nothing pending and Line Out idle there is no reply. -/
theorem repliesSound_empty {s : State} (hs : s.line.sending = none) (hq : s.line.queue = [])
    (hr : ∀ slot, slotOf s.responder slot = .free) : RepliesSound s := by
  refine repliesSound_iff.2 ⟨by rw [hq]; exact Nat.zero_le _, .inr fun slot => ?_⟩
  rw [repliesOf_eq, hs, hq, replyingCount, hr]
  rfl

/-- RESTART empties the Command Queue and frees both slots (R13, R174). -/
theorem restartedBlocks_repliesSound {s : State} (h : s.line.sending = none) : RepliesSound (restartedBlocks s) :=
  repliesSound_empty h rfl fun slot => by unfold slotOf; split <;> rfl

theorem repliesSound_completed (s : State) (h : RepliesSound s) : RepliesSound (completeSending s) := by
  refine completeSending_keeps h (fun hn => ?_) (fun f slot restart hf => repliesSound_freed hf h) (fun slot => ?_)
  · refine repliesSound_of_same (s := s) (Nat.le_refl _) rfl (fun slot => ?_) (fun _ => rfl) h
    rw [repliesOf_eq, repliesOf_eq, sendsReplyOf_eq_false hn]
    rfl
  · refine (restartEffect_lineKept _).outKept.repliesSound (.of_eq ?_) (restartedBlocks_repliesSound ?_)
    · exact restartEffect_responder _
    · rw [setSlot_line]

theorem repliesSound_kept : KeptOnLineOut RepliesSound where
  kept k ks h := k.repliesSound ks h
  powerOn _ _ _ := repliesSound_empty rfl rfl fun slot => by unfold slotOf; split <;> rfl
  reset s h := repliesSound_iff.2 ⟨(repliesSound_iff.1 h).1, .inl rfl⟩
  choice := repliesSound_choice
  forward _ s _ := repliesSound_of_same (s := s) (Nat.le_refl _) rfl (fun _ => rfl) (fun _ => rfl)
  offered := repliesSound_offered
  completed := repliesSound_completed
  request r slot s _ h := by
    unfold takeRequest
    split
    · next q hq =>
      split
      · exact h
      · have hs := slotOf_of_stagedRequest hq
        have kept := answerOf_slotsKept r q.args (takeHanded (takeCommand r slot) s)
        refine placeReply_repliesSound ?_ _ _ _ ((answerOf_outKept r _ _).repliesSound kept h)
        rw [kept slot, takeHanded_responder, hs]
        exact nofun
    · exact h

end Sys2Proof.Machine
end

section
/-! THEOREMS. Line Out under every step. -/

namespace Sys2Proof.Machine

/-- Settles O53: each of the four is kept by every shape of command. -/
theorem stepKeepsTheQueuesSound : Obligations.StepKeepsTheQueuesSound := fun _ _ h =>
  ⟨noticeQueueSound_kept.of_step h, commandQueueSound_kept.keptByShape.of_step h, lineOutSound_kept.keptByShape.of_step h,
    repliesSound_kept.keptByShape.of_step h⟩

end Sys2Proof.Machine
end

section
/-! SUPPORT. What the operations on scene buffers leave of the other records of the Scene Unit, and of the generations
(R119). -/

namespace Sys2Proof.Machine

/-- A record replaced: what holds of the new record at its index and of every old one holds throughout. -/
theorem forall_set {α : Type} {n : Nat} {P : Fin n → α → Prop} {v : Vector α n} {i : Fin n} {x : α} (hx : P i x)
    (h : ∀ j, P j v[j]) (j : Fin n) : P j (v.set i x)[j] := by
  rw [Fin.getElem_fin, Vector.getElem_set]
  split
  · next e => exact Fin.ext e ▸ hx
  · exact h j

theorem get_mapTable {α : Type} {n : Nat} (f : Nat → α → α) (v : Vector α n) (i : Fin n) :
    (mapTable f v)[i] = f i v[i] := getElem_mapTable f v i i.isLt

/-- R119: generations are counted modulo 256. -/
def GenerationsInRange (bs : Vector Buffer 64) : Prop := ∀ i : BufferIx, bs[i].generation < 256

/-- From s to t the Scene Unit's groups and its step counter stand as they stood, and its buffers' generations stay in
their range. -/
structure BuffersKept (s t : State) : Prop where
  groups : t.scene.groups = s.scene.groups
  stepCounter : t.scene.stepCounter = s.scene.stepCounter
  generations : GenerationsInRange s.scene.buffers → GenerationsInRange t.scene.buffers

theorem BuffersKept.of_eq {s t : State} (h : t.scene = s.scene) : BuffersKept s t := by
  constructor <;> rw [h]
  exact id

theorem BuffersKept.refl (s : State) : BuffersKept s s := .of_eq rfl

theorem BuffersKept.trans {s t u : State} (h : BuffersKept s t) (k : BuffersKept t u) : BuffersKept s u :=
  ⟨k.groups.trans h.groups, k.stepCounter.trans h.stepCounter, fun hs => k.generations (h.generations hs)⟩

theorem nextGeneration_lt (g : Nat) : nextGeneration g < 256 := Nat.mod_lt _ (by decide)

theorem GenerationsInRange.set {bs : Vector Buffer 64} (h : GenerationsInRange bs) (i : BufferIx) {b : Buffer}
    (hb : b.generation < 256) : GenerationsInRange (bs.set i b) :=
  forall_set (P := fun _ (b : Buffer) => b.generation < 256) hb h

section
variable {s : State}

/-- A buffer record replaced by one whose generation is in range wherever the old ones are. -/
theorem setBuffer_buffersKept {i : BufferIx} {b : Buffer}
    (hb : GenerationsInRange s.scene.buffers → b.generation < 256) : BuffersKept s (setBuffer i b s) :=
  ⟨rfl, rfl, fun hs => hs.set i (hb hs)⟩

/-- Two buffer records replaced. -/
theorem setBuffers_buffersKept {i j : BufferIx} {b c : Buffer}
    (hb : GenerationsInRange s.scene.buffers → b.generation < 256)
    (hc : GenerationsInRange s.scene.buffers → c.generation < 256) :
    BuffersKept s (setBuffer i b (setBuffer j c s)) :=
  ⟨rfl, rfl, fun hs => (hs.set j (hc hs)).set i (hb hs)⟩

variable (s)

theorem startTransfer_buffersKept (n : PairIx) : BuffersKept s (startTransfer n s) := by
  refine ⟨rfl, rfl, fun hs => ?_⟩
  dsimp only [startTransfer, setBuffer]
  refine .set (.set hs _ ?_) _ ?_
  · exact hs (commitSide n)
  · exact hs (outputSide n)

theorem checkTransfers_buffersKept : BuffersKept s (checkTransfers s) := by
  unfold checkTransfers
  split
  · exact .refl s
  · split
    · exact startTransfer_buffersKept s _
    · exact .refl s

theorem BuffersKept.checked {s t : State} (h : BuffersKept s t) : BuffersKept s (checkTransfers t) :=
  h.trans (checkTransfers_buffersKept t)

theorem completeTransfer_buffersKept : BuffersKept s (completeTransfer s) := by
  unfold completeTransfer
  split
  · exact .refl s
  · next n _ =>
    unfold finishTransfer
    dsimp only
    refine .checked ?_
    refine ⟨rfl, rfl, fun hs => ?_⟩
    dsimp only [setBuffer, offer_scene]
    refine .set (.set hs _ ?_) _ (nextGeneration_lt _)
    exact hs (commitSide n)

theorem abandonSearch_scene : (abandonSearch s).scene.buffers = s.scene.buffers ∧
    (abandonSearch s).scene.groups = s.scene.groups ∧
    (abandonSearch s).scene.stepCounter = s.scene.stepCounter := by
  unfold abandonSearch
  split <;> exact ⟨rfl, rfl, rfl⟩

theorem captureStep_buffersKept : BuffersKept s (captureStep s) := by
  have kept (b : Buffer) : (unselected b).generation = b.generation := by
    unfold unselected
    split <;> rfl
  refine ⟨rfl, rfl, fun hs i => ?_⟩
  simp only [captureStep, Fin.getElem_fin, Vector.getElem_map, kept]
  exact hs i

theorem markCandidate_buffersKept (step : Nat) (c : Candidate) : BuffersKept s (markCandidate step s c) := by
  unfold markCandidate copyStatus
  dsimp only
  split
  · split
    · have marked := setBuffer_buffersKept (s := s) (i := c.buffer)
        (b := markedBuffer step s.scene.buffers[c.buffer]) fun hs => hs _
      exact marked.trans (setBuffer_buffersKept fun hs => hs _)
    · exact setBuffer_buffersKept fun hs => hs _
  · exact .refl s

theorem markCandidates_buffersKept (step : Nat) (l : List Candidate) :
    BuffersKept s (l.foldl (markCandidate step) s) :=
  foldl_invariant (BuffersKept s) (markCandidate step)
    (fun t c k => k.trans (markCandidate_buffersKept t step c)) l s (.refl s)

/-! ### The requests on buffers (R121 to R128) -/

variable (args : List Byte)

theorem configureBuffer_buffersKept : BuffersKept s (configureBuffer args s).state := by
  have typed (t : BufferType) (b : Buffer) : (setType t b).generation = b.generation := by
    unfold setType
    split <;> rfl
  unfold configureBuffer
  split
  · split
    · unfold configure
      dsimp only [done_state]
      split
      · exact setBuffers_buffersKept (fun hs => (typed _ _).trans_lt (hs _)) fun hs => (typed _ _).trans_lt (hs _)
      · split
        · exact setBuffer_buffersKept fun hs => hs _
        · exact setBuffers_buffersKept (fun hs => (typed _ _).trans_lt (hs _)) fun hs => (typed _ _).trans_lt (hs _)
    · exact .refl s
  · exact .refl s
  · exact .refl s

theorem lockBuffer_buffersKept : BuffersKept s (lockBuffer args s).state := by
  fun_cases lockBuffer args s
  case case4 => exact setBuffer_buffersKept fun hs => hs _
  all_goals exact .refl s

theorem unlockBuffer_buffersKept : BuffersKept s (unlockBuffer args s).state := by
  fun_cases unlockBuffer args s
  case case3 i _ b _ =>
    refine .checked ?_
    exact setBuffer_buffersKept fun hs => hs _
  all_goals exact .refl s

theorem writeScene_buffersKept : BuffersKept s (writeScene args s).state := by
  fun_cases writeScene args s
  case case6 => exact ⟨rfl, rfl, fun hs => hs.set _ (hs _)⟩
  all_goals exact .refl s

theorem commitBuffer_buffersKept : BuffersKept s (commitBuffer args s).state := by
  fun_cases commitBuffer args s
  case case4 => exact setBuffer_buffersKept fun _ => nextGeneration_lt _
  all_goals exact .refl s

theorem bothSides_buffersKept (f : BufferState → BufferState) (i : BufferIx) : BuffersKept s (bothSides f i s) :=
  setBuffers_buffersKept (fun hs => hs _) fun hs => hs _

theorem enableBuffer_buffersKept : BuffersKept s (enableBuffer args s).state := by
  fun_cases enableBuffer args s
  case case3 i _ b _ =>
    refine .checked ?_
    exact setBuffer_buffersKept fun hs => hs _
  case case5 => exact (bothSides_buffersKept s _ _).checked
  all_goals exact .refl s

theorem disableBuffer_buffersKept : BuffersKept s (disableBuffer args s).state := by
  fun_cases disableBuffer args s
  case case3 => exact setBuffer_buffersKept fun hs => hs _
  case case5 => exact bothSides_buffersKept s _ _
  all_goals exact .refl s

theorem setStepPeriod_buffersKept : BuffersKept s (setStepPeriod args s).state := by
  unfold setStepPeriod
  dsimp only
  split
  · exact .refl s
  · exact ⟨rfl, rfl, id⟩

/-- The requests on scene buffers and the step clock. -/
def isBufferRequest : Req → Bool
  | .configureBuffer | .lockBuffer | .unlockBuffer | .writeScene | .commit | .enableBuffer | .disableBuffer
  | .setStepPeriod => true
  | _ => false

theorem answerOf_buffersKept {r : Req} (hr : isBufferRequest r = true) : BuffersKept s (answerOf r args s).state := by
  cases r with
  | configureBuffer => exact configureBuffer_buffersKept s args
  | lockBuffer => exact lockBuffer_buffersKept s args
  | unlockBuffer => exact unlockBuffer_buffersKept s args
  | writeScene => exact writeScene_buffersKept s args
  | commit => exact commitBuffer_buffersKept s args
  | enableBuffer => exact enableBuffer_buffersKept s args
  | disableBuffer => exact disableBuffer_buffersKept s args
  | setStepPeriod => exact setStepPeriod_buffersKept s args
  | _ => cases hr

end

end Sys2Proof.Machine
end

section
/-! SUPPORT. The Actuator Index (R17): what the lookup of an owner and the check of an address say, and what each
operation leaves of the addresses the loaded records hold. -/

namespace Sys2Proof.Machine

/-! ### The owner of an address, and its check (R17, R18) -/

theorem consumerHolds_iff {a : ActAddr} {c : Consumer} :
    consumerHolds a c = true ↔ c.state ≠ .unused ∧ c.defn.addr = some a := by
  rw [consumerHolds, Bool.and_eq_true, bne_iff_ne, decide_eq_true_iff]

theorem valveHolds_iff {a : ActAddr} {z : Zone} : valveHolds a z = true ↔ z.state ≠ .unused ∧ z.defn.valve = a := by
  rw [valveHolds, Bool.and_eq_true, bne_iff_ne, decide_eq_true_iff]

theorem boostHolds_iff {a : ActAddr} {z : Zone} :
    boostHolds a z = true ↔ z.state ≠ .unused ∧ z.defn.boost = some a := by
  rw [boostHolds, Bool.and_eq_true, bne_iff_ne, decide_eq_true_iff]

theorem groupHolds_iff {a : ActAddr} {g : Group} : groupHolds a g = true ↔ g.state ≠ .unused ∧ g.defn.dimmer = a := by
  rw [groupHolds, Bool.and_eq_true, bne_iff_ne, decide_eq_true_iff]

section
variable {s : State} {a : ActAddr}

/-- What the lookup finds owns the address. -/
theorem owns_of_ownerOf {o : ActOwner} (h : ownerOf s a = some o) : Owns s a o := by
  unfold ownerOf at h
  split at h
  · next hf => cases h; exact findIx_some hf
  · split at h
    · next hf => cases h; exact findIx_some hf
    · split at h
      · next hf => cases h; exact findIx_some hf
      · obtain ⟨i, hf, rfl⟩ := Option.map_eq_some_iff.1 h
        exact findIx_some hf

/-- The lookup finds nothing exactly where no loaded record holds the address. -/
theorem ownerOf_eq_none : ownerOf s a = none ↔ ∀ o, ¬Owns s a o := by
  constructor
  · intro h o
    unfold ownerOf at h
    split at h
    · cases h
    · next hc =>
      split at h
      · cases h
      · next hv =>
        split at h
        · cases h
        · next hb =>
          have hg := Option.map_eq_none_iff.1 h
          cases o with
          | consumer i => simpa [Owns] using findIx_eq_none.1 hc i
          | zoneValve i => simpa [Owns] using findIx_eq_none.1 hv i
          | zoneBoost i => simpa [Owns] using findIx_eq_none.1 hb i
          | group i => simpa [Owns] using findIx_eq_none.1 hg i
  · intro h
    cases ho : ownerOf s a with
    | none => rfl
    | some o => exact absurd (owns_of_ownerOf ho) (h o)

/-- An address with one owner is looked up as his. -/
theorem ownerOf_eq_some {o : ActOwner} (h : Owns s a o) (only : ∀ p, Owns s a p → p = o) : ownerOf s a = some o := by
  cases ho : ownerOf s a with
  | none => exact absurd h (ownerOf_eq_none.1 ho o)
  | some p => rw [only p (owns_of_ownerOf ho)]

theorem checkAddr_of_not_foreign {mine : ActOwner → Bool} (h : ¬AddrForeign s a) :
    checkAddr s mine a = if ownedByOther s mine a then some .conflict else none := if_neg h

theorem checkAddr_of_foreign (mine : ActOwner → Bool) (h : AddrForeign s a) : checkAddr s mine a = some .range :=
  if_pos h

theorem checkAddr_of_taken {mine : ActOwner → Bool} (h : AddrTaken s (fun o => mine o = true) a) :
    checkAddr s mine a = some .conflict := by
  obtain ⟨hf, ⟨o, ho⟩, hm⟩ := h
  rw [checkAddr_of_not_foreign hf, ownedByOther]
  cases hp : ownerOf s a with
  | none => exact absurd ho (ownerOf_eq_none.1 hp o)
  | some p => simp [hm p (owns_of_ownerOf hp)]

theorem checkAddr_of_free {mine : ActOwner → Bool} (h : AddrFree s (fun o => mine o = true) a) :
    checkAddr s mine a = none := by
  obtain ⟨hf, hm⟩ := h
  rw [checkAddr_of_not_foreign hf, ownedByOther]
  cases hp : ownerOf s a with
  | none => rfl
  | some p => simp [hm p (owns_of_ownerOf hp)]

/-- In a sound index an address that passes its check is free for the record being written. -/
theorem IndexSound.free_of_checkAddr {mine : ActOwner → Bool} (hs : IndexSound s) (h : checkAddr s mine a = none) :
    AddrFree s (fun o => mine o = true) a := by
  unfold checkAddr at h
  split at h
  · cases h
  · next hf =>
    refine ⟨hf, fun o ho => ?_⟩
    have only : ownerOf s a = some o := ownerOf_eq_some ho (hs a o ho).1
    simpa [ownedByOther, only] using h

end

/-! ### What keeps the owners -/

/-- From s to t the part keeps its node, and no record holds an address it did not hold. -/
structure OwnersKept (s t : State) : Prop where
  own : t.line.own = s.line.own
  owns : ∀ a o, Owns t a o → Owns s a o

theorem OwnersKept.indexSound {s t : State} (k : OwnersKept s t) (h : IndexSound s) : IndexSound t := by
  intro a o ho
  obtain ⟨only, hn, h63⟩ := h a o (k.owns a o ho)
  exact ⟨fun p hp => only p (k.owns a p hp), k.own ▸ hn, h63⟩

theorem OwnersKept.of_eq {s t : State} (hl : t.line.own = s.line.own)
    (hc : t.budget.consumers = s.budget.consumers) (hz : t.zones.zones = s.zones.zones)
    (hg : t.scene.groups = s.scene.groups) : OwnersKept s t := by
  refine ⟨hl, fun a o => ?_⟩
  unfold Owns
  rw [hc, hz, hg]
  exact id

theorem OwnersKept.refl (s : State) : OwnersKept s s := .of_eq rfl rfl rfl rfl

theorem OwnersKept.trans {s t u : State} (h : OwnersKept s t) (k : OwnersKept t u) : OwnersKept s u :=
  ⟨k.own.trans h.own, fun a o ho => h.owns a o (k.owns a o ho)⟩

/-- What keeps the owners from a state with these records keeps them from this state. -/
theorem OwnersKept.from_eq {s t u : State} (h : OwnersKept t u) (hl : t.line.own = s.line.own)
    (hc : t.budget.consumers = s.budget.consumers) (hz : t.zones.zones = s.zones.zones)
    (hg : t.scene.groups = s.scene.groups) : OwnersKept s u := (OwnersKept.of_eq hl hc hz hg).trans h

/-- What follows a change that keeps the owners, and leaves the records as they then are, keeps the owners. -/
theorem OwnersKept.then_eq {s t u : State} (h : OwnersKept s t) (hl : u.line.own = t.line.own)
    (hc : u.budget.consumers = t.budget.consumers) (hz : u.zones.zones = t.zones.zones)
    (hg : u.scene.groups = t.scene.groups) : OwnersKept s u := h.trans (.of_eq hl hc hz hg)

theorem OwnersKept.foldl {β : Type} {f : State → β → State} (h : ∀ s b, OwnersKept s (f s b)) (l : List β) (s : State) :
    OwnersKept s (l.foldl f s) :=
  foldl_invariant (OwnersKept s) f (fun t b k => k.trans (h t b)) l s (.refl s)

theorem LineKept.own {s t : State} (k : LineKept s t) : t.line.own = s.line.own := by rw [k.rest]

/-- The consumer records change, and none comes to hold an address. -/
theorem OwnersKept.of_consumers {s t : State} (hl : t.line.own = s.line.own)
    (h : ∀ i : ConsumerIx, ∀ a, consumerHolds a t.budget.consumers[i] = true →
      consumerHolds a s.budget.consumers[i] = true)
    (hz : t.zones.zones = s.zones.zones) (hg : t.scene.groups = s.scene.groups) : OwnersKept s t := by
  refine ⟨hl, fun a o => ?_⟩
  cases o with
  | consumer i => exact h i a
  | zoneValve i => exact (congrArg (fun z : Vector Zone 24 => valveHolds a z[i] = true) hz).mp
  | zoneBoost i => exact (congrArg (fun z : Vector Zone 24 => boostHolds a z[i] = true) hz).mp
  | group i => exact (congrArg (fun g : Vector Group 32 => groupHolds a g[i] = true) hg).mp

/-- A zone record keeps its state of load and its addresses, or gives them up. -/
def ZoneHeld (z z' : Zone) : Prop :=
  ∀ a, (valveHolds a z' = true → valveHolds a z = true) ∧ (boostHolds a z' = true → boostHolds a z = true)

theorem ZoneHeld.of_eq {z z' : Zone} (hs : z'.state = z.state) (hd : z'.defn = z.defn) : ZoneHeld z z' := by
  intro a
  unfold valveHolds boostHolds
  rw [hs, hd]
  exact ⟨id, id⟩

/-- The zone records change, and none comes to hold an address. -/
theorem OwnersKept.of_zones {s t : State} (hl : t.line.own = s.line.own)
    (h : ∀ i : ZoneIx, ZoneHeld s.zones.zones[i] t.zones.zones[i])
    (hc : t.budget.consumers = s.budget.consumers) (hg : t.scene.groups = s.scene.groups) : OwnersKept s t := by
  refine ⟨hl, fun a o => ?_⟩
  cases o with
  | consumer i => exact (congrArg (fun cs : Vector Consumer 8 => consumerHolds a cs[i] = true) hc).mp
  | zoneValve i => exact (h i a).1
  | zoneBoost i => exact (h i a).2
  | group i => exact (congrArg (fun g : Vector Group 32 => groupHolds a g[i] = true) hg).mp

/-- The group records change, and none comes to hold an address. -/
theorem OwnersKept.of_groups {s t : State} (hl : t.line.own = s.line.own)
    (h : ∀ i : GroupIx, ∀ a, groupHolds a t.scene.groups[i] = true → groupHolds a s.scene.groups[i] = true)
    (hc : t.budget.consumers = s.budget.consumers) (hz : t.zones.zones = s.zones.zones) : OwnersKept s t := by
  refine ⟨hl, fun a o => ?_⟩
  cases o with
  | consumer i => exact (congrArg (fun cs : Vector Consumer 8 => consumerHolds a cs[i] = true) hc).mp
  | zoneValve i => exact (congrArg (fun z : Vector Zone 24 => valveHolds a z[i] = true) hz).mp
  | zoneBoost i => exact (congrArg (fun z : Vector Zone 24 => boostHolds a z[i] = true) hz).mp
  | group i => exact h i a

theorem consumerHolds_of_eq {c c' : Consumer} (hs : c'.state = c.state) (hd : c'.defn = c.defn) {a : ActAddr}
    (h : consumerHolds a c' = true) : consumerHolds a c = true := by
  unfold consumerHolds at h ⊢
  rwa [hs, hd] at h

theorem groupHolds_of_eq {g g' : Group} (hs : g'.state = g.state) (hd : g'.defn = g.defn) {a : ActAddr}
    (h : groupHolds a g' = true) : groupHolds a g = true := by
  unfold groupHolds at h ⊢
  rwa [hs, hd] at h

section
variable (s : State)

theorem setConsumer_ownersKept (i : ConsumerIx) {c : Consumer}
    (h : ∀ a, consumerHolds a c = true → consumerHolds a s.budget.consumers[i] = true) :
    OwnersKept s (setConsumer i c s) :=
  .of_consumers rfl (forall_set (P := fun j c => ∀ a, consumerHolds a c = true →
    consumerHolds a s.budget.consumers[j] = true) h fun _ _ => id) rfl rfl

theorem setZone_ownersKept (i : ZoneIx) {z : Zone} (h : ZoneHeld s.zones.zones[i] z) : OwnersKept s (setZone i z s) :=
  .of_zones rfl (forall_set (P := fun j z => ZoneHeld s.zones.zones[j] z) h fun _ => .of_eq rfl rfl) rfl rfl

theorem setGroup_ownersKept (i : GroupIx) {g : Group}
    (h : ∀ a, groupHolds a g = true → groupHolds a s.scene.groups[i] = true) : OwnersKept s (setGroup i g s) :=
  .of_groups rfl (forall_set (P := fun j g => ∀ a, groupHolds a g = true →
    groupHolds a s.scene.groups[j] = true) h fun _ _ => id) rfl rfl

theorem queueCommand_ownersKept (a : ActAddr) (v : Nat) : OwnersKept s (queueCommand a v s) := .of_eq rfl rfl rfl rfl

/-- Every zone record is rewritten, each keeping its state and definition. -/
theorem mapZones_ownersKept {u : ZoneController} {f : Nat → Zone → Zone}
    (hu : u.zones = mapTable f s.zones.zones) (hf : ∀ k z, (f k z).state = z.state ∧ (f k z).defn = z.defn) :
    OwnersKept s { s with zones := u } := by
  refine .of_zones rfl (fun i => ?_) rfl rfl
  show ZoneHeld _ u.zones[i]
  rw [hu, get_mapTable]
  exact .of_eq (hf _ _).1 (hf _ _).2

/-! ### The Zone Controller -/

theorem shedValve_ownersKept (i : ZoneIx) : OwnersKept s (shedValve s i) := by
  unfold shedValve
  dsimp only
  split
  · exact (queueCommand_ownersKept s _ _).trans (setZone_ownersKept _ i (.of_eq rfl rfl))
  · exact .refl s

theorem shedBoost_ownersKept (i : ZoneIx) : OwnersKept s (shedBoost s i) := by
  unfold shedBoost
  dsimp only
  split
  · split
    · exact (queueCommand_ownersKept s _ _).trans (setZone_ownersKept _ i (.of_eq rfl rfl))
    · exact .refl s
  · exact .refl s

theorem shedBoth_ownersKept (i : ZoneIx) : OwnersKept s (shedBoth s i) :=
  (shedValve_ownersKept s i).trans (shedBoost_ownersKept _ i)

theorem capHandedZone_held (sh : Sheet) (c : Caps) (z : Zone) :
    (capHandedZone sh c z).state = z.state ∧ (capHandedZone sh c z).defn = z.defn := by
  unfold capHandedZone
  dsimp only
  split
  · split <;> exact ⟨rfl, rfl⟩
  · exact ⟨rfl, rfl⟩

theorem setCapSet_zones (sh : Sheet) (c : Caps) (u : ZoneController) : (setCapSet sh c u).zones = u.zones := by
  cases sh <;> rfl

theorem applyCaps_ownersKept (sh : Sheet) (c : Caps) : OwnersKept s (applyCaps sh c s) := by
  unfold applyCaps
  split
  · exact .refl s
  · refine .trans (mapZones_ownersKept s ?_ fun _ z => capHandedZone_held sh c z) (.foldl shedBoth_ownersKept _ _)
    exact congrArg (mapTable fun _ z => capHandedZone sh c z) (setCapSet_zones sh c s.zones)

theorem splitGrant_ownersKept (g : Option Nat) : OwnersKept s (splitGrant g s) := by
  have split (share : Nat) (z : Zone) : (splitZone share z).state = z.state ∧ (splitZone share z).defn = z.defn := by
    unfold splitZone
    split <;> exact ⟨rfl, rfl⟩
  have ungranted (z : Zone) : (ungrantedZone z).state = z.state ∧ (ungrantedZone z).defn = z.defn := by
    unfold ungrantedZone
    split <;> exact ⟨rfl, rfl⟩
  unfold splitGrant
  refine .trans ?_ (.foldl shedValve_ownersKept _ _)
  cases g with
  | some g => exact mapZones_ownersKept s rfl fun _ z => split _ z
  | none => exact mapZones_ownersKept s rfl fun _ z => ungranted z

theorem distributeBoost_ownersKept (a : Nat) : OwnersKept s (distributeBoost a s) := by
  unfold distributeBoost
  exact (mapZones_ownersKept s (u := boostZones a s.zones) rfl fun _ _ => ⟨rfl, rfl⟩).trans
    (.foldl shedBoost_ownersKept _ _)

/-! ### The Budget Unit -/

theorem recomputeElectric_ownersKept : OwnersKept s (recomputeElectric s) := by
  unfold recomputeElectric
  exact (distributeBoost_ownersKept _ _).from_eq (by simp) (by simp [electricFigures]) (by simp) (by simp)

theorem recomputeElectricSilently_ownersKept : OwnersKept s (recomputeElectricSilently s) := by
  unfold recomputeElectricSilently
  exact (distributeBoost_ownersKept _ _).from_eq rfl rfl rfl rfl

theorem startAllocation_ownersKept : OwnersKept s (startAllocation s) := by
  refine .of_consumers rfl (fun i a h => ?_) rfl rfl
  simp only [startAllocation, Fin.getElem_fin, Vector.getElem_map] at h
  exact consumerHolds_of_eq rfl rfl h

theorem requestAllocation_ownersKept : OwnersKept s (requestAllocation s) := by
  unfold requestAllocation
  split
  · exact startAllocation_ownersKept s
  · exact .of_eq rfl rfl rfl rfl

theorem allocationPeriod_ownersKept : OwnersKept s (allocationPeriod s) := by
  unfold allocationPeriod
  split
  · exact .refl s
  · exact (requestAllocation_ownersKept _).from_eq rfl rfl rfl rfl

theorem driveValve_ownersKept (i : ConsumerIx) (a : ActAddr) :
    OwnersKept s (driveValve i s.budget.consumers[i] a s) := by
  unfold driveValve
  split
  · exact .refl s
  · have sent := (queueCommand_ownersKept s a s.budget.consumers[i].allowed).trans
      (setConsumer_ownersKept _ i (c := { s.budget.consumers[i] with lastSent := some s.budget.consumers[i].allowed })
        fun _ => consumerHolds_of_eq rfl rfl)
    dsimp only
    split
    · exact sent.trans (.of_eq (by simp) (by simp) (by simp) (by simp))
    · exact sent

theorem governValve_ownersKept (i : ConsumerIx) (a : ActAddr) :
    OwnersKept s (governValve i s.budget.consumers[i] a s) := by
  unfold governValve
  split
  · exact (queueCommand_ownersKept s _ _).trans (setConsumer_ownersKept _ i fun _ => consumerHolds_of_eq rfl rfl)
  · exact .refl s

theorem commandConsumer_ownersKept (i : ConsumerIx) : OwnersKept s (commandConsumer s i) := by
  unfold commandConsumer
  dsimp only
  split
  · split
    · exact driveValve_ownersKept s i _
    · exact governValve_ownersKept s i _
    all_goals exact .refl s
  · exact .refl s

theorem completedConsumer_held (c : Capture) (grants : List Nat) (i : Nat) (r : Consumer) :
    (completedConsumer c grants i r).state = r.state ∧ (completedConsumer c grants i r).defn = r.defn := by
  unfold completedConsumer
  split
  · split <;> exact ⟨rfl, rfl⟩
  · exact ⟨rfl, rfl⟩

theorem publishedBudget_ownersKept (c : Capture) : OwnersKept s { s with budget := publishedBudget c s.budget } := by
  refine .of_consumers rfl (fun i a h => ?_) rfl rfl
  simp only [publishedBudget, get_mapTable] at h
  exact consumerHolds_of_eq (completedConsumer_held ..).1 (completedConsumer_held ..).2 h

theorem nextAllocation_ownersKept : OwnersKept s (nextAllocation s) := by
  have idle : OwnersKept s { s with
      budget.allocation := none, budget.consumers := s.budget.consumers.map unmarked } := by
    refine .of_consumers rfl (fun i a h => ?_) rfl rfl
    simp only [Fin.getElem_fin, Vector.getElem_map] at h
    exact consumerHolds_of_eq rfl rfl h
  unfold nextAllocation
  dsimp only
  split
  · exact idle.trans ((startAllocation_ownersKept _).from_eq rfl rfl rfl rfl)
  · exact idle

theorem completeAllocation_ownersKept : OwnersKept s (completeAllocation s) := by
  unfold completeAllocation
  split
  · exact .refl s
  · next c _ =>
    have published : OwnersKept s (heatLostNotice c s.budget { s with budget := publishedBudget c s.budget }) :=
      (publishedBudget_ownersKept s c).then_eq (by simp) (by simp) (by simp) (by simp)
    have commands := OwnersKept.foldl commandConsumer_ownersKept consumerOrder
    unfold completeWith
    exact (published.trans (commands _)).trans ((splitGrant_ownersKept _ _).trans
      ((recomputeElectric_ownersKept _).trans (nextAllocation_ownersKept _)))

/-! ### The Scene Unit -/

theorem sendLevel_ownersKept (i : GroupIx) {g : Group}
    (h : ∀ a, groupHolds a g = true → groupHolds a s.scene.groups[i] = true) : OwnersKept s (sendLevel i g s) := by
  unfold sendLevel
  split
  · exact setGroup_ownersKept s i h
  · exact (queueCommand_ownersKept s _ _).trans (setGroup_ownersKept _ i fun a ha => h a (groupHolds_of_eq rfl rfl ha))

theorem wonGroup_held (w : Winner) (g : Group) : (wonGroup w g).state = g.state ∧ (wonGroup w g).defn = g.defn := by
  unfold wonGroup
  extract_lets drives
  cases drives
  · exact ⟨rfl, rfl⟩
  · dsimp only
    rw [if_pos rfl]
    split <;> exact ⟨rfl, rfl⟩

theorem beforeCeiling_held (r : SearchResult) (g : Group) :
    (beforeCeiling r g).state = g.state ∧ (beforeCeiling r g).defn = g.defn := by
  cases r with
  | winner w => exact wonGroup_held w g
  | hold => exact ⟨rfl, rfl⟩
  | none => exact ⟨rfl, rfl⟩

theorem underCeiling_held (ceiling : Nat) (g : Group) :
    (underCeiling ceiling g).state = g.state ∧ (underCeiling ceiling g).defn = g.defn := by
  unfold underCeiling
  split <;> exact ⟨rfl, rfl⟩

theorem levelledGroup_held (r : SearchResult) (g : Group) :
    (levelledGroup s r g).state = g.state ∧ (levelledGroup s r g).defn = g.defn := by
  unfold levelledGroup
  split
  · exact ⟨rfl, rfl⟩
  · exact ⟨(underCeiling_held _ _).1.trans (beforeCeiling_held r { g with hazeBlocked := false }).1,
      (underCeiling_held _ _).2.trans (beforeCeiling_held r { g with hazeBlocked := false }).2⟩

theorem levelGroup_ownersKept (rs : Vector SearchResult 32) (i : GroupIx) : OwnersKept s (levelGroup rs s i) := by
  unfold levelGroup
  dsimp only
  split
  · exact sendLevel_ownersKept s i fun _ =>
      groupHolds_of_eq (levelledGroup_held s _ _).1 (levelledGroup_held s _ _).2
  · exact .refl s

theorem finishSearch_ownersKept (step : Nat) : OwnersKept s (finishSearch step s) := by
  let results := searchResults s.scene.view step
  have levels := OwnersKept.foldl (fun s i => levelGroup_ownersKept s results i) groupOrder
    { s with scene.search := none, scene.results := results }
  refine (OwnersKept.from_eq (s := s) levels rfl rfl rfl rfl).then_eq ?_ ?_ ?_ ?_
  all_goals unfold finishSearch
  all_goals simp [results, (markCandidates_buffersKept _ step _).groups]

theorem completeSearch_ownersKept : OwnersKept s (completeSearch s) := by
  unfold completeSearch
  split
  · exact .refl s
  · exact finishSearch_ownersKept s _

theorem startStep_ownersKept : OwnersKept s (startStep s) := by
  have checked (s : State) : (checkTransfers (captureStep (abandonSearch s))).scene.groups = s.scene.groups :=
    (checkTransfers_buffersKept _).groups.trans (abandonSearch_scene s).2.1
  unfold startStep
  dsimp only
  split
  · exact (finishSearch_ownersKept _ _).from_eq (by simp) (by simp) (by simp) (checked _)
  · exact .of_eq (by simp) (by simp) (by simp) (checked _)

theorem cutGroup_ownersKept (sh : Sheet) (i : GroupIx) : OwnersKept s (cutGroup sh s i) := by
  unfold cutGroup
  dsimp only
  split
  · exact (queueCommand_ownersKept s _ _).trans (setGroup_ownersKept _ i fun _ => groupHolds_of_eq rfl rfl)
  · exact .refl s

theorem cutHaze_ownersKept (sh : Sheet) : OwnersKept s (cutHaze sh s) := by
  unfold cutHaze
  exact (OwnersKept.foldl (fun s i => cutGroup_ownersKept s sh i) groupOrder s).then_eq (by simp) (by simp) (by simp)
    (by simp)

/-! ### RESTART (R77, R117, R159) -/

theorem restartedBlocks_ownersKept : OwnersKept s (restartedBlocks s) := by
  refine ⟨rfl, fun a o => ?_⟩
  cases o with
  | consumer i =>
    intro h
    simp only [Owns, restartedBlocks, restartedBudget, Fin.getElem_fin, Vector.getElem_map] at h
    exact consumerHolds_of_eq rfl rfl h
  | zoneValve i =>
    intro h
    simp only [Owns, restartedBlocks, restartedZones, get_mapTable] at h
    exact ((ZoneHeld.of_eq rfl rfl) a).1 h
  | zoneBoost i =>
    intro h
    simp only [Owns, restartedBlocks, restartedZones, get_mapTable] at h
    exact ((ZoneHeld.of_eq rfl rfl) a).2 h
  | group i =>
    intro h
    simp only [Owns, restartedBlocks, restartedScene, Fin.getElem_fin, Vector.getElem_map] at h
    exact groupHolds_of_eq rfl rfl h

theorem restartEffect_ownersKept : OwnersKept s (restartEffect s) := by
  have cut (sh : Sheet) (s : State) : OwnersKept s (restartCut sh s) := by
    unfold restartCut
    split
    · exact cutHaze_ownersKept s sh
    · exact .refl s
  have caps (sh : Sheet) (s : State) : OwnersKept s (restartCaps sh s) := applyCaps_ownersKept s sh _
  have checked (s : State) : OwnersKept s (checkTransfers s) :=
    .of_eq (by simp) (by simp) (by simp) (checkTransfers_buffersKept s).groups
  exact (restartedBlocks_ownersKept s).trans ((checked _).trans ((caps .one _).trans ((caps .two _).trans
    ((cut .one _).trans ((cut .two _).trans (recomputeElectricSilently_ownersKept _))))))

/-! ### A COMMAND frame -/

theorem passEntry_ownersKept (dest channel : Nat) (dup : Bool) (v : Nat) (flag : Bool) :
    OwnersKept s (passEntry dest channel dup v flag s).state := by
  unfold passEntry
  split
  · exact .refl s
  · next i _ =>
    unfold passConsumer
    dsimp only
    split
    · exact setConsumer_ownersKept s i fun _ => consumerHolds_of_eq rfl rfl
    all_goals exact .refl s
  · next i _ =>
    unfold passValve
    dsimp only
    split
    · refine setZone_ownersKept s i ?_
      unfold passedValve
      dsimp only
      split <;> exact .of_eq rfl rfl
    · exact .refl s
  · next i _ =>
    unfold passBoost
    dsimp only
    split
    · exact setZone_ownersKept s i (.of_eq rfl rfl)
    · exact .refl s
  · unfold passDimmer
    dsimp only
    split <;> exact .refl s

theorem rewriteEntries_ownersKept (dest : Nat) (dup : Bool) (bs : List Byte) :
    OwnersKept s (rewriteEntries dest dup bs s).2 := by
  fun_induction rewriteEntries dest dup bs s with
  | case1 b hi lo rest s p r ih => exact (passEntry_ownersKept s _ _ _ _ _).trans ih
  | case2 => exact .refl _

end

end Sys2Proof.Machine
end

section
/-! SUPPORT. The Actuator Index under every shape of command (R17). -/

namespace Sys2Proof.Machine

/-! ### Records loaded, enabled and disabled -/

/-- A loaded record in another loaded state holds the addresses it held. -/
theorem consumerHolds_of_loaded {c c' : Consumer} (hs : c.state ≠ .unused) (hd : c'.defn = c.defn) {a : ActAddr}
    (h : consumerHolds a c' = true) : consumerHolds a c = true := by
  rw [consumerHolds_iff] at h ⊢
  exact ⟨hs, hd ▸ h.2⟩

theorem ZoneHeld.of_loaded {z z' : Zone} (hs : z.state ≠ .unused) (hd : z'.defn = z.defn) : ZoneHeld z z' := by
  intro a
  rw [valveHolds_iff, valveHolds_iff, boostHolds_iff, boostHolds_iff]
  exact ⟨fun h => ⟨hs, hd ▸ h.2⟩, fun h => ⟨hs, hd ▸ h.2⟩⟩

theorem groupHolds_of_loaded {g g' : Group} (hs : g.state ≠ .unused) (hd : g'.defn = g.defn) {a : ActAddr}
    (h : groupHolds a g' = true) : groupHolds a g = true := by
  rw [groupHolds_iff] at h ⊢
  exact ⟨hs, hd ▸ h.2⟩

section
variable (s : State) (args : List Byte)

theorem OwnersKept.hand {t : State} (h : OwnersKept s t) (e : Instr) : OwnersKept s (hand e t) :=
  h.then_eq rfl rfl rfl rfl

/-- A loaded record replaced by one of the same definition. -/
theorem setConsumer_loaded {i : ConsumerIx} {c : Consumer} (hs : s.budget.consumers[i].state ≠ .unused)
    (hd : c.defn = s.budget.consumers[i].defn) : OwnersKept s (setConsumer i c s) :=
  setConsumer_ownersKept s i fun _ => consumerHolds_of_loaded hs hd

theorem setZone_loaded {i : ZoneIx} {z : Zone} (hs : s.zones.zones[i].state ≠ .unused)
    (hd : z.defn = s.zones.zones[i].defn) : OwnersKept s (setZone i z s) :=
  setZone_ownersKept s i (.of_loaded hs hd)

theorem setGroup_loaded {i : GroupIx} {g : Group} (hs : s.scene.groups[i].state ≠ .unused)
    (hd : g.defn = s.scene.groups[i].defn) : OwnersKept s (setGroup i g s) :=
  setGroup_ownersKept s i fun _ => groupHolds_of_loaded hs hd

theorem writeRecovery_ownersKept : OwnersKept s (writeRecovery args s).state := by
  fun_cases writeRecovery args s
  case case2 => exact .of_eq rfl rfl rfl rfl
  all_goals exact .refl s

theorem enableConsumer_ownersKept : OwnersKept s (enableConsumer args s).state := by
  fun_cases enableConsumer args s
  case case4 i _ hs =>
    refine OwnersKept.hand s ?_ _
    exact setConsumer_loaded s (by rw [hs]; nofun) rfl
  all_goals exact .refl s

theorem disableConsumer_ownersKept : OwnersKept s (disableConsumer args s).state := by
  fun_cases disableConsumer args s
  case case4 i _ hs =>
    refine OwnersKept.hand s ?_ _
    exact setConsumer_loaded s (by rw [hs]; nofun) rfl
  all_goals exact .refl s

theorem enableZone_ownersKept : OwnersKept s (enableZone args s).state := by
  fun_cases enableZone args s
  case case4 i _ hs =>
    refine OwnersKept.hand s ?_ _
    exact setZone_loaded s (by rw [hs]; nofun) rfl
  all_goals exact .refl s

theorem disableZone_ownersKept : OwnersKept s (disableZone args s).state := by
  fun_cases disableZone args s
  case case4 i _ hs =>
    refine OwnersKept.hand s ?_ _
    exact setZone_loaded s (by rw [hs]; nofun) rfl
  all_goals exact .refl s

theorem admitGroup_ownersKept (i : GroupIx) (hs : s.scene.groups[i].state ≠ .unused) :
    OwnersKept s (admitGroup i s.scene.groups[i] s) := by
  unfold admitGroup
  dsimp only
  split
  · refine (queueCommand_ownersKept s s.scene.groups[i].defn.dimmer 0).trans ?_
    exact setGroup_loaded _ hs rfl
  · exact setGroup_loaded s hs rfl

theorem enableGroup_ownersKept : OwnersKept s (enableGroup args s).state := by
  fun_cases enableGroup args s
  case case4 i _ hs => exact admitGroup_ownersKept s i (by rw [hs]; nofun)
  all_goals exact .refl s

theorem disableGroup_ownersKept : OwnersKept s (disableGroup args s).state := by
  fun_cases disableGroup args s
  case case4 i _ hs => exact setGroup_loaded s (by rw [hs]; nofun) rfl
  all_goals exact .refl s

end

/-! ### Records written (R17) -/

section
variable {s : State}

/-- A record comes to hold addresses that are free for it, each once: the index stays sound. -/
theorem indexSound_of_written {t : State} {mine : ActOwner → Prop} (hs : IndexSound s) (hl : t.line.own = s.line.own)
    (others : ∀ a o, Owns t a o → ¬mine o → Owns s a o) (free : ∀ a o, Owns t a o → mine o → AddrFree s mine a)
    (once : ∀ a o p, Owns t a o → Owns t a p → mine o → mine p → p = o) : IndexSound t := by
  intro a o ho
  rcases Classical.em (mine o) with hm | hm
  · obtain ⟨foreign, only⟩ := free a o ho hm
    refine ⟨fun p hp => ?_, fun e => foreign (.inl (hl ▸ e)), fun e => foreign (.inr e)⟩
    rcases Classical.em (mine p) with hm' | hm'
    · exact once a o p ho hp hm hm'
    · exact absurd (only p (others a p hp hm')) hm'
  · obtain ⟨only, hn, h63⟩ := hs a o (others a o ho hm)
    refine ⟨fun p hp => ?_, hl ▸ hn, h63⟩
    rcases Classical.em (mine p) with hm' | hm'
    · exact absurd ((free a p hp hm').2 o (others a o ho hm)) hm
    · exact only p (others a p hp hm')

theorem getElem_set_other {α : Type} {n : Nat} {v : Vector α n} {i j : Fin n} {x : α} (h : j ≠ i) :
    (v.set i x)[j] = v[j] := by
  rw [Fin.getElem_fin, Vector.getElem_set_ne i.isLt j.isLt fun e => h (Fin.ext e).symm]
  rfl

theorem getElem_set_same {α : Type} {n : Nat} {v : Vector α n} {i : Fin n} {x : α} : (v.set i x)[i] = x :=
  Vector.getElem_set_self i.isLt

theorem loadConsumer_indexSound {i : ConsumerIx} {d : ConsumerDef} (hc : checkConsumerAddr i d s = none)
    (hs : IndexSound s) : IndexSound (loadConsumer i d s) := by
  refine indexSound_of_written (mine := fun o => mineConsumer i o = true) hs rfl (fun a o ho hm => ?_)
    (fun a o ho hm => ?_) (fun a o p ho hp hm hm' => ?_)
  · cases o with
    | consumer k =>
      have hk : k ≠ i := by simpa [mineConsumer] using hm
      exact (congrArg (consumerHolds a) (getElem_set_other hk)).symm.trans ho
    | _ => exact ho
  · cases o with
    | consumer k =>
      obtain rfl : k = i := by simpa [mineConsumer] using hm
      have held : consumerHolds a (clearedConsumer d .disabled) = true :=
        (congrArg (consumerHolds a) getElem_set_same).symm.trans ho
      have hd : d.addr = some a := (consumerHolds_iff.1 held).2
      simp only [checkConsumerAddr, hd] at hc
      exact hs.free_of_checkAddr hc
    | _ => cases hm
  · cases o with
    | consumer k =>
      cases p with
      | consumer l => simp_all [mineConsumer]
      | _ => cases hm'
    | _ => cases hm

/-- The check of a zone's addresses passes where each passes its own and they differ (R17). -/
theorem checkZoneAddrs_eq_none {i : ZoneIx} {d : ZoneDef} : checkZoneAddrs i d s = none ↔
    checkAddr s (mineZone i) d.valve = none ∧
      ∀ b, d.boost = some b → checkAddr s (mineZone i) b = none ∧ b ≠ d.valve := by
  unfold checkZoneAddrs
  split
  · next hv => simp [hv]
  · next hv =>
    split
    · next hb => simp [hv, hb]
    · next b hb =>
      split
      · next hc => simp [hv, hb, hc]
      · next hc => simp [hv, hb, hc]

/-- The addresses a zone record just loaded holds are those of its definition. -/
theorem owns_loadZone {i : ZoneIx} {d : ZoneDef} {a : ActAddr} {o : ActOwner} (ho : Owns (loadZone i d s) a o)
    (hm : mineZone i o = true) : (o = .zoneValve i ∧ d.valve = a) ∨ (o = .zoneBoost i ∧ d.boost = some a) := by
  cases o with
  | zoneValve k =>
    obtain rfl : k = i := by simpa [mineZone] using hm
    have held : valveHolds a (clearedZone d .disabled (fogCapOf s.zones d)) = true :=
      (congrArg (valveHolds a) getElem_set_same).symm.trans ho
    exact .inl ⟨rfl, (valveHolds_iff.1 held).2⟩
  | zoneBoost k =>
    obtain rfl : k = i := by simpa [mineZone] using hm
    have held : boostHolds a (clearedZone d .disabled (fogCapOf s.zones d)) = true :=
      (congrArg (boostHolds a) getElem_set_same).symm.trans ho
    exact .inr ⟨rfl, (boostHolds_iff.1 held).2⟩
  | _ => cases hm

theorem loadZone_indexSound {i : ZoneIx} {d : ZoneDef} (hc : checkZoneAddrs i d s = none) (hs : IndexSound s) :
    IndexSound (loadZone i d s) := by
  obtain ⟨valve, boost⟩ := checkZoneAddrs_eq_none.1 hc
  refine indexSound_of_written (mine := fun o => mineZone i o = true) hs rfl (fun a o ho hm => ?_)
    (fun a o ho hm => ?_) (fun a o p ho hp hm hm' => ?_)
  · cases o with
    | zoneValve k =>
      have hk : k ≠ i := by simpa [mineZone] using hm
      exact (congrArg (valveHolds a) (getElem_set_other hk)).symm.trans ho
    | zoneBoost k =>
      have hk : k ≠ i := by simpa [mineZone] using hm
      exact (congrArg (boostHolds a) (getElem_set_other hk)).symm.trans ho
    | _ => exact ho
  · obtain ⟨-, rfl⟩ | ⟨-, hb⟩ := owns_loadZone ho hm
    · exact hs.free_of_checkAddr valve
    · exact hs.free_of_checkAddr (boost a hb).1
  · obtain ⟨rfl, hv⟩ | ⟨rfl, hb⟩ := owns_loadZone ho hm <;>
      obtain ⟨rfl, hv'⟩ | ⟨rfl, hb'⟩ := owns_loadZone hp hm'
    · rfl
    · exact absurd hv.symm (boost a hb').2
    · exact absurd hv'.symm (boost a hb).2
    · rfl

theorem loadGroup_indexSound {i : GroupIx} {d : GroupDef} (hc : checkAddr s (mineGroup i) d.dimmer = none)
    (hs : IndexSound s) : IndexSound (loadGroup i d s) := by
  refine indexSound_of_written (mine := fun o => mineGroup i o = true) hs rfl (fun a o ho hm => ?_)
    (fun a o ho hm => ?_) (fun a o p ho hp hm hm' => ?_)
  · cases o with
    | group k =>
      have hk : k ≠ i := by simpa [mineGroup] using hm
      exact (congrArg (groupHolds a) (getElem_set_other hk)).symm.trans ho
    | _ => exact ho
  · cases o with
    | group k =>
      obtain rfl : k = i := by simpa [mineGroup] using hm
      have held : groupHolds a (clearedGroup d .disabled) = true :=
        (congrArg (groupHolds a) getElem_set_same).symm.trans ho
      obtain rfl : d.dimmer = a := (groupHolds_iff.1 held).2
      exact hs.free_of_checkAddr hc
    | _ => cases hm
  · cases o with
    | group k =>
      cases p with
      | group l => simp_all [mineGroup]
      | _ => cases hm'
    | _ => cases hm

end

/-! ### The shapes -/

/-- Every request but the three that load a record with an address keeps the owners. -/
theorem answerOf_ownersKept (r : Req) (args : List Byte) (s : State) (hc : r ≠ .writeConsumer) (hz : r ≠ .writeZone)
    (hg : r ≠ .writeGroup) : OwnersKept s (answerOf r args s).state := by
  have own := (answerOf_outKept r args s).own
  cases hb : isBufferRequest r with
  | true =>
    have groups := (answerOf_buffersKept s args hb).groups
    cases r with
    | configureBuffer | lockBuffer | unlockBuffer | writeScene | commit | enableBuffer | disableBuffer
    | setStepPeriod => exact .of_eq own (by simp [answerOf]) (by simp [answerOf]) groups
    | _ => cases hb
  | false =>
    cases r with
    | writeConsumer => exact absurd rfl hc
    | writeZone => exact absurd rfl hz
    | writeGroup => exact absurd rfl hg
    | enableConsumer => exact enableConsumer_ownersKept s args
    | disableConsumer => exact disableConsumer_ownersKept s args
    | enableZone => exact enableZone_ownersKept s args
    | disableZone => exact disableZone_ownersKept s args
    | enableGroup => exact enableGroup_ownersKept s args
    | disableGroup => exact disableGroup_ownersKept s args
    | configureBuffer | lockBuffer | unlockBuffer | writeScene | commit | enableBuffer | disableBuffer
    | setStepPeriod => cases hb
    | writeRecovery => exact writeRecovery_ownersKept s args
    | _ => exact .of_eq own (by simp [answerOf]) (by simp [answerOf]) (by simp [answerOf])

theorem writeConsumer_indexSound (args : List Byte) (s : State) (h : IndexSound s) :
    IndexSound (writeConsumer args s).state := by
  obtain e | ⟨i, d, -, hc, e⟩ := writeConsumer_cases s args <;> rw [e]
  · exact h
  · exact loadConsumer_indexSound hc h

theorem writeZone_indexSound (args : List Byte) (s : State) (h : IndexSound s) :
    IndexSound (writeZone args s).state := by
  obtain e | ⟨i, d, -, hc, e⟩ := writeZone_cases s args <;> rw [e]
  · exact h
  · exact loadZone_indexSound hc h

theorem writeGroup_indexSound (args : List Byte) (s : State) (h : IndexSound s) :
    IndexSound (writeGroup args s).state := by
  obtain e | ⟨i, d, -, hc, e⟩ := writeGroup_cases s args <;> rw [e]
  · exact h
  · exact loadGroup_indexSound hc h

theorem answerOf_indexSound (r : Req) (args : List Byte) (s : State) (h : IndexSound s) :
    IndexSound (answerOf r args s).state := by
  rcases Classical.em (r = .writeConsumer) with rfl | hc
  · exact writeConsumer_indexSound args s h
  · rcases Classical.em (r = .writeZone) with rfl | hz
    · exact writeZone_indexSound args s h
    · rcases Classical.em (r = .writeGroup) with rfl | hg
      · exact writeGroup_indexSound args s h
      · exact (answerOf_ownersKept r args s hc hz hg).indexSound h

/-- Every event but the arrival of a frame and the completion of a sending keeps the owners. -/
theorem event_ownersKept {c : Instr} {f : State → State} (h : Event c f) (ha : ∀ bytes, c ≠ .frameArrival bytes)
    (hl : c ≠ .lineOutSendComplete) (s : State) : OwnersKept s (f s) := by
  have own := (event_outKept h ha hl s).own
  cases h with
  | frameArrival bytes => exact absurd rfl (ha bytes)
  | lineOutSendComplete => exact absurd rfl hl
  | allocationPeriodExpiry => exact allocationPeriod_ownersKept s
  | reallocationRequest => exact (requestAllocation_ownersKept _).from_eq rfl rfl rfl rfl
  | allocationCompletion => exact completeAllocation_ownersKept s
  | electricRecompute => exact (recomputeElectric_ownersKept _).from_eq rfl rfl rfl rfl
  | lightingLoadUpdate load => exact (recomputeElectric_ownersKept _).from_eq rfl rfl rfl rfl
  | capHanding sheet caps => exact (applyCaps_ownersKept _ sheet caps).from_eq rfl rfl rfl rfl
  | hazeCut sheet => exact (cutHaze_ownersKept _ sheet).from_eq rfl rfl rfl rfl
  | stepStart => exact startStep_ownersKept s
  | searchCompletion => exact completeSearch_ownersKept s
  | transferCompletion => exact .of_eq own (by simp) (by simp) (completeTransfer_buffersKept s).groups
  | _ => exact .of_eq own (by simp) (by simp) (by simp)

theorem completeSending_ownersKept (s : State) : OwnersKept s (completeSending s) :=
  completeSending_keeps (.refl s) (fun _ => .of_eq rfl rfl rfl rfl)
    (fun _ slot _ _ => .of_eq (by simp) (by simp) (by simp) (by simp))
    (fun slot => (restartEffect_ownersKept _).from_eq (by simp) (by simp) (by simp) (by simp))

theorem arbitrate_ownersKept (s : State) : OwnersKept s (arbitrate s) :=
  .of_eq (arbitrate_line s).2.2.1 (by simp) (by simp) (by simp)

theorem placeReply_ownersKept (slot : SlotIx) (dest : Nat) (p : List Byte) (restart : Bool) (s : State) :
    OwnersKept s (placeReply slot dest p restart s) :=
  .of_eq (by rw [placeReply_line]) (by simp [placeReply]) (by simp [placeReply]) (by simp [placeReply])

theorem powerOn_indexSound (own controller : Strap) (l : List Instr) :
    IndexSound (powerOnState own controller l) := by
  intro a o ho
  cases o <;> simp [Owns, powerOnState, powerOnBudget, powerOnZones, powerOnScene, consumerHolds, valveHolds,
    boostHolds, groupHolds, clearedConsumer, clearedZone, clearedGroup] at ho

theorem indexSound_kept : KeptByParts IndexSound where
  pending _ _ h := h
  powerOn := powerOn_indexSound
  reset _ h := h
  tick _ h := (OwnersKept.of_eq rfl rfl rfl rfl).indexSound h
  choice s h := (arbitrate_ownersKept s).indexSound h
  arrival := {
    error := fun _ h => h
    activity := fun s h =>
      (OwnersKept.of_eq (lineActivity_outKept s).own (by simp) (by simp) (by simp)).indexSound h
    node := fun _ _ _ _ h => h
    overrun := fun s h => (OwnersKept.of_eq (overrun_outKept s).own (by simp) (by simp) (by simp)).indexSound h
    forward := fun _ _ _ h => h
    samples := fun _ _ _ h => (OwnersKept.of_eq (by simp) (by simp) (by simp) (by simp)).indexSound h
    entries := fun dest dup payload s h => (rewriteEntries_ownersKept s dest dup payload).indexSound h
    offered := fun source payload s h => offerRequest_keeps (fun _ _ => h) h
      (fun slot p _ => (placeReply_ownersKept slot source p false s).indexSound h)
      (fun slot r _ => (OwnersKept.of_eq (by simp) (by simp) (by simp) (by simp)).indexSound h) }
  completed s h := (completeSending_ownersKept s).indexSound h
  event he ha hl s h := (event_ownersKept he ha hl s).indexSound h
  handed _ _ h := h
  answer := answerOf_indexSound
  reply slot dest p restart s h := (placeReply_ownersKept slot dest p restart s).indexSound h

end Sys2Proof.Machine
end

section
/-! THEOREMS. The Actuator Index under every step. -/

namespace Sys2Proof.Machine

/-- Settles O55: the index is sound in the state each shape of command leaves. -/
theorem stepKeepsTheActuatorIndexSound : Obligations.StepKeepsTheActuatorIndexSound := fun _ _ hs h =>
  indexSound_kept.keptByShape.of_step h hs

end Sys2Proof.Machine
end

section
/-! SUPPORT. The counts, each kept in the range its rule gives it by every part of a command (R1, R5, R9, R21, R31, R32,
R34, R35, R119, R141, R185, R188), and the memory of the previous mode (R164). -/

namespace Sys2Proof.Machine

theorem countUp_le (n c : Nat) : countUp n c ≤ 65535 := Nat.min_le_right _ _

/-! ### The Line Interface (R1, R5, R9, R21) -/

/-- The counts of the Line Interface in their ranges. -/
def LineCounts (u : LineInterface) : Prop :=
  u.lineErrors ≤ 65535 ∧ u.overruns ≤ 65535 ∧ u.drops ≤ 65535 ∧ ∀ i : Fin 64, nodeInRange u.nodes[i]

section
variable {s t : State}

theorem LineKept.lineCounts (k : LineKept s t) (h : LineCounts s.line) : LineCounts t.line := by
  rw [k.rest]
  exact h

theorem lineCounts_of_eq (e : t.line = s.line) (h : LineCounts s.line) : LineCounts t.line := e ▸ h

theorem nodeInRange_testedNode {r : NodeRec} {seq : Nat} (hs : seq < 16) (h : nodeInRange r) :
    nodeInRange (testedNode r seq) := by
  obtain ⟨hl, hm, hd⟩ := h
  unfold testedNode
  split
  · exact ⟨hs, hm, hd⟩
  · split
    · exact ⟨hl, hm, countUp_le _ _⟩
    · exact ⟨hs, countUp_le _ _, hd⟩

theorem setNode_lineCounts {node : Nat} {r : NodeRec} (hr : nodeInRange r) (h : LineCounts s.line) :
    LineCounts (setNode node r s).line := by
  obtain ⟨he, ho, hd, hn⟩ := h
  exact ⟨he, ho, hd, forall_set (P := fun _ r => nodeInRange r) hr hn⟩

theorem LineCounts.node (h : LineCounts s.line) (node : Nat) : nodeInRange (nodeRec s.line node) := by
  obtain ⟨-, -, -, hn⟩ := h
  exact hn (Fin.ofNat 64 node)

theorem lineActivity_lineCounts (h : LineCounts s.line) : LineCounts (lineActivity s).line := by
  unfold lineActivity
  split <;> exact h

theorem overrun_lineCounts (h : LineCounts s.line) : LineCounts (overrun s).line := by
  obtain ⟨he, -, hd, hn⟩ := h
  unfold overrun
  dsimp only
  split <;> exact ⟨he, countUp_le _ _, hd, hn⟩

theorem arbitrate_lineCounts (h : LineCounts s.line) : LineCounts (arbitrate s).line := by
  obtain ⟨-, -, -, -, -, hn, -, -, -, -, he, ho, hd, -⟩ := arbitrate_line s
  unfold LineCounts
  rwa [hn, he, ho, hd]

theorem restartedLine_lineCounts (u : LineInterface) : LineCounts (restartedLine u) := by
  refine ⟨Nat.zero_le _, Nat.zero_le _, Nat.zero_le _, fun i => ?_⟩
  simp [restartedLine, restartedNode, powerOnNode, nodeInRange]

theorem powerOnLine_lineCounts (own controller : Strap) : LineCounts (powerOnLine own controller) := by
  refine ⟨Nat.zero_le _, Nat.zero_le _, Nat.zero_le _, forall_set (P := fun _ r => nodeInRange r) ?_ fun j => ?_⟩
  · simp [nodeInRange, powerOnNode]
  · simp [nodeInRange, powerOnNode]

theorem placeReply_lineCounts (slot : SlotIx) (dest : Nat) (p : List Byte) (restart : Bool)
    (h : LineCounts s.line) : LineCounts (placeReply slot dest p restart s).line := by
  rw [placeReply_line]
  exact h

theorem offerRequest_lineCounts (source : Nat) (payload : List Byte) (h : LineCounts s.line) :
    LineCounts (offerRequest source payload s).line := by
  refine offerRequest_keeps (P := fun t => LineCounts t.line) (fun _ _ => h) ?_
    (fun slot p _ => placeReply_lineCounts slot source p false h) (fun slot r _ => lineCounts_of_eq (by simp) h)
  obtain ⟨he, ho, -, hn⟩ := h
  exact ⟨he, ho, countUp_le _ _, hn⟩

theorem completeSending_lineCounts (h : LineCounts s.line) : LineCounts (completeSending s).line :=
  completeSending_keeps (P := fun t => LineCounts t.line) h (fun _ => h)
    (fun _ slot _ _ => lineCounts_of_eq (setSlot_line { s with line.sending := none } slot _) h)
    (fun _ => (restartEffect_lineKept _).lineCounts (restartedLine_lineCounts _))

theorem event_lineCounts {c : Instr} {f : State → State} (he : Event c f) (ha : ∀ bytes, c ≠ .frameArrival bytes)
    (hl : c ≠ .lineOutSendComplete) (h : LineCounts s.line) : LineCounts (f s).line := by
  cases hc : isLineEvent c with
  | false => exact (event_lineKept s he hc).lineCounts h
  | true =>
    cases he with
    | frameArrival bytes => exact absurd rfl (ha bytes)
    | lineOutSendComplete => exact absurd rfl hl
    | silenceTimerExpiry =>
      unfold silenceExpiry
      split <;> exact h
    | wakeTimerExpiry =>
      unfold wakeExpiry
      split <;> exact h
    | statusPeriodExpiry =>
      unfold statusPeriod
      split
      · exact h
      · dsimp only
        split <;> exact h
    | _ => cases hc

theorem writeRights_lineCounts (args : List Byte) (h : LineCounts s.line) :
    LineCounts (writeRights args s).state.line := by
  fun_cases writeRights args s
  case case3 => exact setNode_lineCounts (h.node _) h
  all_goals exact h

theorem readStatus_lineCounts (args : List Byte) (h : LineCounts s.line) :
    LineCounts (readStatus args s).state.line := by
  unfold readStatus
  dsimp only
  split
  · exact h
  · rw [doneWith_state, (clearCause_frame _).1]
    exact h
  · exact h

theorem answerOf_lineCounts (r : Req) (args : List Byte) (h : LineCounts s.line) :
    LineCounts (answerOf r args s).state.line := by
  rcases Classical.em (r = .readStatus) with rfl | hs
  · exact readStatus_lineCounts args h
  · rcases Classical.em (r = .writeRights) with rfl | hr
    · exact writeRights_lineCounts args h
    · exact (answerOf_lineKept s r args hs hr).lineCounts h

end

theorem lineCounts_kept : KeptByParts fun s => LineCounts s.line where
  pending _ _ h := h
  powerOn own controller _ := powerOnLine_lineCounts own controller
  reset _ h := h
  tick _ h := h
  choice _ h := arbitrate_lineCounts h
  arrival := {
    error := fun _ ⟨_, rest⟩ => ⟨countUp_le _ _, rest⟩
    activity := fun _ h => lineActivity_lineCounts h
    node := fun source _ _ hs h => setNode_lineCounts (nodeInRange_testedNode hs (h.node source)) h
    overrun := fun _ h => overrun_lineCounts h
    forward := fun _ _ _ h => h
    samples := fun _ _ _ h => lineCounts_of_eq (by simp) h
    entries := fun _ _ _ _ h => lineCounts_of_eq (by simp) h
    offered := fun source payload _ h => offerRequest_lineCounts source payload h }
  completed _ h := completeSending_lineCounts h
  event he ha hl _ h := event_lineCounts he ha hl h
  handed _ _ h := h
  answer r args _ h := answerOf_lineCounts r args h
  reply slot dest p restart _ h := placeReply_lineCounts slot dest p restart h

/-! ### The Notice Unit (R185, R188) -/

/-- The counts of the Notice Unit in their ranges. -/
def NoticeCounts (u : NoticeUnit) : Prop := u.overflow ≤ 65535 ∧ u.seconds ≤ 4294967295

section
variable {s t : State}

theorem noticeCounts_of_eq (e : t.notices = s.notices) (h : NoticeCounts s.notices) : NoticeCounts t.notices := e ▸ h

theorem NoticeCounts.offered {u : NoticeUnit} (h : NoticeCounts u) (k : NoticeKind) (subject : Nat) (value : Int) :
    NoticeCounts (offerNotice k subject value u) := by
  obtain ⟨ho, hs⟩ := h
  unfold offerNotice placeNotice
  split
  · split
    · exact ⟨ho, hs⟩
    · split
      · exact ⟨ho, hs⟩
      · exact ⟨countUp_le _ _, hs⟩
  · exact ⟨ho, hs⟩

theorem restartedNotices_noticeCounts (u : NoticeUnit) : NoticeCounts (restartedNotices u) :=
  ⟨Nat.zero_le _, Nat.zero_le _⟩

theorem statusPeriod_noticeCounts (h : NoticeCounts s.notices) : NoticeCounts (statusPeriod s).notices := by
  unfold statusPeriod
  split
  · exact h
  · dsimp only
    split <;> exact h

theorem answerOf_noticeCounts (r : Req) (args : List Byte) (h : NoticeCounts s.notices) :
    NoticeCounts (answerOf r args s).state.notices := by
  cases r with
  | readStatus =>
    show NoticeCounts (readStatus args s).state.notices
    unfold readStatus clearCause
    dsimp only
    split
    · exact h
    · split <;> exact h
    · exact h
  | writeNoticeMask =>
    show NoticeCounts (writeNoticeMask args s).state.notices
    unfold writeNoticeMask
    split <;> exact h
  | _ => exact noticeCounts_of_eq (by simp [answerOf]) h

theorem event_noticeCounts {c : Instr} {f : State → State} (he : Event c f) (ha : ∀ bytes, c ≠ .frameArrival bytes)
    (hl : c ≠ .lineOutSendComplete) (h : NoticeCounts s.notices) : NoticeCounts (f s).notices := by
  cases he with
  | frameArrival bytes => exact absurd rfl (ha bytes)
  | lineOutSendComplete => exact absurd rfl hl
  | noticeOffer kind subject value => exact h.offered kind subject value
  | statusPeriodExpiry => exact statusPeriod_noticeCounts h
  | secondsTick =>
    obtain ⟨ho, -⟩ := h
    exact ⟨ho, Nat.min_le_right _ _⟩
  | _ => exact noticeCounts_of_eq (by simp) h

theorem arbitrate_noticeCounts (h : NoticeCounts s.notices) : NoticeCounts (arbitrate s).notices := by
  obtain ⟨-, ho, hs, -⟩ := arbitrate_notices s
  unfold NoticeCounts
  rwa [ho, hs]

end

theorem noticeCounts_kept : KeptByParts fun s => NoticeCounts s.notices where
  pending _ _ h := h
  powerOn _ _ _ := ⟨Nat.zero_le _, Nat.zero_le _⟩
  reset _ h := h
  tick _ h := h
  choice _ h := arbitrate_noticeCounts h
  arrival := {
    error := fun _ h => h
    activity := fun _ h => noticeCounts_of_eq (by simp) h
    node := fun _ _ _ _ h => h
    overrun := fun _ h => noticeCounts_of_eq (by simp) h
    forward := fun _ _ _ h => h
    samples := fun _ _ _ h => noticeCounts_of_eq (by simp) h
    entries := fun _ _ _ _ h => noticeCounts_of_eq (by simp) h
    offered := fun _ _ _ h => noticeCounts_of_eq (by simp) h }
  completed s h := completeSending_keeps (P := fun t => NoticeCounts t.notices) h (fun _ => h)
    (fun _ _ _ _ => noticeCounts_of_eq (by simp) h)
    (fun _ => (restartEffect_notices _).symm ▸ restartedNotices_noticeCounts _)
  event he ha hl _ h := event_noticeCounts he ha hl h
  handed _ _ h := h
  answer r args _ h := answerOf_noticeCounts r args h
  reply _ _ _ _ _ h := noticeCounts_of_eq (by simp [placeReply]) h

/-! ### The Scene Unit (R119, R141) -/

/-- The step counter and the generations in their ranges. -/
def SceneCounts (u : SceneUnit) : Prop := u.stepCounter < 64 ∧ GenerationsInRange u.buffers

section
variable {s t : State}

theorem sceneCounts_of_eq (e : t.scene = s.scene) (h : SceneCounts s.scene) : SceneCounts t.scene := e ▸ h

theorem BuffersKept.sceneCounts (k : BuffersKept s t) (h : SceneCounts s.scene) : SceneCounts t.scene := by
  obtain ⟨hs, hg⟩ := h
  exact ⟨k.stepCounter ▸ hs, k.generations hg⟩

theorem levelGroup_sceneCounts (rs : Vector SearchResult 32) (i : GroupIx) (h : SceneCounts s.scene) :
    SceneCounts (levelGroup rs s i).scene := by
  unfold levelGroup sendLevel
  dsimp only
  split
  · split <;> exact h
  · exact h

theorem cutGroup_sceneCounts (sh : Sheet) (i : GroupIx) (h : SceneCounts s.scene) :
    SceneCounts (cutGroup sh s i).scene := by
  unfold cutGroup
  dsimp only
  split <;> exact h

theorem cutHaze_sceneCounts (sh : Sheet) (h : SceneCounts s.scene) : SceneCounts (cutHaze sh s).scene := by
  have cut : SceneCounts (groupOrder.foldl (cutGroup sh) s).scene :=
    foldl_invariant (fun t => SceneCounts t.scene) (cutGroup sh) (fun t i => cutGroup_sceneCounts sh i) groupOrder s h
  unfold cutHaze
  simpa [SceneCounts] using cut

/-- The settling of the flashes and the report of the load leave the counts alone. -/
theorem reportLoad_sceneCounts (h : SceneCounts s.scene) :
    SceneCounts (reportLoad (settleSheet (settleSheet s .one) .two)).scene := by
  simpa [SceneCounts] using h

theorem finishSearch_sceneCounts (step : Nat) (h : SceneCounts s.scene) : SceneCounts (finishSearch step s).scene := by
  have levels (rs : Vector SearchResult 32) (u : State) (hu : SceneCounts u.scene) :
      SceneCounts (groupOrder.foldl (levelGroup rs) u).scene :=
    foldl_invariant (fun t => SceneCounts t.scene) (levelGroup rs) (fun t i => levelGroup_sceneCounts rs i)
      groupOrder u hu
  unfold finishSearch
  exact (markCandidates_buffersKept _ step _).sceneCounts (reportLoad_sceneCounts (levels _ _ h))

theorem startStep_sceneCounts (h : SceneCounts s.scene) : SceneCounts (startStep s).scene := by
  have captured (u : State) (hu : SceneCounts u.scene) :
      SceneCounts (checkTransfers (captureStep (abandonSearch u))).scene := by
    refine (captureStep_buffersKept _).checked.sceneCounts ?_
    obtain ⟨hb, -, hs⟩ := abandonSearch_scene u
    unfold SceneCounts
    rwa [hb, hs]
  obtain ⟨-, hg⟩ := h
  unfold startStep
  dsimp only
  split
  · exact finishSearch_sceneCounts _ (captured _ ⟨Nat.mod_lt _ (by decide), hg⟩)
  · exact captured _ ⟨Nat.mod_lt _ (by decide), hg⟩

theorem answerOf_sceneCounts (r : Req) (args : List Byte) (h : SceneCounts s.scene) :
    SceneCounts (answerOf r args s).state.scene := by
  cases hb : isBufferRequest r with
  | true => exact (answerOf_buffersKept s args hb).sceneCounts h
  | false =>
    cases r with
    | configureBuffer | lockBuffer | unlockBuffer | writeScene | commit | enableBuffer | disableBuffer
    | setStepPeriod => cases hb
    | writeGroup =>
      obtain e | ⟨i, d, -, -, e⟩ := writeGroup_cases s args
      · exact sceneCounts_of_eq (congrArg State.scene e) h
      · exact (congrArg State.scene e).symm ▸ h
    | enableGroup =>
      show SceneCounts (enableGroup args s).state.scene
      unfold enableGroup admitGroup
      split
      · exact h
      · split
        · exact h
        · exact h
        · dsimp only
          split <;> exact h
    | disableGroup =>
      show SceneCounts (disableGroup args s).state.scene
      unfold disableGroup
      split
      · exact h
      · split <;> exact h
    | _ => exact sceneCounts_of_eq (by simp [answerOf]) h

theorem event_sceneCounts {c : Instr} {f : State → State} (he : Event c f) (ha : ∀ bytes, c ≠ .frameArrival bytes)
    (hl : c ≠ .lineOutSendComplete) (h : SceneCounts s.scene) : SceneCounts (f s).scene := by
  cases he with
  | frameArrival bytes => exact absurd rfl (ha bytes)
  | lineOutSendComplete => exact absurd rfl hl
  | hazeCut sheet => exact cutHaze_sceneCounts sheet h
  | stepStart => exact startStep_sceneCounts h
  | searchCompletion =>
    unfold completeSearch
    split
    · exact h
    · exact finishSearch_sceneCounts _ h
  | transferCompletion => exact (completeTransfer_buffersKept s).sceneCounts h
  | _ => exact sceneCounts_of_eq (by simp) h

theorem restartedScene_sceneCounts (h : SceneCounts s.scene) : SceneCounts (restartedScene s.scene) := by
  obtain ⟨-, hg⟩ := h
  refine ⟨Nat.zero_lt_succ _, fun i => ?_⟩
  simp only [restartedScene, Fin.getElem_fin, Vector.getElem_map]
  exact hg i

theorem restartEffect_sceneCounts (h : SceneCounts s.scene) : SceneCounts (restartEffect s).scene := by
  have cut (sh : Sheet) (u : State) (hu : SceneCounts u.scene) : SceneCounts (restartCut sh u).scene := by
    unfold restartCut
    split
    · exact cutHaze_sceneCounts sh hu
    · exact hu
  unfold restartEffect
  refine sceneCounts_of_eq (recomputeElectricSilently_frame _).2.2.1 (cut .two _ (cut .one _ ?_))
  have checked : SceneCounts (checkTransfers (restartedBlocks s)).scene :=
    (checkTransfers_buffersKept _).sceneCounts (restartedScene_sceneCounts h)
  exact sceneCounts_of_eq (by simp [restartCaps]) checked

end

theorem sceneCounts_kept : KeptByParts fun s => SceneCounts s.scene where
  pending _ _ h := h
  powerOn _ _ _ := by simp [SceneCounts, GenerationsInRange, powerOnState, powerOnScene, powerOnBuffer]
  reset _ h := h
  tick _ h := h
  choice _ h := sceneCounts_of_eq (by simp) h
  arrival := {
    error := fun _ h => h
    activity := fun _ h => sceneCounts_of_eq (by simp) h
    node := fun _ _ _ _ h => h
    overrun := fun _ h => sceneCounts_of_eq (by simp) h
    forward := fun _ _ _ h => h
    samples := fun _ _ _ h => sceneCounts_of_eq (by simp) h
    entries := fun _ _ _ _ h => sceneCounts_of_eq (by simp) h
    offered := fun _ _ _ h => sceneCounts_of_eq (by simp) h }
  completed s h := completeSending_keeps (P := fun t => SceneCounts t.scene) h (fun _ => h)
    (fun _ _ _ _ => sceneCounts_of_eq (by simp) h)
    (fun slot => restartEffect_sceneCounts (sceneCounts_of_eq (setSlot_scene _ slot _) h))
  event he ha hl _ h := event_sceneCounts he ha hl h
  handed _ _ h := h
  answer r args _ h := answerOf_sceneCounts r args h
  reply _ _ _ _ _ h := sceneCounts_of_eq (by simp [placeReply]) h

end Sys2Proof.Machine
end

section
/-! SUPPORT. The counters of the points (R31, R32, R34, R35) and the memory of the previous mode (R164) under every
part of a command. -/

namespace Sys2Proof.Machine

/-! ### The Point Map -/

/-- The counters of every point in their ranges. -/
def PointCounts (ps : Vector Point 256) : Prop := ∀ i : PointIx, pointCountsInRange ps[i]

theorem PointCounts.set {ps : Vector Point 256} (h : PointCounts ps) (i : PointIx) {p : Point}
    (hp : pointCountsInRange p) : PointCounts (ps.set i p) := forall_set (P := fun _ p => pointCountsInRange p) hp h

theorem PointCounts.map {ps : Vector Point 256} (h : PointCounts ps) {f : Point → Point}
    (hf : ∀ p, pointCountsInRange p → pointCountsInRange (f p)) : PointCounts (ps.map f) := fun i => by
  rw [Fin.getElem_fin, Vector.getElem_map]
  exact hf _ (h i)

theorem PointCounts.mapTable {ps : Vector Point 256} (h : PointCounts ps) {f : Nat → Point → Point}
    (hf : ∀ k p, pointCountsInRange p → pointCountsInRange (f k p)) : PointCounts (mapTable f ps) := fun i => by
  rw [get_mapTable]
  exact hf _ _ (h i)

theorem clearedPoint_counts (d : PointDef) (state : PointState) : pointCountsInRange (clearedPoint d state) := by
  simp [pointCountsInRange, clearedPoint]

section
variable {s t : State}

theorem pointCounts_of_eq (e : t.points = s.points) (h : PointCounts s.points) : PointCounts t.points := e ▸ h

theorem settleStart_pointCounts (i : PointIx) (h : PointCounts s.points) : PointCounts (settleStart i s).points := by
  unfold settleStart
  dsimp only
  split
  · exact h
  · split
    · exact h.set i (h i)
    · exact h.set i (h i)
    all_goals exact h

theorem resumeFollowers_pointCounts (i : PointIx) (h : PointCounts s.points) :
    PointCounts (resumeFollowers i s).points := by
  refine h.mapTable fun _ p hp => ?_
  unfold resumedPoint
  split <;> exact hp

theorem collapseFollowers_pointCounts (i : PointIx) (v : Int) (h : PointCounts s.points) :
    PointCounts (collapseFollowers i v s).points := by
  refine h.mapTable fun _ p hp => ?_
  unfold collapsedPoint
  split <;> exact hp

/-! ### Samples and expiries -/

theorem acceptedPoint_counts {p : Point} (time : Nat) (h : pointCountsInRange p) :
    pointCountsInRange (acceptedPoint time p) := by
  obtain ⟨-, rest⟩ := h
  exact ⟨countUp_le _ _, rest⟩

theorem acceptSample_pointCounts (i : PointIx) {p : Point} (v : Int) (hp : pointCountsInRange p)
    (h : PointCounts s.points) : PointCounts (acceptSample i p v s).points := by
  have taken : PointCounts (setPoint i (freshPoint v p) s).points := h.set i hp
  unfold acceptSample
  split
  · exact resumeFollowers_pointCounts (s := setPoint i (freshPoint v p) s) i taken
  · exact taken
  · exact h.set i hp
  · split
    · exact resumeFollowers_pointCounts (s := offer .pointRecovered i v (setPoint i (freshPoint v p) s)) i taken
    · exact h.set i hp
  · split
    · exact resumeFollowers_pointCounts (s := offer .pointRecovered i v (setPoint i (freshPoint v p) s)) i taken
    · exact h.set i hp
  · exact h
  · exact h

theorem takeCandidate_pointCounts (i : PointIx) {p : Point} (raw : Nat) (hp : pointCountsInRange p)
    (h : PointCounts s.points) : PointCounts (takeCandidate i p raw s).points := by
  unfold takeCandidate
  dsimp only
  split
  · split
    · exact acceptSample_pointCounts i _ (acceptedPoint_counts _ hp) h
    · split
      · exact acceptSample_pointCounts i _ (acceptedPoint_counts _ hp) h
      · obtain ⟨ha, hr, -, hf⟩ := hp
        exact h.set i ⟨ha, hr, countUp_le _ _, hf⟩
  · exact acceptSample_pointCounts i _ (acceptedPoint_counts _ hp) h

theorem sampleEntry_pointCounts (source channel : Nat) (fault : Bool) (raw : Nat) (h : PointCounts s.points) :
    PointCounts (sampleEntry source channel fault raw s).points := by
  unfold sampleEntry
  split
  · next i _ =>
    have hp := h i
    obtain ⟨ha, hr, hk, hf⟩ := h i
    split
    · unfold sampleEnabled
      dsimp only
      split
      · exact h.set i ⟨ha, hr, hk, countUp_le _ _⟩
      · split
        · exact h.set i ⟨ha, countUp_le _ _, hk, hf⟩
        · exact takeCandidate_pointCounts i raw hp h
    · exact h
  · exact h

theorem sampleEntries_pointCounts (source : Nat) (bs : List Byte) (h : PointCounts s.points) :
    PointCounts (sampleEntries source bs s).points := by
  fun_induction sampleEntries source bs s with
  | case1 b hi lo rest s ih => exact ih (sampleEntry_pointCounts _ _ _ _ h)
  | case2 => exact h

theorem goStale_pointCounts (i : PointIx) {p : Point} (hp : pointCountsInRange p) (h : PointCounts s.points) :
    PointCounts (goStale i p s).points := by
  unfold goStale
  dsimp only
  split <;> exact collapseFollowers_pointCounts i _ (h.set i hp)

theorem staleExpiry_pointCounts (i : PointIx) (h : PointCounts s.points) : PointCounts (staleExpiry i s).points := by
  fun_cases staleExpiry i s
  case case2 => exact goStale_pointCounts i (h i) h
  case case3 => exact goStale_pointCounts i (h i) h
  case case4 => exact h.set i (h i)
  case case5 => exact h.set i (h i)
  case case6 => exact h.set i (h i)
  all_goals exact h

theorem settleExpiry_pointCounts (i : PointIx) (h : PointCounts s.points) :
    PointCounts (settleExpiry i s).points := by
  fun_cases settleExpiry i s
  case case2 => exact resumeFollowers_pointCounts i (h.set i (h i))
  all_goals exact h

/-! ### The settling starts of the Budget Unit and the Scene Unit (R45, R72, R157) -/

theorem commandConsumer_pointCounts (i : ConsumerIx) (h : PointCounts s.points) :
    PointCounts (commandConsumer s i).points := by
  unfold commandConsumer driveValve governValve
  dsimp only
  split
  · split
    · split
      · exact h
      · split
        · exact settleStart_pointCounts _ h
        · exact h
    · split <;> exact h
    all_goals exact h
  · exact h

theorem completeAllocation_pointCounts (h : PointCounts s.points) : PointCounts (completeAllocation s).points := by
  have commands (u : State) (hu : PointCounts u.points) :
      PointCounts (consumerOrder.foldl commandConsumer u).points :=
    foldl_invariant (fun t => PointCounts t.points) commandConsumer (fun t i => commandConsumer_pointCounts i)
      consumerOrder u hu
  unfold completeAllocation
  split
  · exact h
  · next c _ =>
    unfold completeWith
    have published : (heatLostNotice c s.budget { s with budget := publishedBudget c s.budget }).points = s.points := by
      simp
    simpa using commands _ (pointCounts_of_eq published h)

theorem settleSheet_pointCounts (sh : Sheet) (h : PointCounts s.points) : PointCounts (settleSheet s sh).points := by
  unfold settleSheet
  dsimp only
  split
  · split
    · exact settleStart_pointCounts _ h
    · exact h
  · exact h

theorem finishSearch_pointCounts (step : Nat) (h : PointCounts s.points) :
    PointCounts (finishSearch step s).points := by
  unfold finishSearch
  simp only [markCandidate_fold, reportLoad_points]
  refine settleSheet_pointCounts .two (settleSheet_pointCounts .one (pointCounts_of_eq (s := s) ?_ h))
  simp only [levelGroup_fold]

theorem startStep_pointCounts (h : PointCounts s.points) : PointCounts (startStep s).points := by
  unfold startStep
  dsimp only
  split
  · exact finishSearch_pointCounts _ (pointCounts_of_eq (by simp) h)
  · exact pointCounts_of_eq (by simp) h

/-! ### The parts of a command -/

theorem answerOf_pointCounts (r : Req) (args : List Byte) (h : PointCounts s.points) :
    PointCounts (answerOf r args s).state.points := by
  cases r with
  | writePoint =>
    show PointCounts (writePoint args s).state.points
    fun_cases writePoint args s
    case case6 => exact h.set _ (clearedPoint_counts _ _)
    all_goals exact h
  | enablePoint =>
    show PointCounts (enablePoint args s).state.points
    fun_cases enablePoint args s
    case case2 => exact h.set _ (h (pointIxAt args 0))
    all_goals exact h
  | disablePoint =>
    show PointCounts (disablePoint args s).state.points
    have disabled := h.set (pointIxAt args 0) (p := disabledPoint s.points[pointIxAt args 0]) (h (pointIxAt args 0))
    fun_cases disablePoint args s
    case case4 | case5 => exact collapseFollowers_pointCounts _ _ disabled
    case case3 | case6 | case7 => exact disabled
    all_goals exact h
  | clearSubstitute =>
    show PointCounts (clearSubstitute args s).state.points
    fun_cases clearSubstitute args s
    case case1 | case2 => exact h
    all_goals exact h.set _ (h (pointIxAt args 0))
  | _ => exact pointCounts_of_eq (by simp [answerOf]) h

theorem event_pointCounts {c : Instr} {f : State → State} (he : Event c f) (ha : ∀ bytes, c ≠ .frameArrival bytes)
    (hl : c ≠ .lineOutSendComplete) (h : PointCounts s.points) : PointCounts (f s).points := by
  cases he with
  | frameArrival bytes => exact absurd rfl (ha bytes)
  | lineOutSendComplete => exact absurd rfl hl
  | staleTimerExpiry i => exact staleExpiry_pointCounts i h
  | settleTimerExpiry i => exact settleExpiry_pointCounts i h
  | allocationCompletion => exact completeAllocation_pointCounts h
  | stepStart => exact startStep_pointCounts h
  | searchCompletion =>
    unfold completeSearch
    split
    · exact h
    · exact finishSearch_pointCounts _ h
  | _ => exact pointCounts_of_eq (by simp) h

theorem restartEffect_pointCounts (h : PointCounts s.points) : PointCounts (restartEffect s).points := by
  have restarted : PointCounts (restartedBlocks s).points := by
    refine h.map fun p hp => ?_
    unfold restartedPoint
    split
    · exact hp
    · split
      · exact clearedPoint_counts p.defn .disabled
      · exact clearedPoint_counts p.defn .never
  exact pointCounts_of_eq (by simp [restartEffect, restartCaps]) restarted

end

theorem pointCounts_kept : KeptByParts fun s => PointCounts s.points where
  pending _ _ h := h
  powerOn _ _ _ i := by simp [powerOnState, powerOnPoints, clearedPoint_counts]
  reset _ h := h
  tick _ h := h.map fun _ hp => hp
  choice _ h := pointCounts_of_eq (by simp) h
  arrival := {
    error := fun _ h => h
    activity := fun _ h => pointCounts_of_eq (by simp) h
    node := fun _ _ _ _ h => h
    overrun := fun _ h => pointCounts_of_eq (by simp) h
    forward := fun _ _ _ h => h
    samples := fun source payload _ h => sampleEntries_pointCounts source payload h
    entries := fun _ _ _ _ h => pointCounts_of_eq (by simp) h
    offered := fun _ _ _ h => pointCounts_of_eq (by simp) h }
  completed s h := completeSending_keeps (P := fun t => PointCounts t.points) h (fun _ => h)
    (fun _ _ _ _ => pointCounts_of_eq (by simp) h)
    (fun slot => restartEffect_pointCounts (pointCounts_of_eq (setSlot_points _ slot _) h))
  event he ha hl _ h := event_pointCounts he ha hl h
  handed _ _ h := h
  answer r args _ h := answerOf_pointCounts r args h
  reply _ _ _ _ _ h := pointCounts_of_eq (by simp [placeReply]) h

/-! ### The memory of the previous mode (R164) -/

section
variable {s t : State}

theorem modeSound_of_eq (e : t.mode.previous = s.mode.previous) (h : ModeSound s) : ModeSound t :=
  (congrArg (· ≠ Mode.setback) e).mpr h

/-- A mode entered that is not the one in force leaves the memory other than SETBACK. -/
theorem enterMode_modeSound {m : Mode} (hm : m ≠ s.mode.mode) (h : ModeSound s) : ModeSound (enterMode m s) := by
  unfold enterMode
  split
  · next hs => exact fun e => hm (hs.trans e.symm)
  · exact h

theorem answerOf_modeSound (r : Req) (args : List Byte) (h : ModeSound s) : ModeSound (answerOf r args s).state := by
  cases r with
  | setMode =>
    show ModeSound (setMode args s).state
    fun_cases setMode args s
    case case3 m _ hm => exact enterMode_modeSound hm h
    all_goals exact h
  | writeProfile =>
    show ModeSound (writeProfile args s).state
    fun_cases writeProfile args s
    case case3 m _ p _ _ =>
      show ModeSound (loadProfile m p s)
      have kept : (setProfile m p s.mode).previous = s.mode.previous := by cases m <;> rfl
      unfold loadProfile
      dsimp only
      split <;> exact modeSound_of_eq kept h
    all_goals exact h
  | coverSheet =>
    show ModeSound (coverSheet args s).state
    fun_cases coverSheet args s
    case case3 sh _ _ => exact modeSound_of_eq (by cases sh <;> simp [setCover]) h
    all_goals exact h
  | uncoverSheet =>
    show ModeSound (uncoverSheet args s).state
    fun_cases uncoverSheet args s
    case case2 sh _ _ => exact modeSound_of_eq (by cases sh <;> simp [setCover]) h
    all_goals exact h
  | _ => exact modeSound_of_eq (by simp [answerOf]) h

theorem event_modeSound {c : Instr} {f : State → State} (he : Event c f) (ha : ∀ bytes, c ≠ .frameArrival bytes)
    (hl : c ≠ .lineOutSendComplete) (h : ModeSound s) : ModeSound (f s) := by
  cases he with
  | frameArrival bytes => exact absurd rfl (ha bytes)
  | lineOutSendComplete => exact absurd rfl hl
  | valueReport point value =>
    show ModeSound (takeReport point value (takeHanded (.valueReport point value) s))
    unfold takeReport
    split <;> exact h
  | _ => exact modeSound_of_eq (by simp) h

theorem restartEffect_mode (s : State) : (restartEffect s).mode = s.mode := by
  simp [restartEffect, restartedBlocks]

end

theorem modeSound_kept : KeptByParts ModeSound where
  pending _ _ h := h
  powerOn _ _ _ := by simp [ModeSound, powerOnState, powerOnMode]
  reset _ h := h
  tick _ h := h
  choice _ h := modeSound_of_eq (by simp) h
  arrival := {
    error := fun _ h => h
    activity := fun _ h => modeSound_of_eq (by simp) h
    node := fun _ _ _ _ h => h
    overrun := fun _ h => modeSound_of_eq (by simp) h
    forward := fun _ _ _ h => h
    samples := fun _ _ _ h => modeSound_of_eq (by simp) h
    entries := fun _ _ _ _ h => modeSound_of_eq (by simp) h
    offered := fun _ _ _ h => modeSound_of_eq (by simp) h }
  completed s h := completeSending_keeps h (fun _ => h) (fun _ _ _ _ => modeSound_of_eq (by simp) h)
    (fun slot => modeSound_of_eq (by simp [restartEffect_mode]) h)
  event he ha hl _ h := event_modeSound he ha hl h
  handed _ _ h := h
  answer r args _ h := answerOf_modeSound r args h
  reply _ _ _ _ _ h := modeSound_of_eq (by simp [placeReply]) h

/-- Every count in its range, block by block. -/
theorem countsInRange_iff {s : State} : CountsInRange s ↔
    LineCounts s.line ∧ NoticeCounts s.notices ∧ SceneCounts s.scene ∧ PointCounts s.points := by
  unfold CountsInRange LineCounts NoticeCounts SceneCounts GenerationsInRange PointCounts
  tauto

end Sys2Proof.Machine
end

section
/-! THEOREMS. The counts under every step. -/

namespace Sys2Proof.Machine

/-- Settles O54: block by block, each part of a command keeps the block's counts. -/
theorem stepKeepsTheCountsInRange : Obligations.StepKeepsTheCountsInRange := by
  intro s t h
  refine ⟨fun hs => ?_, modeSound_kept.keptByShape.of_step h⟩
  obtain ⟨line, notices, scene, points⟩ := countsInRange_iff.1 hs
  exact countsInRange_iff.2 ⟨lineCounts_kept.keptByShape.of_step h line, noticeCounts_kept.keptByShape.of_step h notices,
    sceneCounts_kept.keptByShape.of_step h scene, pointCounts_kept.keptByShape.of_step h points⟩

end Sys2Proof.Machine
end

section
/-! SUPPORT. The records after power-on reset (R4, R24, R55, R80, R100, R118, R119, R143, R178). -/

namespace Sys2Proof.Machine

section
variable (own controller : Strap) (l : List Instr)

theorem powerOn_point (i : PointIx) :
    (powerOnState own controller l).points[i] = clearedPoint unusedPointDef .unused := by
  simp [powerOnState, powerOnPoints]

theorem powerOn_consumer (i : ConsumerIx) :
    (powerOnState own controller l).budget.consumers[i] = clearedConsumer unusedConsumerDef .unused := by
  simp [powerOnState, powerOnBudget]

theorem powerOn_zone (i : ZoneIx) :
    (powerOnState own controller l).zones.zones[i] = clearedZone unusedZoneDef .unused 1000 := by
  simp [powerOnState, powerOnZones]

theorem powerOn_buffer (i : BufferIx) : (powerOnState own controller l).scene.buffers[i] = powerOnBuffer i := by
  simp [powerOnState, powerOnScene]

theorem powerOn_group (i : GroupIx) :
    (powerOnState own controller l).scene.groups[i] = clearedGroup unusedGroupDef .unused := by
  simp [powerOnState, powerOnScene]

theorem powerOn_node (i : Fin 64) : (powerOnState own controller l).line.nodes[i] =
    powerOnNode (if i = controller then allRights else readOnlyRights) := by
  show (powerOnNodes controller)[i] = _
  unfold powerOnNodes
  split
  · next h => rw [h, getElem_set_same]
  · next h =>
    rw [getElem_set_other h]
    simp

theorem powerOn_sheet (sh : Sheet) :
    sheetRec (powerOnState own controller l).fog sh = clearedSheet unloadedSheetDef .unused := by
  cases sh <;> rfl

/-! ### The invariants -/

theorem powerOn_countsInRange : CountsInRange (powerOnState own controller l) :=
  countsInRange_iff.2 ⟨lineCounts_kept.powerOn own controller l, noticeCounts_kept.powerOn own controller l,
    sceneCounts_kept.powerOn own controller l, pointCounts_kept.powerOn own controller l⟩

theorem powerOn_pointsSound : PointsSound (powerOnState own controller l) := by
  intro i
  simp only [powerOn_point]
  simp [clearedPoint, unusedPointDef]

theorem powerOn_grantsSound : GrantsSound (powerOnState own controller l) := by
  refine ⟨?_, fun i => ⟨?_, fun _ => ?_, fun c hc => ?_⟩⟩
  · simp [grantSum, powerOnState, powerOnBudget, clearedConsumer]
  · rw [powerOn_consumer]
    exact Nat.zero_le _
  · rw [powerOn_consumer]
    exact ⟨rfl, rfl⟩
  · cases hc

theorem powerOn_boostSound : BoostSound (powerOnState own controller l) := by
  simp [BoostSound, powerOnState, powerOnBudget, powerOnZones, clearedZone, stagePowerOf]

theorem powerOn_forwardedSound : ForwardedSound (powerOnState own controller l) := by
  intro i
  simp only [powerOn_zone]
  simp [clearedZone]

theorem powerOn_slotsSound : SlotsSound (powerOnState own controller l) := by
  intro i j h
  rwa [powerOn_buffer, powerOn_buffer] at h

theorem powerOn_transferSound : TransferSound (powerOnState own controller l) := by
  intro i
  rw [powerOn_buffer]
  constructor
  · intro h
    cases h
  · rintro ⟨n, hn, -⟩
    cases hn

theorem powerOn_pairsSound : PairsSound (powerOnState own controller l) := by
  intro n
  simp only [powerOn_buffer]
  simp [powerOnBuffer]

theorem powerOn_hazeSound : HazeSound (powerOnState own controller l) := by
  have clear (sh : Sheet) : fogOf (powerOnState own controller l) sh = .clear := by
    simp [fogOf, powerOn_sheet, clearedSheet]
  refine ⟨powerOn_indexSound own controller l, fun i h => ?_, .inr fun sh => ?_⟩
  · rw [powerOn_consumer] at h
    cases h
  · exact ⟨fun _ => clear sh, fun _ => clear sh, fun _ h => absurd (clear sh) h⟩

end

end Sys2Proof.Machine
end

section
/-! THEOREMS. The part after power-on reset. -/

namespace Sys2Proof.Machine

/-- Settles O52, invariant by invariant. -/
theorem powerOnMeetsEveryInvariant : Obligations.PowerOnMeetsEveryInvariant := fun own controller l =>
  ⟨noticeQueueSound_kept.powerOn own controller l, commandQueueSound_kept.powerOn own controller l,
    repliesSound_kept.powerOn own controller l, lineOutSound_kept.powerOn own controller l,
    powerOn_countsInRange own controller l, modeSound_kept.powerOn own controller l,
    powerOn_indexSound own controller l, powerOn_pointsSound own controller l, powerOn_grantsSound own controller l,
    powerOn_boostSound own controller l, powerOn_forwardedSound own controller l, powerOn_slotsSound own controller l,
    powerOn_transferSound own controller l, powerOn_pairsSound own controller l, powerOn_hazeSound own controller l⟩

end Sys2Proof.Machine
end

section
/-! SUPPORT. Bytes and frames: the fields of a number's bytes, and what a check sum behind a header and its payload
makes of them (chapter 11.1). -/

namespace Sys2Proof.Machine

/-! ### Bytes -/

@[simp] theorem length_bytesOf (n v : Nat) : (bytesOf n v).length = n := by
  induction n with
  | zero => rfl
  | succ n ih => rw [bytesOf, List.length_cons, ih]

theorem u8_eq (v : Nat) : u8 v = [BitVec.ofNat 8 v] := by simp [u8, bytesOf]

theorem u16_eq (v : Nat) : u16 v = [BitVec.ofNat 8 (v / 256), BitVec.ofNat 8 v] := by simp [u16, bytesOf]

theorem u24_eq (v : Nat) : u24 v = [BitVec.ofNat 8 (v / 65536), BitVec.ofNat 8 (v / 256), BitVec.ofNat 8 v] := by
  simp [u24, bytesOf]

theorem u32_eq (v : Nat) : u32 v =
    [BitVec.ofNat 8 (v / 16777216), BitVec.ofNat 8 (v / 65536), BitVec.ofNat 8 (v / 256), BitVec.ofNat 8 v] := by
  simp [u32, bytesOf]

@[simp] theorem byteAt_cons_zero (b : Byte) (bs : List Byte) : byteAt (b :: bs) 0 = b.toNat := rfl

@[simp] theorem byteAt_cons_succ (b : Byte) (bs : List Byte) (k : Nat) : byteAt (b :: bs) (k + 1) = byteAt bs k := rfl

theorem byteAt_lt (bs : List Byte) (k : Nat) : byteAt bs k < 256 := BitVec.isLt _

theorem byteAt_append_left {bs : List Byte} {k : Nat} (h : k < bs.length) (cs : List Byte) :
    byteAt (bs ++ cs) k = byteAt bs k := by
  rw [byteAt, byteAt, List.getD_append _ _ _ _ h]

theorem byteAt_append_right (bs cs : List Byte) (k : Nat) : byteAt (bs ++ cs) (bs.length + k) = byteAt cs k := by
  rw [byteAt, byteAt, List.getD_append_right _ _ _ _ (Nat.le_add_right _ _), Nat.add_sub_cancel_left]

theorem byteAt_take {bs : List Byte} {k n : Nat} (h : k < n) : byteAt (bs.take n) k = byteAt bs k := by
  simp [byteAt, List.getD_eq_getElem?_getD, h]

theorem byteAt_drop (bs : List Byte) (k n : Nat) : byteAt (bs.drop n) k = byteAt bs (n + k) := by
  simp [byteAt, List.getD_eq_getElem?_getD, List.getElem?_drop]

/-- Bit 7 of a byte is its half. -/
theorem getLsbD_seven (b : Byte) : b.getLsbD 7 = decide (128 ≤ b.toNat) := by
  have h := b.isLt
  rw [BitVec.getLsbD, Nat.testBit_eq_decide_div_mod_eq]
  exact decide_eq_decide.2 (by omega)

/-! ### Frames -/

/-- Header and payload are whole: as long as the length field says (R193). -/
def Whole (bs : List Byte) : Prop := bs.length = 5 + byteAt bs 4

theorem byteAt_withCrc {bs : List Byte} {k : Nat} (h : k < bs.length) : byteAt (withCrc bs) k = byteAt bs k :=
  byteAt_append_left h _

theorem length_withCrc (bs : List Byte) : (withCrc bs).length = bs.length + 2 := by
  simp [withCrc, u16]

section
variable {bs : List Byte} (h : Whole bs)
include h

theorem Whole.header {k : Nat} (hk : k < 5) : byteAt (withCrc bs) k = byteAt bs k := by
  unfold Whole at h
  exact byteAt_withCrc (by omega)

theorem Whole.lengthOf : lengthOf (withCrc bs) = byteAt bs 4 := h.header (by decide)

/-- The part of a frame that its check sum covers is what the check sum was put behind. -/
theorem Whole.checkedPart : checkedPart (withCrc bs) = bs := by
  unfold Machine.checkedPart
  rw [h.lengthOf, withCrc]
  exact List.take_left' h

theorem Whole.payloadOf : payloadOf (withCrc bs) = bs.drop 5 := by
  rw [Machine.payloadOf, h.checkedPart]

/-- R1: a whole header and payload with its check sum is a good frame. -/
theorem Whole.goodFrame (hl : byteAt bs 4 ≤ 48) (hs : byteAt bs 1 ≤ 62) : goodFrame (withCrc bs) = true := by
  have hw : bs.length = 5 + byteAt bs 4 := h
  unfold Machine.goodFrame
  rw [h.lengthOf, h.checkedPart, length_withCrc, sourceOf, h.header (by decide)]
  simp only [Bool.and_eq_true, decide_eq_true_iff]
  exact ⟨⟨⟨⟨by omega, by omega⟩, hl⟩, hs⟩, trivial⟩

end

/-- The frame test, clause by clause (R1). -/
theorem goodFrame_iff (frame : List Byte) : goodFrame frame = true ↔
    5 ≤ frame.length ∧ frame.length = byteAt frame 4 + 7 ∧ byteAt frame 4 ≤ 48 ∧ byteAt frame 1 ≤ 62 ∧
      frame.drop (5 + byteAt frame 4) = u16 (crc16 (frame.take (5 + byteAt frame 4))).toNat := by
  have crc : frame = withCrc (checkedPart frame) ↔
      frame.drop (5 + byteAt frame 4) = u16 (crc16 (frame.take (5 + byteAt frame 4))).toNat := by
    have split := List.take_append_drop (5 + byteAt frame 4) frame
    calc frame = withCrc (checkedPart frame)
      _ ↔ frame.take (5 + byteAt frame 4) ++ frame.drop (5 + byteAt frame 4) =
          frame.take (5 + byteAt frame 4) ++ u16 (crc16 (frame.take (5 + byteAt frame 4))).toNat := by
        rw [split]
        exact Iff.rfl
      _ ↔ _ := List.append_right_inj _
  unfold goodFrame
  simp only [Bool.and_eq_true, decide_eq_true_iff, crc]
  simp only [lengthOf, sourceOf, and_assoc, Config.lastNode]

/-- Header and payload are what the check sum covers. -/
theorem header_append_payload (frame : List Byte) : frame.take 5 ++ payloadOf frame = checkedPart frame := by
  have header : frame.take 5 = (checkedPart frame).take 5 := by
    rw [checkedPart, List.take_take, Nat.min_eq_left (Nat.le_add_right _ _)]
  rw [header, payloadOf, List.take_append_drop]

section
variable {frame : List Byte} (h : goodFrame frame = true)
include h

theorem withCrc_checkedPart : withCrc (checkedPart frame) = frame := by
  unfold goodFrame at h
  simp only [Bool.and_eq_true, decide_eq_true_iff] at h
  exact h.2.symm

theorem length_checkedPart : (checkedPart frame).length = 5 + lengthOf frame := by
  obtain ⟨-, hl, -⟩ := (goodFrame_iff frame).1 h
  rw [checkedPart, List.length_take, Nat.min_eq_left]
  unfold lengthOf
  omega

theorem length_payloadOf : (payloadOf frame).length = lengthOf frame := by
  rw [payloadOf, List.length_drop, length_checkedPart h, Nat.add_sub_cancel_left]

theorem sourceOf_le : sourceOf frame ≤ 62 := by
  obtain ⟨-, -, -, hs, -⟩ := (goodFrame_iff frame).1 h
  exact hs

end

/-- The payload's bytes are those behind the header. -/
theorem byteAt_payloadOf {frame : List Byte} {k : Nat} (hk : k < lengthOf frame) : byteAt (payloadOf frame) k = byteAt frame (5 + k) := by
  rw [payloadOf, byteAt_drop, checkedPart, byteAt_take (Nat.add_lt_add_left hk 5)]

/-! ### A frame of the part (R14) -/

theorem frameOf_eq (dest source kind seq : Nat) (payload : List Byte) : frameOf dest source kind seq payload =
    withCrc (BitVec.ofNat 8 dest :: BitVec.ofNat 8 source :: BitVec.ofNat 8 kind :: BitVec.ofNat 8 seq ::
      BitVec.ofNat 8 payload.length :: payload) := by
  simp [frameOf, u8_eq]

theorem toNat_byte {v : Nat} (h : v < 256) : (BitVec.ofNat 8 v).toNat = v := by
  rw [BitVec.toNat_ofNat]
  exact Nat.mod_eq_of_lt h

end Sys2Proof.Machine
end

section
/-! THEOREMS. The frames the part forms. -/

namespace Sys2Proof.Machine

/-- Settles O51: the five header bytes and the payload are whole, and the check sum stands behind them. -/
theorem formedFramesAreGoodFrames : Obligations.FormedFramesAreGoodFrames := by
  intro dest source kind seq payload hd hs hk hq hl
  dsimp only
  rw [frameOf_eq]
  have len : (BitVec.ofNat 8 payload.length).toNat = payload.length := toNat_byte (by omega)
  have src : (BitVec.ofNat 8 source).toNat = source := toNat_byte (by omega)
  have sq : (BitVec.ofNat 8 seq).toNat = seq := toNat_byte (by omega)
  have whole : Whole (BitVec.ofNat 8 dest :: BitVec.ofNat 8 source :: BitVec.ofNat 8 kind :: BitVec.ofNat 8 seq ::
      BitVec.ofNat 8 payload.length :: payload) := by
    show payload.length + 5 = 5 + (BitVec.ofNat 8 payload.length).toNat
    omega
  have seqByte := whole.header (k := 3) (by decide)
  refine ⟨whole.goodFrame (len.trans_le hl) (src.trans_le hs), ?_, ?_, ?_, ?_, ?_, ?_, whole.payloadOf⟩
  · exact (whole.header (by decide)).trans (toNat_byte hd)
  · exact (whole.header (by decide)).trans src
  · exact (whole.header (by decide)).trans (toNat_byte hk)
  · exact seqByte.trans sq
  · exact (congrArg (· % 16) (seqByte.trans sq)).trans (Nat.mod_eq_of_lt hq)
  · exact whole.lengthOf.trans len

end Sys2Proof.Machine
end

section
/-! SUPPORT. The arrival of a frame, case by case (R1 to R3, R5 to R7, R9, R10). -/

namespace Sys2Proof.Machine

section
variable {frame : List Byte} {s : State}

/-! ### Line In -/

theorem lineActivity_eq (s : State) : lineActivity s =
    if s.line.up then { s with line.silenceTimer := some 100 }
    else { s with
      line.up := true, line.silenceTimer := some 100, line.wakeTimer := none, line.wakePending := false
      handed := s.handed ++
        [.noticeOffer .lineUp 0 (min (s.timeBase - s.line.downSince) 2147483647 : Nat)] } := rfl

theorem arrive_released (h : s.line.relay = false) : arrive frame s = s := by
  simp [arrive, h]

theorem arrive_bad (hr : s.line.relay = true) (hg : goodFrame frame = false) :
    arrive frame s = { s with line.lineErrors := min (s.line.lineErrors + 1) 65535 } := by
  simp [arrive, hr, hg, countUp]

theorem arrive_good (hr : s.line.relay = true) (hg : goodFrame frame = true) :
    arrive frame s = takeGood frame (lineActivity s) := by
  simp [arrive, hr, hg]

theorem lineActivity_own (s : State) : (lineActivity s).line.own = s.line.own := (lineActivity_outKept s).own

theorem lineActivity_forward (s : State) : (lineActivity s).line.forward = s.line.forward :=
  (lineActivity_outKept s).forward

theorem lineActivity_nodes (s : State) : (lineActivity s).line.nodes = s.line.nodes := by
  unfold lineActivity
  split <;> rfl

theorem nodeRec_lineActivity (s : State) (node : Nat) : nodeRec (lineActivity s).line node = nodeRec s.line node := by
  rw [nodeRec, nodeRec, lineActivity_nodes]

theorem arrive_own (hr : s.line.relay = true) (hg : goodFrame frame = true) (ho : sourceOf frame = s.line.own) :
    arrive frame s = lineActivity s := by
  rw [arrive_good hr hg, takeGood, lineActivity_own, if_pos ho]

/-! ### The Forward Buffer -/

theorem overrun_eq (s : State) : overrun s = { s with
    line.overruns := min (s.line.overruns + 1) 65535
    line.overrunArmed := false
    handed := s.handed ++ if s.line.overrunArmed then
      [.noticeOffer .forwardOverrun 0 (min (s.line.overruns + 1) 65535 : Nat)] else [] } := by
  unfold overrun
  dsimp only
  split
  · rfl
  · next ha =>
    have off : s.line.overrunArmed = false := by simpa using ha
    rw [List.append_nil, ← off]
    rfl

theorem admitted_of_room (h : s.line.forward.length < 4) : admitted frame s = forwardFrame frame s := if_pos h

theorem admitted_of_full (h : 4 ≤ s.line.forward.length) : admitted frame s = overrun s := by
  rw [overrun_eq]
  exact if_neg (Nat.not_lt.2 h)

theorem admitted_eq : admitted frame s = if forwardFull s then overrun s else forwardFrame frame s := by
  split
  · next hf => exact admitted_of_full ((forwardFull_iff s).1 hf)
  · next hf => exact admitted_of_room (by simpa [forwardFull_iff] using hf)

theorem knownKind_iff {k : Nat} : knownKind k = true ↔ 1 ≤ k ∧ k ≤ 7 := by
  rw [knownKind, Bool.and_eq_true, decide_eq_true_iff, decide_eq_true_iff]

/-- R1: a good frame of an unknown kind. -/
theorem arrive_unread (hr : s.line.relay = true) (hg : goodFrame frame = true) (ho : sourceOf frame ≠ s.line.own)
    (hk : kindOf frame = 0 ∨ 7 < kindOf frame) : arrive frame s = admitted frame (lineActivity s) := by
  have unknown : ¬knownKind (kindOf frame) = true := by
    rw [knownKind_iff]
    omega
  rw [arrive_good hr hg, takeGood, lineActivity_own, if_neg ho, if_neg unknown, admitted_eq]
  rfl

/-! ### Frames from other nodes -/

theorem isDuplicate_iff : isDuplicate (nodeRec s.line (sourceOf frame)) (seqOf frame) = true ↔ IsRepeat frame s := by
  unfold isDuplicate IsRepeat
  rw [Bool.and_eq_true, decide_eq_true_iff]

/-- R3, R5: a frame of the seven kinds from another node is dispatched from the state in which it is noted. -/
theorem FromOther.arrive (h : FromOther frame s) :
    arrive frame s = dispatch frame (isDuplicate (nodeRec s.line (sourceOf frame)) (seqOf frame)) (noted frame s) := by
  rw [arrive_good h.inRing h.good, takeGood, lineActivity_own, if_neg h.other, if_pos (knownKind_iff.2 h.kind)]
  unfold takeKnown noted
  rw [nodeRec_lineActivity]

theorem exec_frameArrival (h : s.line.held = false) : exec (.frameArrival frame) s = .next (arbitrate (arrive frame s)) := by
  rw [exec_event (.frameArrival frame), perform_awake s _ h]

theorem noted_own : (noted frame s).line.own = s.line.own := lineActivity_own s

theorem noted_forward : (noted frame s).line.forward = s.line.forward := lineActivity_forward s

/-- R3: one that is not for the Request Stage is forwarded. -/
theorem FromOther.arrive_forwarded (h : FromOther frame s) (hm : ¬ManagesPart frame s) : Machine.arrive frame s =
    dispatchForward frame (isDuplicate (nodeRec s.line (sourceOf frame)) (seqOf frame)) (noted frame s) := by
  rw [h.arrive, dispatch, noted_own]
  exact if_neg hm

/-- A frame that is neither a SAMPLE nor a COMMAND of a legal length is forwarded as it is (R3, R9). -/
theorem dispatchForward_unchanged {dup : Bool} (hs : kindOf frame = 1 → sampleLength (lengthOf frame) = false)
    (hc : kindOf frame = 2 → commandLength (lengthOf frame) = false) :
    dispatchForward frame dup s = admitted frame s := by
  have noSample : ¬(kindOf frame = kindSample ∧ sampleLength (lengthOf frame) = true) := fun ⟨hk, hl⟩ => by
    rw [hs hk] at hl
    cases hl
  have noCommand : ¬(kindOf frame = kindCommand ∧ commandLength (lengthOf frame) = true) := fun ⟨hk, hl⟩ => by
    rw [hc hk] at hl
    cases hl
  rw [dispatchForward, if_neg noSample, if_neg noCommand, admitted_eq]

theorem dispatchForward_full {dup : Bool} (h : 4 ≤ s.line.forward.length) :
    dispatchForward frame dup s = admitted frame s := by
  rw [admitted_of_full h]
  exact if_pos ((forwardFull_iff s).2 h)

/-- R6: a SAMPLE frame with room hands its entries on, unless it is a duplicate, and is forwarded. -/
theorem dispatchForward_sample {dup : Bool} (hk : kindOf frame = 1) (hl : sampleLength (lengthOf frame) = true)
    (h : s.line.forward.length < 4) : dispatchForward frame dup s =
      admitted frame (if dup then s else sampleEntries (sourceOf frame) (payloadOf frame) s) := by
  have room : ¬forwardFull s = true := by
    rw [forwardFull_iff]
    omega
  have line : (if dup then s else sampleEntries (sourceOf frame) (payloadOf frame) s).line = s.line := by
    split <;> simp
  rw [admitted_of_room (by rwa [line]), dispatchForward, if_neg room, if_pos ⟨hk, hl⟩, passSample]

/-- R24: the entries of a SAMPLE payload, one after the other (chapter 11.2). -/
theorem sampleEntries_cons (source : Nat) (b hi lo : Byte) (rest : List Byte) (s : State) :
    sampleEntries source (b :: hi :: lo :: rest) s = sampleEntries source rest
      (sampleEntry source (b.toNat % 16) (decide (128 ≤ b.toNat)) (256 * hi.toNat + lo.toNat) s) := by
  rw [sampleEntries, getLsbD_seven, Nat.mul_comm]

end

end Sys2Proof.Machine
end

section
/-! THEOREMS. The frames that arrive. -/

namespace Sys2Proof.Machine

/-- Settles O7. -/
theorem framesAreTestedAndForwarded : Obligations.FramesAreTestedAndForwarded := by
  refine ⟨goodFrame_iff, fun source s => ⟨rfl, fun b hi lo rest => sampleEntries_cons source b hi lo rest s⟩, ?_,
    lineActivity_eq, ?_, ?_⟩
  · intro s frame hh hr
    rw [exec_frameArrival hh, arrive_released hr]
  · intro s frame hh hr
    refine ⟨fun hg => ?_, fun hg ho => ?_, fun hg ho hk => ?_⟩
    · rw [exec_frameArrival hh, arrive_bad hr hg]
    · rw [exec_frameArrival hh, arrive_own hr hg ho]
    · rw [exec_frameArrival hh, arrive_unread hr hg ho hk]
  · intro s frame h hm
    rw [exec_frameArrival h.awake, h.arrive_forwarded hm]
    refine ⟨fun hf => ?_, fun hs hc => ?_, fun hk hl hf => ?_⟩
    · rw [dispatchForward_full (by rwa [noted_forward])]
    · rw [dispatchForward_unchanged hs hc]
    · rw [dispatchForward_sample hk hl (by rwa [noted_forward])]
      refine ⟨fun hd => ?_, fun hd => ?_⟩
      · rw [if_pos (isDuplicate_iff.2 hd)]
      · rw [if_neg (mt isDuplicate_iff.1 hd)]

end Sys2Proof.Machine
end

section
/-! SUPPORT. The Node Table under an arrival (R5), and the answers of requests, said from what their owner answers. -/

namespace Sys2Proof.Machine

/-! ### The Node Table -/

section
variable {s : State}

/-- The number of a node is the index of its record. -/
theorem ofNat_node (n : Fin 64) : Fin.ofNat 64 n.val = n := Fin.ext (Nat.mod_eq_of_lt n.isLt)

theorem nodeRec_index (u : LineInterface) (n : Fin 64) : nodeRec u n.val = u.nodes[n] :=
  congrArg (fun i : Fin 64 => u.nodes[i]) (ofNat_node n)

theorem setNode_index (n : Fin 64) (r : NodeRec) (s : State) :
    setNode n.val r s = { s with line.nodes := s.line.nodes.set n r } :=
  congrArg (fun i : Fin 64 => { s with line.nodes := s.line.nodes.set i r }) (ofNat_node n)

theorem nodeRec_setNode_same (node : Nat) (r : NodeRec) : nodeRec (setNode node r s).line node = r := getElem_set_same

theorem nodes_setNode_other {node : Nat} (r : NodeRec) {i : Fin 64} (h : i.val ≠ node) (hn : node < 64) :
    (setNode node r s).line.nodes[i] = s.line.nodes[i] := by
  refine getElem_set_other fun e => h ?_
  rw [e]
  exact Nat.mod_eq_of_lt hn

theorem dispatchForward_nodes (frame : List Byte) (dup : Bool) (s : State) :
    (dispatchForward frame dup s).line.nodes = s.line.nodes := by
  unfold dispatchForward
  split
  · unfold overrun
    dsimp only
    split <;> rfl
  · split
    · unfold passSample
      cases dup <;> simp
    · split
      · simp [passCommand]
      · rfl

theorem offerRequest_nodes (source : Nat) (payload : List Byte) (s : State) :
    (offerRequest source payload s).line.nodes = s.line.nodes :=
  offerRequest_keeps (P := fun t => t.line.nodes = s.line.nodes) (fun _ _ => rfl) rfl
    (fun _ _ _ => by rw [placeReply_line]) (fun _ _ _ => by simp)

theorem dispatch_nodes (frame : List Byte) (dup : Bool) (s : State) :
    (dispatch frame dup s).line.nodes = s.line.nodes := by
  unfold dispatch
  split
  · split
    · rfl
    · exact offerRequest_nodes _ _ s
  · exact dispatchForward_nodes _ _ s

/-- R5: an arrival from another node leaves the Node Table as its sequence test does. -/
theorem FromOther.arrive_nodes {frame : List Byte} (h : FromOther frame s) :
    (arbitrate (Machine.arrive frame s)).line.nodes = (noted frame s).line.nodes := by
  rw [(arbitrate_line _).2.2.2.2.2.1, h.arrive, dispatch_nodes]

theorem seqOf_lt (frame : List Byte) : seqOf frame < 16 := Nat.mod_lt _ (by decide)

/-- R5: what a frame that follows another adds to the missed count is the gap, modulo 16. -/
theorem missedBy_eq {last seq : Nat} (hl : last < 16) (hs : seq < 16) :
    missedBy last seq = (((seq : Int) - last - 1) % 16).toNat := by
  unfold missedBy
  omega

end

theorem testedNode_unseen {r : NodeRec} {seq : Nat} (h : r.seen = false) :
    testedNode r seq = { r with seen := true, last := seq } := by
  simp [testedNode, h]

theorem testedNode_repeat {r : NodeRec} {seq : Nat} (h : r.seen = true) (hs : seq = r.last) :
    testedNode r seq = { r with dup := min (r.dup + 1) 65535 } := by
  simp [testedNode, h, hs, countUp]

theorem testedNode_next {r : NodeRec} {seq : Nat} (h : r.seen = true) (hs : seq ≠ r.last) :
    testedNode r seq = { r with missed := min (r.missed + missedBy r.last seq) 65535, last := seq } := by
  simp [testedNode, h, hs, countUp]

/-! ### Answers -/

section
variable {r : Req} {slot : SlotIx} {q : Request} {s : State} (h : CanTake r slot q s)
include h

/-- A request taken is answered as its owner answers it. -/
theorem CanTake.exec_eq {status : Status} {results : List Byte} {t : State}
    (ha : answerOf r q.args (taken r slot s) = ⟨status, results, t⟩) :
    exec (takeCommand r slot) s = .next (answered r slot q status results t) := by
  rw [exec_of_canTake h, ha]

/-- A request its owner refuses is answered, and nothing else changes (R177). -/
theorem CanTake.answersOnly {status : Status}
    (ha : answerOf r q.args (taken r slot s) = refuse status (taken r slot s)) : AnswersOnly r slot q status s :=
  h.exec_eq ha

end

/-! ### READ_NODE (R181) -/

theorem readNode_of_lt {args : List Byte} {n : Fin 64} (s : State) (h : byteAt args 0 = n.val) :
    readNode args s = doneWith (nodeBytes s n.val) s := by
  have small : ¬63 < n.val := by omega
  rw [readNode, h]
  exact if_neg small

theorem nodeBytes_eq (s : State) (n : Fin 64) : nodeBytes s n.val =
    u8 (if s.line.nodes[n].seen then 1 else 0) ++ u8 s.line.nodes[n].last ++ u16 s.line.nodes[n].missed ++
      u16 s.line.nodes[n].dup ++ u8 (rightsCode s.line.nodes[n].rights) ++
      u8 ((if n.val = s.line.own then 1 else 0) + if n.val = s.line.controller then 2 else 0) := by
  simp only [nodeBytes, nodeRec_index, bit, decide_eq_true_iff, Nat.pow_zero, Nat.pow_one]

end Sys2Proof.Machine
end

section
/-! THEOREMS. The sequence test. -/

namespace Sys2Proof.Machine

/-- Settles O8. -/
theorem sequenceTestKeepsTheNodeRecord : Obligations.SequenceTestKeepsTheNodeRecord := by
  refine ⟨fun s frame h => ?_, fun slot q s h hn => ?_, fun slot q s n h hn => ?_⟩
  · have source : sourceOf frame < 64 := Nat.lt_succ_of_le (Nat.le_succ_of_le (sourceOf_le h.good))
    have nodes := h.arrive_nodes
    have tested : nodeRec (arbitrate (arrive frame s)).line (sourceOf frame) =
        testedNode (nodeRec s.line (sourceOf frame)) (seqOf frame) := by
      rw [nodeRec, nodes]
      exact nodeRec_setNode_same _ _
    refine ⟨_, exec_frameArrival h.awake, fun hs => ?_, fun hs hq => ?_, fun hs hq hl => ?_, fun i hi => ?_⟩
    · rw [tested, testedNode_unseen hs]
    · rw [tested, testedNode_repeat hs hq]
    · rw [tested, testedNode_next hs hq, missedBy_eq hl (seqOf_lt frame)]
    · rw [nodes, noted, nodes_setNode_other _ hi source, lineActivity_nodes]
  · exact h.answersOnly (if_pos hn)
  · refine h.exec_eq (results := _) ?_
    exact (readNode_of_lt (taken .readNode slot s) hn).trans (congrArg (doneWith · _) (nodeBytes_eq _ n))

end Sys2Proof.Machine
end

section
/-! SUPPORT. The Command Queue under one command, the arbiter's table (R11, R15), and the STATUS payload (R190). -/

namespace Sys2Proof.Machine

/-! ### The Command Queue (R11) -/

theorem any_isCommandFor {a : ActAddr} {q : List QueueEntry} :
    q.any (isCommandFor a) = true ↔ ∃ w, QueueEntry.actuator a w ∈ q := by
  rw [List.any_eq_true]
  constructor
  · rintro ⟨e, he, hc⟩
    obtain ⟨w, rfl⟩ := isCommandFor_iff.1 hc
    exact ⟨w, he⟩
  · rintro ⟨w, hw⟩
    exact ⟨_, hw, isCommandFor_iff.2 ⟨w, rfl⟩⟩

/-- R11: with none pending for its address a command enters at the tail. -/
theorem enqueueCommand_new {a : ActAddr} {q : List QueueEntry} (h : ∀ w, .actuator a w ∉ q) (v : Nat) :
    enqueueCommand a v q = q ++ [.actuator a v] := by
  refine if_neg fun hq => ?_
  obtain ⟨w, hw⟩ := any_isCommandFor.1 hq
  exact h w hw

theorem replaceCommand_absent {a : ActAddr} {q : List QueueEntry} (h : ∀ w, .actuator a w ∉ q) (v : Nat) :
    replaceCommand a v q = q := by
  have kept : ∀ e ∈ q, (if isCommandFor a e then .actuator a v else e) = id e := fun e he => if_neg fun hc => by
    obtain ⟨w, rfl⟩ := isCommandFor_iff.1 hc
    exact h w he
  exact (List.map_congr_left kept).trans (List.map_id q)

/-- R11: the value of the one pending for its address is replaced in place. -/
theorem enqueueCommand_pending {a : ActAddr} {w : Nat} {before rest : List QueueEntry}
    (h : ∀ x, .actuator a x ∉ before ++ rest) (v : Nat) :
    enqueueCommand a v (before ++ .actuator a w :: rest) = before ++ .actuator a v :: rest := by
  have found : (before ++ .actuator a w :: rest).any (isCommandFor a) = true :=
    any_isCommandFor.2 ⟨w, by simp⟩
  have hb : ∀ x, .actuator a x ∉ before := fun x hx => h x (List.mem_append_left _ hx)
  have hr : ∀ x, .actuator a x ∉ rest := fun x hx => h x (List.mem_append_right _ hx)
  have here : isCommandFor a (.actuator a w) = true := isCommandFor_iff.2 ⟨w, rfl⟩
  rw [enqueueCommand, if_pos found]
  calc replaceCommand a v (before ++ .actuator a w :: rest)
    _ = replaceCommand a v before ++ .actuator a v :: replaceCommand a v rest := by
      simp [replaceCommand, here]
    _ = before ++ .actuator a v :: rest := by rw [replaceCommand_absent hb, replaceCommand_absent hr]

/-! ### The arbiter's table (R15) -/

theorem otherWaiting_iff {s : State} :
    otherWaiting s = true ↔ s.line.queue ≠ [] ∨ s.notices.queue ≠ [] ∨ s.notices.status ≠ none := by
  simp [otherWaiting, Option.isSome_iff_ne_none, or_assoc]

section
variable {s : State}

theorem arbitrate_forward_alone {f : List Byte} {rest : List (List Byte)} (h : s.line.sending = none)
    (hf : s.line.forward = f :: rest) (ho : otherWaiting s = false) : arbitrate s = sendForwarded f rest 0 s := by
  rw [arbitrate_idle s h, chooseFrame, hf]
  simp [ho]

theorem arbitrate_forward_run {f : List Byte} {rest : List (List Byte)} (h : s.line.sending = none)
    (hf : s.line.forward = f :: rest) (ho : otherWaiting s = true) (hr : s.line.runCount < 4) :
    arbitrate s = sendForwarded f rest (s.line.runCount + 1) s := by
  rw [arbitrate_idle s h, chooseFrame, hf]
  simp [ho, hr, Config.runLimit]

/-- The other sources send where the Forward Buffer is empty or has sent four frames in a row. -/
theorem arbitrate_other (h : s.line.sending = none) (ho : otherWaiting s = true)
    (hf : s.line.forward = [] ∨ 4 ≤ s.line.runCount) :
    arbitrate s = sendOther { s with line.runCount := 0 } := by
  rw [arbitrate_idle s h, chooseFrame]
  split
  · next hq =>
    have hr : ¬s.line.runCount < 4 := Nat.not_lt.2 (hf.resolve_left (by simp [hq]))
    simp [ho, hr, Config.runLimit]
  · rw [if_pos ho]

theorem arbitrate_wake (h : s.line.sending = none) (ho : otherWaiting s = false) (hf : s.line.forward = []) :
    arbitrate s = if s.line.wakePending then sendWake s else s := by
  rw [arbitrate_idle s h, chooseFrame, hf]
  simp [ho]

section
variable (idle : s.line.sending = none) (turn : s.line.forward = [] ∨ 4 ≤ s.line.runCount)
include idle turn

theorem arbitrate_entry {e : QueueEntry} {rest : List QueueEntry} (hq : s.line.queue = e :: rest) :
    arbitrate s = sendEntry e rest { s with line.runCount := 0 } := by
  rw [arbitrate_other idle (otherWaiting_iff.2 (.inl (by simp [hq]))) turn, sendOther]
  dsimp only
  rw [hq]

theorem arbitrate_notice {n : Notice} {rest : List Notice} (hq : s.line.queue = [])
    (hn : s.notices.queue = n :: rest) : arbitrate s =
      beginOwn .notice s.line.controller kindNotice (noticePayload n)
        { s with line.runCount := 0, notices.queue := rest } := by
  rw [arbitrate_other idle (otherWaiting_iff.2 (.inr (.inl (by simp [hn])))) turn, sendOther]
  dsimp only
  rw [hq]
  dsimp only
  rw [hn]

theorem arbitrate_status {p : List Byte} (hq : s.line.queue = []) (hn : s.notices.queue = [])
    (hp : s.notices.status = some p) : arbitrate s =
      beginOwn .status Config.broadcast kindStatus p { s with line.runCount := 0, notices.status := none } := by
  rw [arbitrate_other idle (otherWaiting_iff.2 (.inr (.inr (by simp [hp])))) turn, sendOther]
  dsimp only
  rw [hq]
  dsimp only
  rw [hn]
  dsimp only
  rw [hp]

end

end

/-! ### The timers of the line (R7, R8, R16) -/

section
variable {s : State}

theorem silenceExpiry_running (hu : s.line.up = true) (ht : s.line.silenceTimer ≠ none) :
    silenceExpiry s = { s with
      line.up := false, line.silenceTimer := none, line.wakeTimer := some 10, line.downSince := s.timeBase
      handed := s.handed ++ [.noticeOffer .lineDown 0 (s.line.lineErrors : Nat)] } := by
  obtain ⟨n, hn⟩ := Option.ne_none_iff_exists'.1 ht
  rw [silenceExpiry, hu, hn]
  rfl

theorem wakeExpiry_running (hu : s.line.up = false) (ht : s.line.wakeTimer ≠ none) :
    wakeExpiry s = { s with line.wakePending := true, line.wakeTimer := some 10 } := by
  obtain ⟨n, hn⟩ := Option.ne_none_iff_exists'.1 ht
  rw [wakeExpiry, hu, hn]
  rfl

theorem statusPeriod_pending (ht : s.line.statusTimer ≠ none) (hp : s.notices.status ≠ none) :
    statusPeriod s = { s with line.statusTimer := some 1000 } := by
  obtain ⟨n, hn⟩ := Option.ne_none_iff_exists'.1 ht
  obtain ⟨p, hp⟩ := Option.ne_none_iff_exists'.1 hp
  rw [statusPeriod, hn]
  dsimp only
  split
  · rfl
  · next h => exact absurd (hp.symm.trans h) nofun

theorem statusPeriod_free (ht : s.line.statusTimer ≠ none) (hp : s.notices.status = none) :
    statusPeriod s = { s with line.statusTimer := some 1000, notices.status := some (statusPayload s) } := by
  obtain ⟨n, hn⟩ := Option.ne_none_iff_exists'.1 ht
  rw [statusPeriod, hn]
  dsimp only
  split
  · next h => exact absurd (hp.symm.trans h) nofun
  · rfl

end

/-! ### The STATUS payload (R190) -/

theorem modeCode_lt (m : Mode) : modeCode m < 4 := by cases m <;> decide

theorem fogCode_lt (f : FogState) : fogCode f < 4 := by cases f <;> decide

/-- The fourteen bytes of a STATUS frame, field by field. -/
theorem statusPayload_fields (s : State) : (statusPayload s).length = 14 ∧
    byteAt (statusPayload s) 0 = modeCode s.mode.mode ∧
    byteAt (statusPayload s) 1 = fogCode (fogOf s .one) + 4 * fogCode (fogOf s .two) ∧
    byteAt (statusPayload s) 2 = (if covered s .one then 1 else 0) + (if covered s .two then 2 else 0) +
      (if s.line.up then 4 else 0) ∧
    byteAt (statusPayload s) 3 * 65536 + wordAt (statusPayload s) 4 = s.budget.usable % 16777216 ∧
    wordAt (statusPayload s) 6 = s.budget.allowance % 65536 ∧
    byteAt (statusPayload s) 8 * 65536 + wordAt (statusPayload s) 9 = s.scene.loadReported % 16777216 ∧
    byteAt (statusPayload s) 11 = s.scene.stepCounter % 256 ∧
    wordAt (statusPayload s) 12 = s.notices.overflow % 65536 := by
  have mode := modeCode_lt s.mode.mode
  have fog1 := fogCode_lt s.fog.sheet1.fog
  have fog2 := fogCode_lt s.fog.sheet2.fog
  have flags : bit 0 s.mode.cover1 + bit 1 s.mode.cover2 + bit 2 s.line.up < 256 := by
    unfold bit
    split <;> split <;> split <;> decide
  simp only [statusPayload, u8_eq, u16_eq, u24_eq, List.cons_append, List.nil_append, wordAt, byteAt_cons_zero,
    byteAt_cons_succ, BitVec.toNat_ofNat]
  have sheets : fogCode (fogOf s .one) + 4 * fogCode (fogOf s .two) =
      fogCode s.fog.sheet1.fog + 4 * fogCode s.fog.sheet2.fog := rfl
  have marks : (if covered s .one then 1 else 0) + (if covered s .two then 2 else 0) + (if s.line.up then 4 else 0) =
      bit 0 s.mode.cover1 + bit 1 s.mode.cover2 + bit 2 s.line.up := rfl
  refine ⟨rfl, ?_, ?_, ?_, ?_, ?_, ?_, trivial, ?_⟩
  all_goals omega

end Sys2Proof.Machine
end

section
/-! THEOREMS. Line Out and the timers of the line. -/

namespace Sys2Proof.Machine

/-- Settles O13: the queue, the arbiter's table, and the completion of a sending. -/
theorem commandQueueAndArbiterKeepTheirOrder : Obligations.CommandQueueAndArbiterKeepTheirOrder := by
  refine ⟨fun s a v => ⟨fun h => ?_, fun w before rest hq h => ?_⟩, fun s => ⟨arbitrate_busy s, fun idle => ?_, ?_⟩⟩
  · rw [queueCommand, enqueueCommand_new h]
  · rw [queueCommand, hq, enqueueCommand_pending h]
  · refine ⟨fun f rest hf => ⟨fun ho => ?_, fun ho hr => ?_⟩, fun hf => ⟨?_, ?_, ?_, ?_, ?_⟩, fun hf ho => ?_⟩
    · exact arbitrate_forward_alone idle hf (by simpa [← otherWaiting_iff] using ho)
    · exact arbitrate_forward_run idle hf (otherWaiting_iff.2 ho) hr
    · exact fun a v rest hq => arbitrate_entry idle hf hq
    · exact fun slot dest p restart rest hq => arbitrate_entry idle hf hq
    · exact fun dest p rest hq => arbitrate_entry idle hf hq
    · exact fun n rest hq hn => arbitrate_notice idle hf hq hn
    · exact fun p hq hn hp => arbitrate_status idle hf hq hn hp
    · exact arbitrate_wake idle (by simpa [← otherWaiting_iff] using ho) hf
  · intro awake f
    refine ⟨fun source hs plain => ?_, fun slot hs => ?_⟩
    · rw [exec_event .lineOutSendComplete, perform_awake s _ awake, completeSending_plain hs plain]
    · rw [exec_event .lineOutSendComplete, perform_awake s _ awake, completeSending_reply hs]
      rfl

/-- Settles O12. -/
theorem lineTimersExpire : Obligations.LineTimersExpire := by
  intro s awake
  refine ⟨fun hu ht => ?_, fun hu ht => ?_, fun ht hp => ?_, fun ht hp => ?_⟩
  · rw [exec_event .silenceTimerExpiry, perform_awake s _ awake, silenceExpiry_running hu ht]
  · rw [exec_event .wakeTimerExpiry, perform_awake s _ awake, wakeExpiry_running hu ht]
  · rw [exec_event .statusPeriodExpiry, perform_awake s _ awake, statusPeriod_pending ht hp]
  · obtain ⟨length, mode, fog, flags, usable, allowance, load, step, overflow⟩ := statusPayload_fields s
    refine ⟨statusPayload s, length, mode, fog, flags, usable, allowance, load, step, overflow, ?_⟩
    rw [exec_event .statusPeriodExpiry, perform_awake s _ awake, statusPeriod_free ht hp]

/-- Settles O5: the power-on values of each record, and the effect of RESET_ASSERTED. -/
theorem resetCommandsSetThePart : Obligations.ResetCommandsSetThePart := by
  refine ⟨fun own controller s => ⟨_, exec_powerOnReset own controller s, ?_⟩, exec_resetAsserted⟩
  refine ⟨rfl, rfl, rfl, rfl, ?_, rfl, rfl, rfl, rfl, rfl, rfl, ?_, rfl, rfl, rfl, rfl, rfl, rfl, rfl, rfl, rfl, rfl,
    powerOn_point own controller _, powerOn_consumer own controller _, rfl, ?_, ?_, powerOn_sheet own controller _,
    ?_, ?_, ?_, powerOn_zone own controller _, rfl, rfl, rfl, ?_, ?_, rfl, rfl, rfl, ?_, rfl, rfl, rfl, rfl, rfl, ?_, rfl, rfl,
    rfl, rfl, rfl⟩
  · show strapsValid own controller = true ↔ _
    rw [strapsValid, Bool.and_eq_true, Bool.and_eq_true, decide_eq_true_iff, decide_eq_true_iff, bne_iff_ne, and_assoc,
      ne_comm]
    rfl
  · intro i
    rw [powerOn_node]
    split <;> rfl
  · intro k
    simp [powerOnState, powerOnFog]
  · intro k
    simp [powerOnState, powerOnFog]
  · intro sh
    cases sh <;> rfl
  · intro f
    cases f <;> rfl
  · intro sh
    cases sh <;> rfl
  · intro i
    refine ⟨?_, powerOn_buffer own controller _ i⟩
    simp [powerOnState, powerOnScene, emptyScene]
  · intro i
    refine ⟨?_, powerOn_group own controller _ i⟩
    simp [powerOnState, powerOnScene]
  · intro m
    cases m <;> rfl
  · intro k
    have defined : noticeCode k - 1 < 13 := by cases k <;> decide
    show (BitVec.allOnes 13).getLsbD (noticeCode k - 1) = true
    rw [BitVec.getLsbD_allOnes]
    exact decide_eq_true defined

end Sys2Proof.Machine
end

section
/-! SUPPORT. The Management Responder's own requests (R178 to R180, R182). -/

namespace Sys2Proof.Machine

/-! ### READ_STATUS (R182) -/

/-- The result bytes of READ_STATUS, field by field (R195). -/
theorem statusBytes_fields (s : State) : (statusBytes s).length = 22 ∧ wordAt (statusBytes s) 0 = 3480 ∧
    byteAt (statusBytes s) 2 = 1 ∧ byteAt (statusBytes s) 3 = s.line.own % 256 ∧
    byteAt (statusBytes s) 4 = s.line.controller % 256 ∧ byteAt (statusBytes s) 5 = modeCode s.mode.mode ∧
    byteAt (statusBytes s) 6 = (if s.line.up then 1 else 0) ∧ wordAt (statusBytes s) 7 = s.line.lineErrors % 65536 ∧
    wordAt (statusBytes s) 9 = s.line.overruns % 65536 ∧ wordAt (statusBytes s) 11 = s.line.drops % 65536 ∧
    byteAt (statusBytes s) 13 = (if s.notices.causePower then 1 else 0) + (if s.notices.causeRestart then 2 else 0) +
      (if s.responder.frozen then 4 else 0) ∧
    wordAt (statusBytes s) 14 * 65536 + wordAt (statusBytes s) 16 = s.notices.seconds % 4294967296 ∧
    wordAt (statusBytes s) 18 = s.notices.mask.toNat ∧ wordAt (statusBytes s) 20 = s.notices.overflow % 65536 := by
  have mode := modeCode_lt s.mode.mode
  have mask := s.notices.mask.isLt
  have up : bit 0 s.line.up < 2 := by
    unfold bit
    split <;> decide
  have flags : bit 0 s.notices.causePower + bit 1 s.notices.causeRestart + bit 2 s.responder.frozen < 256 := by
    unfold bit
    split <;> split <;> split <;> decide
  have upMark : (if s.line.up then 1 else 0) = bit 0 s.line.up := rfl
  have marks : (if s.notices.causePower then 1 else 0) + (if s.notices.causeRestart then 2 else 0) +
      (if s.responder.frozen then 4 else 0) =
      bit 0 s.notices.causePower + bit 1 s.notices.causeRestart + bit 2 s.responder.frozen := rfl
  simp only [statusBytes, u8_eq, u16_eq, u32_eq, List.cons_append, List.nil_append, wordAt, byteAt_cons_zero,
    byteAt_cons_succ, BitVec.toNat_ofNat]
  refine ⟨rfl, rfl, rfl, trivial, trivial, ?_, ?_, ?_, ?_, ?_, ?_, ?_, ?_, ?_⟩
  all_goals omega

/-- R10, R182: READ_STATUS with CLEAR_CAUSE set or clear. -/
theorem readStatus_eq {args : List Byte} {clear : Bool} (h : byteAt args 0 = if clear then 1 else 0) (s : State) :
    readStatus args s = doneWith (statusBytes s)
      (let t := { s with line.overrunArmed := true }
       if clear = true ∧ s.responder.restartPending = false then
        { t with notices.causePower := false, notices.causeRestart := false }
       else t) := by
  cases clear with
  | false =>
    have h0 : byteAt args 0 = 0 := h
    rw [readStatus, h0]
    rfl
  | true =>
    have h1 : byteAt args 0 = 1 := h
    rw [readStatus, h1]
    cases hp : s.responder.restartPending <;> simp [clearCause, hp]

theorem readStatus_undefined {args : List Byte} (h : 1 < byteAt args 0) (s : State) :
    readStatus args s = refuse .range s := by
  unfold readStatus
  dsimp only
  split
  · omega
  · omega
  · rfl

/-! ### WRITE_RIGHTS (R179) -/

theorem rightsOf_eq (args : List Byte) : rightsOf (args.getD 1 0) =
    ⟨byteAt args 1 % 2 = 1, byteAt args 1 / 2 % 2 = 1, byteAt args 1 / 4 % 2 = 1, byteAt args 1 / 8 % 2 = 1⟩ := by
  have testBit (k : Nat) : (args.getD 1 0).getLsbD k = decide (byteAt args 1 / 2 ^ k % 2 = 1) :=
    Nat.testBit_eq_decide_div_mod_eq
  rw [rightsOf, testBit, testBit, testBit, testBit, Nat.pow_zero, Nat.div_one]
  rfl

theorem adminHeld_iff {u : LineInterface} :
    adminHeld u = true ↔ ∃ m : Fin 64, m.val ≤ 62 ∧ u.nodes[m].rights.admin = true := by
  unfold adminHeld
  rw [List.any_eq_true]
  constructor
  · rintro ⟨r, hr, ha⟩
    obtain ⟨k, hk, rfl⟩ := List.mem_take_iff_getElem.1 hr
    have small : k < 63 := by omega
    exact ⟨⟨k, by omega⟩, Nat.le_of_lt_succ small, by simpa using ha⟩
  · rintro ⟨m, hm, ha⟩
    refine ⟨u.nodes[m], List.mem_take_iff_getElem.2 ⟨m.val, ?_, ?_⟩, ha⟩
    · simpa using Nat.lt_succ_of_le hm
    · simp

/-- R179: some node holds ADMIN after the rights of one were replaced. -/
theorem adminHeld_setNode {s : State} {n : Fin 64} (r : NodeRec) (hn : n.val ≤ 62) :
    adminHeld (setNode n.val r s).line = true ↔
      r.rights.admin = true ∨ ∃ m : Fin 64, m ≠ n ∧ m.val ≤ 62 ∧ s.line.nodes[m].rights.admin = true := by
  rw [adminHeld_iff, setNode_index]
  constructor
  · rintro ⟨m, hm, ha⟩
    rcases Classical.em (m = n) with rfl | hmn
    · exact .inl ((congrArg (fun r : NodeRec => r.rights.admin) getElem_set_same).symm.trans ha)
    · exact .inr ⟨m, hmn, hm, (congrArg (fun r : NodeRec => r.rights.admin) (getElem_set_other hmn)).symm.trans ha⟩
  · rintro (ha | ⟨m, hmn, hm, ha⟩)
    · exact ⟨n, hn, (congrArg (fun r : NodeRec => r.rights.admin) getElem_set_same).trans ha⟩
    · exact ⟨m, hm, (congrArg (fun r : NodeRec => r.rights.admin) (getElem_set_other hmn)).trans ha⟩

section
variable {args : List Byte} {s : State} {n : Fin 64} (hn : byteAt args 0 = n.val) (hs : n.val ≤ 62)
  (ho : n.val ≠ s.line.own)
include hn hs ho

/-- R179: WRITE_RIGHTS of another node of the ring. -/
theorem writeRights_eq : writeRights args s =
    if s.responder.frozen then refuse .state s
    else if adminHeld (setRights n.val (rightsOf (args.getD 1 0)) s).line then
      done (setRights n.val (rightsOf (args.getD 1 0)) s)
    else refuse .conflict s := by
  have other : ¬(Config.lastNode < n.val ∨ n.val = s.line.own) := by
    rintro (h | h)
    · exact Nat.not_lt.2 hs h
    · exact ho h
  rw [writeRights, hn]
  exact if_neg other

theorem writeRights_frozen (hf : s.responder.frozen = true) : writeRights args s = refuse .state s := by
  rw [writeRights_eq hn hs ho, if_pos hf]

theorem writeRights_replaced (hf : s.responder.frozen = false) (ha : (rightsOf (args.getD 1 0)).admin = true ∨
      ∃ m : Fin 64, m ≠ n ∧ m.val ≤ 62 ∧ s.line.nodes[m].rights.admin = true) :
    writeRights args s = done { s with
      line.nodes := s.line.nodes.set n { s.line.nodes[n] with rights := rightsOf (args.getD 1 0) } } := by
  have held : adminHeld (setRights n.val (rightsOf (args.getD 1 0)) s).line = true := (adminHeld_setNode _ hs).2 ha
  rw [writeRights_eq hn hs ho, if_neg (by simp [hf]), if_pos held, setRights, setNode_index, nodeRec_index]

theorem writeRights_conflict (hf : s.responder.frozen = false) (ha : (rightsOf (args.getD 1 0)).admin = false)
    (hm : ∀ m : Fin 64, m ≠ n → m.val ≤ 62 → s.line.nodes[m].rights.admin = false) :
    writeRights args s = refuse .conflict s := by
  have none : ¬adminHeld (setRights n.val (rightsOf (args.getD 1 0)) s).line = true := by
    intro held
    rcases (adminHeld_setNode _ hs).1 held with h | ⟨m, hmn, hm62, h⟩
    · exact Bool.false_ne_true (ha.symm.trans h)
    · exact Bool.false_ne_true ((hm m hmn hm62).symm.trans h)
  rw [writeRights_eq hn hs ho, if_neg (by simp [hf]), if_neg none]

end

end Sys2Proof.Machine
end

section
/-! THEOREMS. The Management Responder's own requests. -/

namespace Sys2Proof.Machine

/-- Settles O48. -/
theorem responderRequestsAreAnswered : Obligations.ResponderRequestsAreAnswered := by
  refine ⟨fun slot q s => ⟨fun h hb => ?_, fun h hb => ?_⟩, fun slot q s clear h hb => ?_,
    fun slot q s n h hn hs ho => ?_, fun slot q s h => ⟨fun hf => ?_, fun hf => ?_⟩⟩
  · exact h.answersOnly (readStatus_undefined hb _)
  · exact h.answersOnly (if_pos hb)
  · obtain ⟨length, model, revision, own, controller, mode, up, errors, overruns, drops, flags, seconds, mask,
      overflow⟩ := statusBytes_fields (taken .readStatus slot s)
    exact ⟨_, length, model, revision, own, controller, mode, up, errors, overruns, drops, flags, seconds, mask,
      overflow, h.exec_eq (readStatus_eq hb _)⟩
  · intro b rights
    have carried : rights = rightsOf (q.args.getD 1 0) := (rightsOf_eq q.args).symm
    rw [carried]
    refine ⟨fun hf => ?_, fun hf ha => ?_, fun hf ha hm => ?_⟩
    · exact h.answersOnly (writeRights_frozen hn hs ho hf)
    · exact h.exec_eq (writeRights_replaced hn hs ho hf ha)
    · exact h.answersOnly (writeRights_conflict hn hs ho hf ha hm)
  · exact h.exec_eq (if_neg (by simp [taken, hf]))
  · exact h.answersOnly (if_pos hf)

end Sys2Proof.Machine
end

section
/-! SUPPORT. The requests on zones (R101 to R103) and the check of their addresses (R17). -/

namespace Sys2Proof.Machine

/-! ### Index bytes -/

theorem indexOf_of_lt {n k : Nat} {i : Fin n} (h : k = i.val) : indexOf n k = some i := by
  subst h
  exact dif_pos i.isLt

theorem indexOf_of_ge {n k : Nat} (h : n ≤ k) : indexOf n k = none := dif_neg (Nat.not_lt.2 h)

/-! ### The addresses of a zone (R17) -/

section
variable {s : State} {i : ZoneIx} {d : ZoneDef}

theorem mineZone_iff {o : ActOwner} : mineZone i o = true ↔ o = .zoneValve i ∨ o = .zoneBoost i := by
  cases o <;> simp [mineZone]

/-- The addresses that a zone's own record may hold. -/
abbrev ofZone (i : ZoneIx) (o : ActOwner) : Prop := o = .zoneValve i ∨ o = .zoneBoost i

theorem checkAddr_zone_taken {a : ActAddr} (h : AddrTaken s (ofZone i) a) :
    checkAddr s (mineZone i) a = some .conflict := by
  obtain ⟨hf, held, hm⟩ := h
  exact checkAddr_of_taken ⟨hf, held, fun o ho h => hm o ho (mineZone_iff.1 h)⟩

theorem checkAddr_zone_free {a : ActAddr} (h : AddrFree s (ofZone i) a) : checkAddr s (mineZone i) a = none := by
  obtain ⟨hf, hm⟩ := h
  exact checkAddr_of_free ⟨hf, fun o ho => mineZone_iff.2 (hm o ho)⟩

theorem checkZoneAddrs_valve {st : Status} (h : checkAddr s (mineZone i) d.valve = some st) :
    checkZoneAddrs i d s = some st := by
  rw [checkZoneAddrs, h]

theorem checkZoneAddrs_boost {a : ActAddr} {st : Status} (hv : AddrFree s (ofZone i) d.valve) (hb : d.boost = some a)
    (h : checkAddr s (mineZone i) a = some st) : checkZoneAddrs i d s = some st := by
  simp [checkZoneAddrs, checkAddr_zone_free hv, hb, h]

theorem checkZoneAddrs_same (hv : AddrFree s (ofZone i) d.valve) (hb : d.boost = some d.valve) :
    checkZoneAddrs i d s = some .conflict := by
  simp [checkZoneAddrs, checkAddr_zone_free hv, hb]

theorem checkZoneAddrs_free (h : ∀ a, a = d.valve ∨ d.boost = some a → AddrFree s (ofZone i) a)
    (hne : d.boost ≠ some d.valve) : checkZoneAddrs i d s = none := by
  refine checkZoneAddrs_eq_none.2 ⟨checkAddr_zone_free (h _ (.inl rfl)), fun b hb => ?_⟩
  exact ⟨checkAddr_zone_free (h b (.inr hb)), fun e => hne (e ▸ hb)⟩

/-! ### WRITE_ZONE (R101) -/

section
variable {args : List Byte} (hi : byteAt args 0 = i.val)
include hi

theorem writeZone_enabled (h : s.zones.zones[i].state = .enabled) : writeZone args s = refuse .state s := by
  rw [writeZone, indexOf_of_lt hi]
  exact if_pos h

section
variable (hs : s.zones.zones[i].state ≠ .enabled)
include hs

theorem writeZone_outOfRange (h : zoneArgs args = none) : writeZone args s = refuse .range s := by
  rw [writeZone, indexOf_of_lt hi]
  dsimp only
  rw [if_neg hs, h]

theorem writeZone_refused (ha : zoneArgs args = some d) {st : Status} (h : checkZoneAddrs i d s = some st) :
    writeZone args s = refuse st s := by
  rw [writeZone, indexOf_of_lt hi]
  dsimp only
  rw [if_neg hs, ha]
  dsimp only
  rw [h]

theorem writeZone_taken (ha : zoneArgs args = some d) (h : checkZoneAddrs i d s = none) :
    writeZone args s = done (loadZone i d s) := by
  rw [writeZone, indexOf_of_lt hi]
  dsimp only
  rw [if_neg hs, ha]
  dsimp only
  rw [h]

end

/-! ### ENABLE_ZONE and DISABLE_ZONE (R102, R103) -/

theorem enableZone_unused (h : s.zones.zones[i].state = .unused) : enableZone args s = refuse .state s := by
  rw [enableZone, indexOf_of_lt hi]
  dsimp only
  rw [h]

theorem enableZone_enabled (h : s.zones.zones[i].state = .enabled) : enableZone args s = done s := by
  rw [enableZone, indexOf_of_lt hi]
  dsimp only
  rw [h]

theorem enableZone_disabled (h : s.zones.zones[i].state = .disabled) : enableZone args s =
    done (hand .reallocationRequest (setZone i { s.zones.zones[i] with state := .enabled } s)) := by
  rw [enableZone, indexOf_of_lt hi]
  dsimp only
  rw [h]

theorem disableZone_unused (h : s.zones.zones[i].state = .unused) : disableZone args s = refuse .state s := by
  rw [disableZone, indexOf_of_lt hi]
  dsimp only
  rw [h]

theorem disableZone_disabled (h : s.zones.zones[i].state = .disabled) : disableZone args s = done s := by
  rw [disableZone, indexOf_of_lt hi]
  dsimp only
  rw [h]

theorem disableZone_enabled (h : s.zones.zones[i].state = .enabled) : disableZone args s =
    done (hand .reallocationRequest
      (setZone i (clearedZone s.zones.zones[i].defn .disabled s.zones.zones[i].fogCap) s)) := by
  rw [disableZone, indexOf_of_lt hi]
  dsimp only
  rw [h]

end

theorem writeZone_noIndex {args : List Byte} (h : 24 ≤ byteAt args 0) (s : State) :
    writeZone args s = refuse .range s := by
  rw [writeZone, indexOf_of_ge h]

theorem enableZone_noIndex {args : List Byte} (h : 24 ≤ byteAt args 0) (s : State) :
    enableZone args s = refuse .range s := by
  rw [enableZone, indexOf_of_ge h]

theorem disableZone_noIndex {args : List Byte} (h : 24 ≤ byteAt args 0) (s : State) :
    disableZone args s = refuse .range s := by
  rw [disableZone, indexOf_of_ge h]

/-! ### A zone loaded -/

theorem fogCapOf_eq (u : ZoneController) (d : ZoneDef) : fogCapOf u d =
    match d.sheet with
    | none => 1000
    | some sh => capOf (capSet u sh) d.ring := by
  unfold fogCapOf
  cases d.sheet with
  | none => rfl
  | some sh => cases sh <;> rfl

theorem mem_zoneAddrs_loaded {d : ZoneDef} {cap : Nat} {a : ActAddr} :
    a ∈ zoneAddrs (clearedZone d .disabled cap) ↔ a = d.valve ∨ d.boost = some a := by
  simp [zoneAddrs, clearedZone]

/-- R17: the commands a write of a zone drops are those for the addresses its record gives up. -/
theorem loadZone_queue (i : ZoneIx) (d : ZoneDef) (s : State) : (loadZone i d s).line.queue =
    s.line.queue.filter fun e => !((s.zones.zones[i].state != .unused) &&
      ((s.zones.zones[i].defn.valve :: s.zones.zones[i].defn.boost.toList).any fun a =>
        decide (a ≠ d.valve ∧ d.boost ≠ some a) && isCommandFor a e)) := by
  have kept (cap : Nat) (a : ActAddr) : (!(zoneAddrs (clearedZone d .disabled cap)).contains a) =
      decide (a ≠ d.valve ∧ d.boost ≠ some a) := by
    rw [Bool.eq_iff_iff, decide_eq_true_iff, Bool.not_eq_true', ← Bool.not_eq_true, List.contains_iff_mem,
      mem_zoneAddrs_loaded, not_or]
  refine List.filter_congr fun e _ => congrArg Bool.not ?_
  rw [List.any_filter]
  simp only [kept]
  unfold zoneAddrs
  split
  · next hu =>
    rw [hu]
    rfl
  · next hu => rw [bne_iff_ne.2 hu, Bool.true_and]

end

end Sys2Proof.Machine
end

section
/-! THEOREMS. The requests on zones. -/

namespace Sys2Proof.Machine

/-- Settles O34. -/
theorem zoneRequestsChangeTheZone : Obligations.ZoneRequestsChangeTheZone := by
  refine ⟨fun slot q s i d h hi hs hd free hne => ?_, fun slot q s i h hi hs => h.exec_eq (enableZone_disabled hi hs),
    fun slot q s i h hi hs => h.exec_eq (disableZone_enabled hi hs), fun slot q s => ⟨fun hn => ?_, fun i hi => ?_⟩⟩
  · have passes : checkZoneAddrs i d (taken .writeZone slot s) = none := by
      refine checkZoneAddrs_free (fun a ha => ?_) hne
      obtain ⟨own, last, only⟩ := free a ha
      exact ⟨fun hf => hf.elim own last, only⟩
    refine ⟨_, h.exec_eq (writeZone_taken hi hs hd passes), ?_, loadZone_queue i d (taken .writeZone slot s), rfl⟩
    exact congrArg (fun cap => { s.zones with zones := s.zones.zones.set i (clearedZone d .disabled cap) })
      (fogCapOf_eq s.zones d)
  · exact ⟨fun h => h.answersOnly (writeZone_noIndex hn _), fun h => h.answersOnly (enableZone_noIndex hn _),
      fun h => h.answersOnly (disableZone_noIndex hn _)⟩
  · refine ⟨fun hs => ⟨fun h => ?_, fun h => ?_⟩, fun hs => ⟨fun h => ?_, fun h => ?_⟩, fun hs h => ?_,
      fun hs hd h => ?_, fun d hs hd => ?_⟩
    · exact h.answersOnly (enableZone_unused hi hs)
    · exact h.answersOnly (disableZone_unused hi hs)
    · exact h.answersOnly (writeZone_enabled hi hs)
    · exact h.answersOnly (enableZone_enabled hi hs)
    · exact h.answersOnly (disableZone_disabled hi hs)
    · exact h.answersOnly (writeZone_outOfRange hi hs hd)
    · have refused {st : Status} (check : checkZoneAddrs i d s = some st) (h : CanTake .writeZone slot q s) :
          AnswersOnly .writeZone slot q st s :=
        h.answersOnly (writeZone_refused (s := taken .writeZone slot s) hi hs hd check)
      refine ⟨fun hf => ?_, fun ht => ?_, fun a hv hb => ⟨fun hf => ?_, fun ht => ?_, fun _ same => ?_⟩⟩
      · exact refused (checkZoneAddrs_valve (checkAddr_of_foreign _ hf))
      · exact refused (checkZoneAddrs_valve (checkAddr_zone_taken ht))
      · exact refused (checkZoneAddrs_boost hv hb (checkAddr_of_foreign _ hf))
      · exact refused (checkZoneAddrs_boost hv hb (checkAddr_zone_taken ht))
      · exact refused (checkZoneAddrs_same hv (same ▸ hb))

end Sys2Proof.Machine
end

section
/-! SUPPORT. One entry of a COMMAND frame, by the owner of its address (R18 to R20, R105, R115). -/

namespace Sys2Proof.Machine

section
variable {s : State} {dest channel : Nat}

theorem entryOwner_of_lt (h : dest < 63) : entryOwner s dest channel = ownerOf s ⟨dest, channel⟩ :=
  if_neg (Nat.not_le.2 h)

theorem entryOwner_eq_none (h : 63 ≤ dest ∨ ∀ o, ¬Owns s ⟨dest, channel⟩ o) : entryOwner s dest channel = none := by
  rcases Nat.lt_or_ge dest 63 with hd | hd
  · rw [entryOwner_of_lt hd]
    exact ownerOf_eq_none.2 (h.resolve_left (Nat.not_le.2 hd))
  · exact if_pos hd

/-- The one owner of an address below 63 is the owner of an entry for it. -/
theorem entryOwner_eq_some {o : ActOwner}
    (h : dest < 63 ∧ Owns s ⟨dest, channel⟩ o ∧ ∀ p, Owns s ⟨dest, channel⟩ p → p = o) :
    entryOwner s dest channel = some o := by
  obtain ⟨hd, ho, only⟩ := h
  rw [entryOwner_of_lt hd, ownerOf_eq_some ho only]

variable {dup : Bool} {v : Nat} {flag : Bool}

theorem passEntry_none (h : entryOwner s dest channel = none) : passEntry dest channel dup v flag s = ⟨v, flag, s⟩ := by
  rw [passEntry, h]

theorem passEntry_consumer {i : ConsumerIx} (h : entryOwner s dest channel = some (.consumer i)) :
    passEntry dest channel dup v flag s = passConsumer i dup v flag s := by
  rw [passEntry, h]

theorem passEntry_valve {i : ZoneIx} (h : entryOwner s dest channel = some (.zoneValve i)) :
    passEntry dest channel dup v flag s = passValve i dup v flag s := by
  rw [passEntry, h]

theorem passEntry_boost {i : ZoneIx} (h : entryOwner s dest channel = some (.zoneBoost i)) :
    passEntry dest channel dup v flag s = passBoost i dup v flag s := by
  rw [passEntry, h]

theorem passEntry_group {i : GroupIx} (h : entryOwner s dest channel = some (.group i)) :
    passEntry dest channel dup v flag s = passDimmer i v flag s := by
  rw [passEntry, h]

/-! ### Consumers (R19, R20) -/

section
variable {i : ConsumerIx}

theorem passConsumer_off (h : s.budget.consumers[i].state ≠ .enabled) :
    passConsumer i dup v flag s = ⟨v, flag, s⟩ := by
  unfold passConsumer
  dsimp only
  split
  · next he _ => exact absurd he h
  · next he _ => exact absurd he h
  all_goals rfl

theorem passConsumer_drive (h : s.budget.consumers[i].state = .enabled)
    (hd : s.budget.consumers[i].defn.handling = some .drive) :
    passConsumer i dup v flag s = ⟨s.budget.consumers[i].lastSent.getD 0, true, s⟩ := by
  rw [passConsumer, h, hd]

theorem passConsumer_govern (h : s.budget.consumers[i].state = .enabled)
    (hg : s.budget.consumers[i].defn.handling = some .govern) :
    passConsumer i dup v flag s = ⟨limited v 10000 s.budget.consumers[i].allowed,
      governedFlag v (limited v 10000 s.budget.consumers[i].allowed) flag, { s with
        budget.consumers := s.budget.consumers.set i (passedConsumer dup v s.budget.consumers[i]) }⟩ := by
  rw [passConsumer, h, hg]

end

/-! ### Zones (R105, R115) -/

section
variable {i : ZoneIx}

theorem passValve_off (h : s.zones.zones[i].state ≠ .enabled) : passValve i dup v flag s = ⟨v, flag, s⟩ := if_neg h

theorem passValve_on (h : s.zones.zones[i].state = .enabled) : passValve i dup v flag s =
    ⟨limited v 10000 s.zones.zones[i].allowed, governedFlag v (limited v 10000 s.zones.zones[i].allowed) flag,
      setZone i (passedValve dup v s.zones.zones[i]) s⟩ := if_pos h

theorem capLimit_eq (fogCap : Nat) : capLimit fogCap = 10 * fogCap := by
  unfold capLimit
  omega

theorem passedValve_eq (dup : Bool) (v : Nat) (z : Zone) : passedValve dup v z =
    if dup then { z with lastForwarded := min (min v 10000) z.allowed }
    else { z with
      lastForwarded := min (min v 10000) z.allowed, reqPosition := min v 10000
      capped := min (min v 10000) (10 * z.fogCap)
      demand := min (min v 10000) (10 * z.fogCap) * z.defn.design / 10000 } := by
  rw [← capLimit_eq]
  rfl

theorem passBoost_off (h : s.zones.zones[i].state ≠ .enabled) : passBoost i dup v flag s = ⟨v, flag, s⟩ := if_neg h

theorem passBoost_on (h : s.zones.zones[i].state = .enabled) : passBoost i dup v flag s =
    ⟨limited v s.zones.zones[i].defn.stageCount s.zones.zones[i].allowedStages,
      governedFlag v (limited v s.zones.zones[i].defn.stageCount s.zones.zones[i].allowedStages) flag,
      setZone i (passedBoost dup v s.zones.zones[i]) s⟩ := if_pos h

end

/-! ### Groups (R20) -/

theorem passDimmer_off {i : GroupIx} (h : s.scene.groups[i].state ≠ .enabled) :
    passDimmer i v flag s = ⟨v, flag, s⟩ := if_neg h

theorem passDimmer_on {i : GroupIx} (h : s.scene.groups[i].state = .enabled) :
    passDimmer i v flag s = ⟨s.scene.groups[i].level, true, s⟩ := if_pos h

end

end Sys2Proof.Machine
end

section
/-! THEOREMS. The entries of a COMMAND frame. -/

namespace Sys2Proof.Machine

/-- Settles O9, by the owner of the entry's address. -/
theorem commandEntriesFollowTheirOwners : Obligations.CommandEntriesFollowTheirOwners := by
  intro s dest channel dup v flag out mine
  refine ⟨fun h => passEntry_none (entryOwner_eq_none h), fun i h => ?_, fun i h => ?_, fun i h => ?_, fun i h => ?_⟩
  · have passed : out = passConsumer i dup v flag s := passEntry_consumer (entryOwner_eq_some h)
    rw [passed]
    refine ⟨passConsumer_off, fun hs hd => (passConsumer_drive hs hd).trans ?_, passConsumer_govern⟩
    cases s.budget.consumers[i].lastSent <;> rfl
  · have passed : out = passValve i dup v flag s := passEntry_valve (entryOwner_eq_some h)
    rw [passed]
    exact ⟨passValve_off, fun hs => (passValve_on hs).trans (by rw [passedValve_eq]; rfl)⟩
  · have passed : out = passBoost i dup v flag s := passEntry_boost (entryOwner_eq_some h)
    rw [passed]
    exact ⟨passBoost_off, passBoost_on⟩
  · have passed : out = passDimmer i v flag s := passEntry_group (entryOwner_eq_some h)
    rw [passed]
    exact ⟨passDimmer_off, passDimmer_on⟩

end Sys2Proof.Machine
end

section
/-! SUPPORT. The entries of a COMMAND payload one after the other: the states they leave, the bytes they leave in, and
what of the records and of the owners they keep (R18, R19). -/

namespace Sys2Proof.Machine

/-! ### What passing entries keep -/

/-- Of a consumer record the requested and the last forwarded value alone have changed. -/
def ConsumerPassed (c c' : Consumer) : Prop :=
  c' = { c with requested := c'.requested, lastForwarded := c'.lastForwarded }

/-- Of a zone record the requested and the last forwarded values alone have changed, and what follows from them. -/
def ZonePassed (z z' : Zone) : Prop :=
  z' = { z with
    reqPosition := z'.reqPosition, capped := z'.capped, demand := z'.demand, lastForwarded := z'.lastForwarded
    reqStages := z'.reqStages, lastStages := z'.lastStages }

/-- From s to t requested and last forwarded values have changed, with what follows from them, and nothing else. -/
structure RecordsPassed (s t : State) : Prop where
  consumers : ∀ i : ConsumerIx, ConsumerPassed s.budget.consumers[i] t.budget.consumers[i]
  zones : ∀ i : ZoneIx, ZonePassed s.zones.zones[i] t.zones.zones[i]
  rest : t = { s with budget.consumers := t.budget.consumers, zones.zones := t.zones.zones }

theorem RecordsPassed.refl (s : State) : RecordsPassed s s := ⟨fun _ => rfl, fun _ => rfl, rfl⟩

theorem ConsumerPassed.trans {c d e : Consumer} (h : ConsumerPassed c d) (k : ConsumerPassed d e) :
    ConsumerPassed c e := by
  unfold ConsumerPassed at *
  rw [k, h]

theorem ZonePassed.trans {c d e : Zone} (h : ZonePassed c d) (k : ZonePassed d e) : ZonePassed c e := by
  unfold ZonePassed at *
  rw [k, h]

theorem ConsumerPassed.consumerHolds {c d : Consumer} (h : ConsumerPassed c d) (a : ActAddr) :
    consumerHolds a d = consumerHolds a c := (congrArg (Machine.consumerHolds a) h).trans rfl

theorem ZonePassed.valveHolds {c d : Zone} (h : ZonePassed c d) (a : ActAddr) : valveHolds a d = valveHolds a c :=
  (congrArg (Machine.valveHolds a) h).trans rfl

theorem ZonePassed.boostHolds {c d : Zone} (h : ZonePassed c d) (a : ActAddr) : boostHolds a d = boostHolds a c :=
  (congrArg (Machine.boostHolds a) h).trans rfl

theorem RecordsPassed.trans {s t u : State} (h : RecordsPassed s t) (k : RecordsPassed t u) : RecordsPassed s u where
  consumers i := (h.consumers i).trans (k.consumers i)
  zones i := (h.zones i).trans (k.zones i)
  rest := by rw [k.rest, h.rest]

section
variable (s : State)

theorem setConsumer_passed {i : ConsumerIx} {c : Consumer} (h : ConsumerPassed s.budget.consumers[i] c) :
    RecordsPassed s (setConsumer i c s) :=
  ⟨forall_set (P := fun j c => ConsumerPassed s.budget.consumers[j] c) h fun _ => rfl, fun _ => rfl, rfl⟩

theorem setZone_passed {i : ZoneIx} {z : Zone} (h : ZonePassed s.zones.zones[i] z) : RecordsPassed s (setZone i z s) :=
  ⟨fun _ => rfl, forall_set (P := fun j z => ZonePassed s.zones.zones[j] z) h fun _ => rfl, rfl⟩

theorem passEntry_recordsPassed (dest channel : Nat) (dup : Bool) (v : Nat) (flag : Bool) :
    RecordsPassed s (passEntry dest channel dup v flag s).state := by
  unfold passEntry
  split
  · exact .refl s
  · next i _ =>
    unfold passConsumer
    dsimp only
    split
    · exact setConsumer_passed s rfl
    all_goals exact .refl s
  · next i _ =>
    unfold passValve
    dsimp only
    split
    · refine setZone_passed s ?_
      cases dup <;> rfl
    · exact .refl s
  · next i _ =>
    unfold passBoost
    dsimp only
    split
    · exact setZone_passed s rfl
    · exact .refl s
  · unfold passDimmer
    dsimp only
    split <;> exact .refl s

end

theorem indicesFrom_eq_map {α : Type} (p : α → Bool) (k : Nat) (as : List α) :
    indicesFrom p k as = indicesFrom id k (as.map p) := by
  induction as generalizing k with
  | nil => rfl
  | cons a as ih => simp [indicesFrom, ih]

/-- The lookup by a test depends on what the test says of each record. -/
theorem findIx_congr {α : Type} {n : Nat} {p : α → Bool} {v w : Vector α n} (h : ∀ i : Fin n, p v[i] = p w[i]) :
    findIx p v = findIx p w := by
  have same : v.map p = w.map p := Vector.ext fun i hi => by
    rw [Vector.getElem_map, Vector.getElem_map]
    exact h ⟨i, hi⟩
  have indices : indicesWhere p v = indicesWhere p w := by
    rw [indicesWhere, indicesWhere, indicesFrom_eq_map, indicesFrom_eq_map p 0 w.toList, ← Vector.toList_map,
      ← Vector.toList_map, same]
  unfold findIx
  rw [indices]

theorem RecordsPassed.ownerOf {s t : State} (h : RecordsPassed s t) (a : ActAddr) : ownerOf t a = ownerOf s a := by
  have consumers : findIx (consumerHolds a) t.budget.consumers = findIx (consumerHolds a) s.budget.consumers :=
    findIx_congr fun i => (h.consumers i).consumerHolds a
  have valves : findIx (valveHolds a) t.zones.zones = findIx (valveHolds a) s.zones.zones :=
    findIx_congr fun i => (h.zones i).valveHolds a
  have boosts : findIx (boostHolds a) t.zones.zones = findIx (boostHolds a) s.zones.zones :=
    findIx_congr fun i => (h.zones i).boostHolds a
  have groups : t.scene.groups = s.scene.groups := by rw [h.rest]
  unfold Machine.ownerOf
  rw [consumers, valves, boosts, groups]

theorem RecordsPassed.entryOwner {s t : State} (h : RecordsPassed s t) (dest channel : Nat) :
    entryOwner t dest channel = entryOwner s dest channel := by
  unfold Machine.entryOwner
  rw [h.ownerOf]

/-! ### The entries of a payload, in order -/

/-- The passing of the k-th entry of a payload. -/
def entryPassed (dest : Nat) (dup : Bool) (bs : List Byte) (k : Nat) (s : State) : Passed :=
  passEntry dest (byteAt bs (3 * k) % 16) dup (wordAt bs (3 * k + 1)) (decide (128 ≤ byteAt bs (3 * k))) s

/-- The state the first k entries of a payload leave. -/
def passedStates (dest : Nat) (dup : Bool) (bs : List Byte) (s : State) : Nat → State
  | 0 => s
  | k + 1 => (entryPassed dest dup bs k (passedStates dest dup bs s k)).state

section
variable {dest : Nat} {dup : Bool}

theorem passedStates_recordsPassed (bs : List Byte) (s : State) (k : Nat) :
    RecordsPassed s (passedStates dest dup bs s k) := by
  induction k with
  | zero => exact .refl s
  | succ k ih => exact ih.trans (passEntry_recordsPassed _ _ _ _ _ _)

/-- Behind the first entry a payload is the payload of the others. -/
theorem entryPassed_cons (b hi lo : Byte) (rest : List Byte) (k : Nat) (s : State) :
    entryPassed dest dup (b :: hi :: lo :: rest) (k + 1) s = entryPassed dest dup rest k s := rfl

theorem passedStates_cons (b hi lo : Byte) (rest : List Byte) (s : State) (k : Nat) :
    passedStates dest dup (b :: hi :: lo :: rest) s (k + 1) =
      passedStates dest dup rest (entryPassed dest dup (b :: hi :: lo :: rest) 0 s).state k := by
  induction k with
  | zero => rfl
  | succ k ih => rw [passedStates, ih, entryPassed_cons, passedStates]

theorem rewriteEntries_cons (b hi lo : Byte) (rest : List Byte) (s : State) :
    rewriteEntries dest dup (b :: hi :: lo :: rest) s =
      let p := entryPassed dest dup (b :: hi :: lo :: rest) 0 s
      let r := rewriteEntries dest dup rest p.state
      (flagByte b p.governed :: (u16 p.value ++ r.1), r.2) := by
  rw [rewriteEntries, getLsbD_seven]
  rfl

theorem length_rewriteEntries (bs : List Byte) (s : State) : (rewriteEntries dest dup bs s).1.length = bs.length := by
  fun_induction rewriteEntries dest dup bs s with
  | case1 b hi lo rest s p r ih => simp [u16_eq, r, ih]
  | case2 => rfl

theorem toNat_flagByte (b : Byte) (governed : Bool) :
    (flagByte b governed).toNat = b.toNat % 128 + if governed then 128 else 0 := by
  have small : b.toNat % 128 + bit 7 governed < 256 := by
    have low := Nat.mod_lt b.toNat (show 128 > 0 by decide)
    unfold bit
    split <;> omega
  exact toNat_byte small

/-- A payload of n entries: each leaves at the value and with the flag of its passing, and the last leaves the state. -/
theorem rewriteEntries_entries {n : Nat} {bs : List Byte} (h : bs.length = 3 * n) (s : State) :
    (rewriteEntries dest dup bs s).2 = passedStates dest dup bs s n ∧ ∀ k < n,
      byteAt (rewriteEntries dest dup bs s).1 (3 * k) = byteAt bs (3 * k) % 128 +
        (if (entryPassed dest dup bs k (passedStates dest dup bs s k)).governed then 128 else 0) ∧
      wordAt (rewriteEntries dest dup bs s).1 (3 * k + 1) =
        (entryPassed dest dup bs k (passedStates dest dup bs s k)).value % 65536 := by
  induction n generalizing bs s with
  | zero =>
    obtain rfl : bs = [] := List.length_eq_zero_iff.1 h
    exact ⟨rfl, fun k hk => absurd hk (Nat.not_lt_zero k)⟩
  | succ n ih =>
    obtain ⟨b, hi, lo, rest, rfl⟩ : ∃ b hi lo rest, bs = b :: hi :: lo :: rest := by
      match bs, h with
      | b :: hi :: lo :: rest, _ => exact ⟨b, hi, lo, rest, rfl⟩
      | [], h | [_], h | [_, _], h =>
        simp only [List.length_cons, List.length_nil] at h
        omega
    have length : rest.length = 3 * n := by
      simp only [List.length_cons] at h
      omega
    obtain ⟨state, entries⟩ := ih length (entryPassed dest dup (b :: hi :: lo :: rest) 0 s).state
    rw [rewriteEntries_cons]
    dsimp only
    refine ⟨state.trans (passedStates_cons ..).symm, fun k hk => ?_⟩
    cases k with
    | zero =>
      refine ⟨toNat_flagByte b _, ?_⟩
      rw [u16_eq]
      simp only [wordAt, List.cons_append, byteAt_cons_succ, Nat.mul_zero, Nat.zero_add, byteAt_cons_zero,
        BitVec.toNat_ofNat, passedStates]
      omega
    | succ k =>
      rw [passedStates_cons, entryPassed_cons]
      exact entries k (Nat.lt_of_succ_lt_succ hk)

end

end Sys2Proof.Machine
end

section
/-! SUPPORT. A COMMAND frame as it is forwarded: the rewritten payload behind the header that arrived (R18, R19). -/

namespace Sys2Proof.Machine

/-! ### The rewritten frame -/

section
variable {frame : List Byte} (h : goodFrame frame = true)
include h

/-- The rewritten frame is the header that arrived and the new payload with their check sum. -/
theorem rewrittenFrame_eq (p : List Byte) : rewrittenFrame frame p = withCrc (frame.take 5 ++ p) := by
  unfold rewrittenFrame
  split
  · next hp => rw [hp, header_append_payload, withCrc_checkedPart h]
  · rfl

theorem length_header : (frame.take 5).length = 5 := by
  obtain ⟨hl, -⟩ := (goodFrame_iff frame).1 h
  rw [List.length_take, Nat.min_eq_left hl]

theorem byteAt_header {k : Nat} (hk : k < 5) (p : List Byte) : byteAt (frame.take 5 ++ p) k = byteAt frame k := by
  rw [byteAt_append_left (by rw [length_header h]; exact hk), byteAt_take hk]

theorem header_rewritten (p : List Byte) : (rewrittenFrame frame p).take 5 = frame.take 5 := by
  rw [rewrittenFrame_eq h, withCrc, List.append_assoc]
  exact List.take_left' (length_header h)

section
variable {p : List Byte} (hp : p.length = lengthOf frame)
include hp

theorem whole_rewritten : Whole (frame.take 5 ++ p) := by
  unfold Whole
  rw [List.length_append, length_header h, hp, byteAt_header h (by decide)]
  rfl

theorem goodFrame_rewritten : goodFrame (rewrittenFrame frame p) = true := by
  obtain ⟨-, -, hl, hs, -⟩ := (goodFrame_iff frame).1 h
  rw [rewrittenFrame_eq h]
  refine (whole_rewritten h hp).goodFrame ?_ ?_
  · rwa [byteAt_header h (by decide)]
  · rwa [byteAt_header h (by decide)]

theorem length_rewritten : (rewrittenFrame frame p).length = frame.length := by
  obtain ⟨-, hl, -⟩ := (goodFrame_iff frame).1 h
  rw [rewrittenFrame_eq h, length_withCrc, whole_rewritten h hp, byteAt_header h (by decide), hl]
  omega

theorem byteAt_rewritten {k : Nat} (hk : k < lengthOf frame) :
    byteAt (rewrittenFrame frame p) (5 + k) = byteAt p k := by
  have inside : 5 + k < (frame.take 5 ++ p).length := by
    rw [List.length_append, length_header h, hp]
    omega
  rw [rewrittenFrame_eq h, byteAt_withCrc inside]
  have behind := byteAt_append_right (frame.take 5) p k
  rwa [length_header h] at behind

end

end

/-! ### The entries in the frame -/

section
variable {frame : List Byte} {n k : Nat} (hn : lengthOf frame = 3 * n) (hk : 3 * k < lengthOf frame)
include hn hk

theorem wordAt_payloadOf : wordAt (payloadOf frame) (3 * k + 1) = wordAt frame (6 + 3 * k) := by
  have behind : 6 + 3 * k = 5 + (3 * k + 1) := by omega
  rw [wordAt, byteAt_payloadOf (by omega), byteAt_payloadOf (by omega), behind]
  rfl

/-- An entry of the payload passes as the bytes of the frame say. -/
theorem entryPassed_payloadOf (dest : Nat) (dup : Bool) (s : State) : entryPassed dest dup (payloadOf frame) k s =
    passEntry dest (byteAt frame (5 + 3 * k) % 16) dup (wordAt frame (6 + 3 * k))
      (decide (128 ≤ byteAt frame (5 + 3 * k))) s := by
  rw [entryPassed, byteAt_payloadOf hk, wordAt_payloadOf hn hk]

theorem wordAt_rewritten (h : goodFrame frame = true) {p : List Byte} (hp : p.length = lengthOf frame) :
    wordAt (rewrittenFrame frame p) (6 + 3 * k) = wordAt p (3 * k + 1) := by
  have hi := byteAt_rewritten h hp (k := 3 * k + 1) (by omega)
  have lo := byteAt_rewritten h hp (k := 3 * k + 1 + 1) (by omega)
  have behind : 6 + 3 * k = 5 + (3 * k + 1) := by omega
  rw [wordAt, wordAt, behind, hi]
  exact congrArg (byteAt p (3 * k + 1) * 256 + ·) lo

end

/-! ### Governed values (R19) -/

theorem limited_le (v maximum allowed : Nat) : limited v maximum allowed ≤ v :=
  (Nat.min_le_left _ _).trans (Nat.min_le_left _ _)

section
variable {s : State} {dup : Bool} {v : Nat} {flag : Bool}

theorem passValve_value_le (i : ZoneIx) : (passValve i dup v flag s).value ≤ v := by
  unfold passValve
  dsimp only
  split
  · exact limited_le _ _ _
  · exact Nat.le_refl v

theorem passBoost_value_le (i : ZoneIx) : (passBoost i dup v flag s).value ≤ v := by
  unfold passBoost
  dsimp only
  split
  · exact limited_le _ _ _
  · exact Nat.le_refl v

theorem passConsumer_value_le {i : ConsumerIx} (hg : s.budget.consumers[i].defn.handling = some .govern) :
    (passConsumer i dup v flag s).value ≤ v := by
  rcases Classical.em (s.budget.consumers[i].state = .enabled) with hs | hs
  · rw [passConsumer_govern hs hg]
    exact limited_le _ _ _
  · rw [passConsumer_off hs]

end

/-! ### The entries from the state in which the frame is noted -/

section
variable (frame : List Byte) (s : State)

theorem noted_budget : (noted frame s).budget = s.budget := by simp [noted]

theorem noted_zones : (noted frame s).zones = s.zones := by simp [noted]

theorem entryOwner_noted (dest channel : Nat) : entryOwner (noted frame s) dest channel = entryOwner s dest channel := by
  have scene : (noted frame s).scene = s.scene := by simp [noted]
  unfold entryOwner ownerOf
  rw [noted_budget, noted_zones, scene]

end

/-- A byte whose bit 7 is written as it stood is as it was. -/
theorem flag_as_arrived (b : Nat) (hb : b < 256) : b % 128 + (if decide (128 ≤ b) then 128 else 0) = b := by
  simp only [decide_eq_true_iff]
  split <;> omega

theorem wordAt_lt (bs : List Byte) (k : Nat) : wordAt bs k < 65536 := by
  have hi := byteAt_lt bs k
  have lo := byteAt_lt bs (k + 1)
  unfold wordAt
  omega

/-- What enters the Forward Buffer behind passed entries leaves all else as the entries do. -/
theorem RecordsPassed.forwardFrame {s t : State} (h : RecordsPassed s t) (out : List Byte) :
    forwardFrame out t = { s with
      line.forward := (Machine.forwardFrame out t).line.forward
      budget.consumers := t.budget.consumers, zones.zones := t.zones.zones } := by
  have line : t.line.forward = s.line.forward := by rw [h.rest]
  rw [forwardFrame_line, line]
  exact congrArg (Machine.forwardFrame out) h.rest

/-! ### The arrival of a COMMAND frame -/

theorem commandLength_three {n : Nat} (h : commandLength n = true) : n = 3 * (n / 3) := by
  unfold commandLength at h
  simp only [Bool.and_eq_true, decide_eq_true_iff] at h
  omega

theorem dispatchForward_command {frame : List Byte} {s : State} {dup : Bool} (hk : kindOf frame = 2)
    (hl : commandLength (lengthOf frame) = true) (h : s.line.forward.length < 4) :
    dispatchForward frame dup s = passCommand frame dup s := by
  have room : ¬forwardFull s = true := by
    rw [forwardFull_iff]
    omega
  have noSample : ¬(kindOf frame = kindSample ∧ sampleLength (lengthOf frame) = true) := fun hs => by
    rw [hk] at hs
    exact absurd hs.1 (by decide)
  rw [dispatchForward, if_neg room, if_neg noSample]
  exact if_pos ⟨hk, hl⟩

end Sys2Proof.Machine
end

section
/-! THEOREMS. A COMMAND frame that passes. -/

namespace Sys2Proof.Machine

/-- Settles O10: the frame leaves with the payload its entries leave one after the other. -/
theorem forwardedCommandFrameStaysGood : Obligations.ForwardedCommandFrameStaysGood := by
  intro s frame h kind length room
  have good := h.good
  have three := commandLength_three length
  have notManage : ¬ManagesPart frame s := fun hm => absurd (kind.symm.trans hm.1) (by decide)
  let dup := isDuplicate (nodeRec s.line (sourceOf frame)) (seqOf frame)
  let bs := payloadOf frame
  let passed := rewriteEntries (destOf frame) dup bs (noted frame s)
  let states := passedStates (destOf frame) dup bs (noted frame s)
  let out := rewrittenFrame frame passed.1
  have bsLength : bs.length = 3 * (lengthOf frame / 3) := (length_payloadOf good).trans three
  have outLength : passed.1.length = lengthOf frame := (length_rewriteEntries bs _).trans (length_payloadOf good)
  obtain ⟨last, entries⟩ := rewriteEntries_entries (dest := destOf frame) (dup := dup) bsLength (noted frame s)
  have arrives : arrive frame s = forwardFrame out passed.2 :=
    (h.arrive_forwarded notManage).trans (dispatchForward_command kind length (by rwa [noted_forward]))
  have forward : passed.2.line.forward = s.line.forward := by
    simp [passed, noted_forward]
  have kept (k : Nat) : RecordsPassed (noted frame s) (states k) := passedStates_recordsPassed bs (noted frame s) k
  -- An entry of the frame that leaves, from the entry that arrived and the state of its turn.
  have entry (k : Nat) (hk : 3 * k < lengthOf frame) :
      let p := passEntry (destOf frame) (byteAt frame (5 + 3 * k) % 16) dup (wordAt frame (6 + 3 * k))
        (decide (128 ≤ byteAt frame (5 + 3 * k))) (states k)
      states (k + 1) = p.state ∧
        byteAt out (5 + 3 * k) = byteAt frame (5 + 3 * k) % 128 + (if p.governed then 128 else 0) ∧
        wordAt out (6 + 3 * k) = p.value % 65536 := by
    obtain ⟨byte, word⟩ := entries k (by omega)
    rw [byteAt_payloadOf hk] at byte
    rw [← entryPassed_payloadOf three hk]
    exact ⟨rfl, (byteAt_rewritten good outLength hk).trans byte,
      (wordAt_rewritten three hk good outLength).trans word⟩
  have owner (k channel : Nat) :
      entryOwner (states k) (destOf frame) channel = entryOwner s (destOf frame) channel :=
    ((kept k).entryOwner _ _).trans (entryOwner_noted frame s _ _)
  refine ⟨out, forwardFrame out passed.2, ?_, ?_, goodFrame_rewritten good outLength, length_rewritten good outLength,
    header_rewritten good _, ⟨dup, isDuplicate_iff, states, rfl, entry, ?_⟩, ?_, ?_, ?_, ?_⟩
  · rw [exec_frameArrival h.awake, arrives]
  · exact congrArg (· ++ [out]) forward
  · rw [← forward]
    exact congrArg (fun u : State => { u with line.forward := passed.2.line.forward ++ [out] }) last
  · intro k hk
    obtain ⟨-, byte, word⟩ := entry k hk
    have below := Nat.mod_le (passEntry (destOf frame) (byteAt frame (5 + 3 * k) % 16) dup (wordAt frame (6 + 3 * k))
        (decide (128 ≤ byteAt frame (5 + 3 * k))) (states k)).value 65536
    rw [← word] at below
    refine ⟨?_, fun ho => ?_, fun i ho => below.trans ?_, fun i ho hg => below.trans ?_⟩
    · rw [byte]
      split <;> omega
    · rw [← owner k] at ho
      rw [passEntry_none ho] at byte word
      rw [byte, word]
      exact ⟨flag_as_arrived _ (byteAt_lt _ _), Nat.mod_eq_of_lt (wordAt_lt _ _)⟩
    · rcases ho with ho | ho <;> rw [← owner k] at ho
      · rw [passEntry_valve ho]
        exact passValve_value_le i
      · rw [passEntry_boost ho]
        exact passBoost_value_le i
    · rw [← owner k] at ho
      rw [passEntry_consumer ho]
      refine passConsumer_value_le ?_
      rw [(kept k).consumers i, noted_budget]
      exact hg
  · intro i
    have := (kept (lengthOf frame / 3)).consumers i
    rw [noted_budget] at this
    exact last ▸ this
  · intro i
    have := (kept (lengthOf frame / 3)).zones i
    rw [noted_zones] at this
    exact last ▸ this
  · have records : RecordsPassed (noted frame s) passed.2 := last ▸ kept (lengthOf frame / 3)
    exact records.forwardFrame out

end Sys2Proof.Machine
end

section
/-! SUPPORT. The soundness of the Point Map (R26, R39, R42, R45, R46) under every part of a command: an update of a
table of points keeps it when it keeps each record's own timers and leaves every follower a live substitute. -/

namespace Sys2Proof.Machine

/-! ### A sound table of points -/

theorem not_live {p : Point} {state : PointState} (hs : p.state = state) (hl : state ≠ .fresh ∧ state ≠ .settling) :
    ¬live p := fun h => h.elim (hs ▸ hl.1) (hs ▸ hl.2)

theorem live_enabled {p : Point} (h : live p) : pointEnabled p = true := by
  rcases h with e | e <;> simp [pointEnabled, e]

/-- What a record says of itself in a sound Point Map: the timers that run in its state (R39, R45, R46), and that it is
not its own substitute (R26). -/
structure PointSound (i : PointIx) (p : Point) : Prop where
  settle : p.settleTimer.isSome ↔ p.state = .settling
  stale : live p → p.staleTimer.isSome
  stopped : p.state = .unused ∨ p.state = .disabled → p.staleTimer = none
  other : p.defn.substitute ≠ some i

theorem PointSound.of_live {i : PointIx} {p : Point} (hl : live p) (stale : p.staleTimer.isSome)
    (settle : p.settleTimer.isSome ↔ p.state = .settling) (other : p.defn.substitute ≠ some i) : PointSound i p where
  settle := settle
  stale _ := stale
  stopped hs := by rcases hl with e | e <;> simp [e] at hs
  other := other

theorem PointSound.of_stale {i : PointIx} {p : Point} (hs : p.state = .staleHeld ∨ p.state = .staleSub)
    (settle : p.settleTimer = none) (other : p.defn.substitute ≠ some i) : PointSound i p where
  settle := by rcases hs with e | e <;> simp [settle, e]
  stale hl := by rcases hs with e | e <;> simp [live, e] at hl
  stopped hd := by rcases hs with e | e <;> simp [e] at hd
  other := other

/-- The settle timer stands in every state but SETTLING. -/
theorem PointSound.settle_stopped {i : PointIx} {p : Point} (h : PointSound i p) (hs : p.state ≠ .settling) :
    p.settleTimer = none :=
  Option.not_isSome_iff_eq_none.1 fun e => hs (h.settle.1 e)

/-- R42: a point in STALE_SUB follows a live point of this table. -/
def FollowsLive (ps : Vector Point 256) (p : Point) : Prop :=
  p.state = .staleSub → ∃ j : PointIx, p.defn.substitute = some j ∧ live ps[j]

/-- A table of points that is sound. -/
def MapSound (ps : Vector Point 256) : Prop := ∀ i : PointIx, PointSound i ps[i] ∧ FollowsLive ps ps[i]

theorem pointsSound_iff {s : State} : PointsSound s ↔ MapSound s.points := by
  constructor
  · intro h i
    obtain ⟨follows, settle, stale, stopped, other⟩ := h i
    exact ⟨⟨settle, stale, stopped, other⟩, follows⟩
  · intro h i
    obtain ⟨⟨settle, stale, stopped, other⟩, follows⟩ := h i
    exact ⟨follows, settle, stale, stopped, other⟩

/-- Followers keep their substitutes in a table in which no live point has ceased to be live. -/
theorem FollowsLive.mono {ps qs : Vector Point 256} {p : Point} (h : FollowsLive ps p)
    (hl : ∀ j : PointIx, live ps[j] → live qs[j]) : FollowsLive qs p := fun hp =>
  let ⟨j, hj, hv⟩ := h hp
  ⟨j, hj, hl j hv⟩

theorem followsLive_of_ne {ps : Vector Point 256} {p : Point} (h : p.state ≠ .staleSub) : FollowsLive ps p :=
  fun e => absurd e h

section
variable {ps : Vector Point 256} {i : PointIx} {p : Point}

/-- R42: nothing follows a point that is not live. -/
theorem MapSound.not_followed (h : MapSound ps) (hi : ¬live ps[i]) (j : PointIx) (hj : ps[j].state = .staleSub) :
    ps[j].defn.substitute ≠ some i := by
  obtain ⟨k, hk, hl⟩ := (h j).2 hj
  rintro e
  rw [hk] at e
  cases e
  exact hi hl

/-- A record replaced by a sound one, of which the records that follow it may go on following it. -/
theorem MapSound.set (h : MapSound ps) (hp : PointSound i p) (hf : FollowsLive ps p)
    (hl : ∀ j : PointIx, ps[j].state = .staleSub → ps[j].defn.substitute = some i → live p) :
    MapSound (ps.set i p) := by
  have others (q : Point) (hq : FollowsLive ps q) (hi : q.state = .staleSub → q.defn.substitute = some i → live p) :
      FollowsLive (ps.set i p) q := by
    intro e
    obtain ⟨j, hj, hv⟩ := hq e
    refine ⟨j, hj, ?_⟩
    rcases eq_or_ne j i with rfl | hne
    · rw [getElem_set_same]
      exact hi e hj
    · rwa [getElem_set_other hne]
  refine forall_set (P := fun k q => PointSound k q ∧ FollowsLive (ps.set i p) q) ⟨hp, others p hf fun _ e => ?_⟩
    fun j => ⟨(h j).1, others _ (h j).2 (hl j)⟩
  exact absurd e hp.other

/-- A live record may be replaced by a live one, and one that is not by any: nothing follows it. -/
theorem MapSound.set_live (h : MapSound ps) (hp : PointSound i p) (hf : FollowsLive ps p)
    (hl : live ps[i] → live p) : MapSound (ps.set i p) :=
  h.set hp hf fun j hj e => hl (Classical.byContradiction fun hi => h.not_followed hi j hj e)

/-- Every record replaced at once. -/
theorem MapSound.each {qs : Vector Point 256} (h : MapSound ps)
    (hq : ∀ j : PointIx, PointSound j ps[j] → PointSound j qs[j])
    (hl : ∀ j : PointIx, live ps[j] → live qs[j])
    (hf : ∀ j : PointIx, FollowsLive ps ps[j] → FollowsLive ps qs[j]) : MapSound qs :=
  fun j => ⟨hq j (h j).1, (hf j (h j).2).mono hl⟩

/-! ### Followers (R43, R44) -/

theorem follows_iff {state : PointState} : follows state i p = true ↔ p.state = state ∧ p.defn.substitute = some i := by
  rw [follows, Bool.and_eq_true, decide_eq_true_iff, decide_eq_true_iff]

theorem resumedPoint_sound {j : PointIx} (h : PointSound j p) : PointSound j (resumedPoint i p) := by
  unfold resumedPoint
  split
  · next hf =>
    obtain ⟨held, -⟩ := follows_iff.1 hf
    exact .of_stale (.inr rfl) (h.settle_stopped (by simp [held])) h.other
  · exact h

theorem resumedPoint_live (h : live p) : live (resumedPoint i p) := by
  unfold resumedPoint
  split
  · next hf => rcases h with e | e <;> simp [follows_iff, e] at hf
  · exact h

theorem resumedPoint_follows (hi : live ps[i]) (h : FollowsLive ps p) : FollowsLive ps (resumedPoint i p) := by
  unfold resumedPoint
  split
  · next hf => exact fun _ => ⟨i, (follows_iff.1 hf).2, hi⟩
  · exact h

/-- R44: the followers of a live point resume following it. -/
theorem MapSound.resume (h : MapSound ps) (hi : live ps[i]) : MapSound (mapTable (fun _ p => resumedPoint i p) ps) :=
  h.each (fun j hj => by rw [get_mapTable]; exact resumedPoint_sound hj)
    (fun j hj => by rw [get_mapTable]; exact resumedPoint_live hj)
    (fun j hj => by rw [get_mapTable]; exact resumedPoint_follows hi hj)

theorem collapsedPoint_sound {j : PointIx} {v : Int} (h : PointSound j p) : PointSound j (collapsedPoint i v p) := by
  unfold collapsedPoint
  split
  · next hf =>
    obtain ⟨sub, -⟩ := follows_iff.1 hf
    exact .of_stale (.inl rfl) (h.settle_stopped (by simp [sub])) h.other
  · exact h

theorem collapsedPoint_live {v : Int} (h : live p) : live (collapsedPoint i v p) := by
  unfold collapsedPoint
  split
  · next hf => rcases h with e | e <;> simp [follows_iff, e] at hf
  · exact h

/-- R43: what still follows after the followers of i have fallen does not follow i. -/
theorem collapsedPoint_staleSub {v : Int} (h : (collapsedPoint i v p).state = .staleSub) :
    collapsedPoint i v p = p ∧ p.defn.substitute ≠ some i := by
  unfold collapsedPoint at h ⊢
  split at h
  · cases h
  · next hf => exact ⟨if_neg hf, fun e => hf (follows_iff.2 ⟨h, e⟩)⟩

/-- R40, R43: a point leaves FRESH and SETTLING, and its followers fall to STALE_HELD. -/
theorem MapSound.leave (h : MapSound ps) (hp : PointSound i p) (hf : FollowsLive ps p) (v : Int) :
    MapSound (mapTable (fun _ q => collapsedPoint i v q) (ps.set i p)) := by
  intro j
  have sound : PointSound j (ps.set i p)[j] ∧ FollowsLive ps (ps.set i p)[j] :=
    forall_set (P := fun k q => PointSound k q ∧ FollowsLive ps q) ⟨hp, hf⟩ h j
  rw [get_mapTable]
  refine ⟨collapsedPoint_sound sound.1, fun e => ?_⟩
  obtain ⟨same, other⟩ := collapsedPoint_staleSub e
  rw [same] at e ⊢
  obtain ⟨k, hk, hl⟩ := sound.2 e
  refine ⟨k, hk, ?_⟩
  have hne : k ≠ i := by
    rintro rfl
    exact other hk
  rw [get_mapTable, getElem_set_other hne]
  exact collapsedPoint_live hl

end

/-! ### Settling starts (R45) -/

theorem settleStart_mapSound (i : PointIx) {s : State} (h : MapSound s.points) : MapSound (settleStart i s).points := by
  unfold settleStart
  dsimp only
  have settling (hl : live s.points[i]) {p : Point} (hp : p.state = .settling) (hd : p.defn = s.points[i].defn)
      (hs : p.staleTimer = s.points[i].staleTimer) (ht : p.settleTimer.isSome) : MapSound (s.points.set i p) :=
    h.set_live (.of_live (.inr hp) (hs ▸ (h i).1.stale hl) ⟨fun _ => hp, fun _ => ht⟩ (hd ▸ (h i).1.other))
      (followsLive_of_ne (by simp [hp])) fun _ => .inr hp
  split
  · exact h
  · split
    · next hs => exact settling (.inl hs) rfl rfl rfl rfl
    · next hs => exact settling (.inr hs) hs rfl rfl rfl
    all_goals exact h

/-- What a settling start keeps of the Point Map. -/
def KeptBySettling (P : Vector Point 256 → Prop) : Prop := ∀ i s, P s.points → P (settleStart i s).points

section
variable {P : Vector Point 256 → Prop} (settle : KeptBySettling P) {s : State}
include settle

theorem KeptBySettling.commandConsumer (i : ConsumerIx) (h : P s.points) : P (commandConsumer s i).points := by
  unfold Machine.commandConsumer driveValve governValve
  dsimp only
  split
  · split
    · split
      · exact h
      · split
        · exact settle _ _ h
        · exact h
    · split <;> exact h
    all_goals exact h
  · exact h

/-- R72: a completion touches the Point Map by the settling starts of its commands alone. -/
theorem KeptBySettling.completeAllocation (h : P s.points) : P (completeAllocation s).points := by
  unfold Machine.completeAllocation
  split
  · exact h
  · next c _ =>
    have published : (heatLostNotice c s.budget { s with budget := publishedBudget c s.budget }).points = s.points := by
      simp
    have commanded := foldl_invariant (fun t => P t.points) Machine.commandConsumer
      (fun _ i => settle.commandConsumer i) consumerOrder _ (published.symm ▸ h)
    simpa [completeWith] using commanded

theorem KeptBySettling.settleSheet (sh : Sheet) (h : P s.points) : P (settleSheet s sh).points := by
  unfold Machine.settleSheet
  dsimp only
  split
  · split
    · exact settle _ _ h
    · exact h
  · exact h

/-- R157: a completed search touches the Point Map by the settling starts of the two sheets alone. -/
theorem KeptBySettling.finishSearch (step : Nat) (h : P s.points) : P (finishSearch step s).points := by
  have both (t : State) (e : t.points = s.points) :
      P (Machine.settleSheet (Machine.settleSheet t .one) .two).points :=
    settle.settleSheet .two (settle.settleSheet .one (e ▸ h))
  unfold Machine.finishSearch
  simp only [markCandidate_fold, reportLoad_points]
  exact both _ (by simp only [levelGroup_fold])

theorem KeptBySettling.startStep (h : P s.points) : P (startStep s).points := by
  unfold Machine.startStep
  dsimp only
  split
  · exact settle.finishSearch _ (by simpa using h)
  · simpa using h

theorem KeptBySettling.completeSearch (h : P s.points) : P (completeSearch s).points := by
  unfold Machine.completeSearch
  split
  · exact h
  · exact settle.finishSearch _ h

end

theorem mapSound_settling : KeptBySettling MapSound := fun i _ => settleStart_mapSound i

/-! ### Samples (R31 to R38) -/

section
variable {s : State} {i : PointIx} {p : Point}

/-- A record as a sample may leave it before its state is looked at: state, definition and settle timer as they were,
the stale timer as it was or running. -/
structure SampledFrom (q p : Point) : Prop where
  state : p.state = q.state
  defn : p.defn = q.defn
  settle : p.settleTimer = q.settleTimer
  stale : p.staleTimer = q.staleTimer ∨ p.staleTimer.isSome

theorem SampledFrom.sound {q : Point} (h : SampledFrom q p) (he : pointEnabled q = true) (hq : PointSound i q) :
    PointSound i p := by
  obtain ⟨state, defn, settle, stale⟩ := h
  simp only [pointEnabled, Bool.and_eq_true, bne_iff_ne] at he
  refine ⟨by rw [settle, state]; exact hq.settle, fun hl => ?_, ?_, defn ▸ hq.other⟩
  · rcases stale with e | e
    · rw [e]
      exact hq.stale (by rwa [live, state] at hl)
    · exact e
  · rw [state]
    rintro (e | e)
    · exact absurd e he.1
    · exact absurd e he.2

theorem SampledFrom.follows {ps : Vector Point 256} {q : Point} (h : SampledFrom q p) (hq : FollowsLive ps q) :
    FollowsLive ps p := by
  unfold FollowsLive
  rw [h.state, h.defn]
  exact hq

/-- An enabled record with its counts, streaks and stale timer as a sample leaves them. -/
theorem MapSound.sampled (h : MapSound s.points) (he : pointEnabled s.points[i] = true)
    (hp : SampledFrom s.points[i] p) : MapSound (s.points.set i p) :=
  h.set_live (hp.sound he (h i).1) (hp.follows (h i).2) (by rw [live, live, hp.state]; exact id)

theorem freshPoint_sound (v : Int) (hs : p.state ≠ .settling) (ht : p.staleTimer.isSome) (h : PointSound i p) :
    PointSound i (freshPoint v p) :=
  .of_live (.inl rfl) ht (by simp [freshPoint, h.settle_stopped hs]) h.other

/-- R36, R37: an accepted sample that sets the value. -/
theorem MapSound.fresh (h : MapSound s.points) (v : Int) (hs : p.state ≠ .settling) (ht : p.staleTimer.isSome)
    (hp : PointSound i p) : MapSound (s.points.set i (freshPoint v p)) :=
  h.set_live (freshPoint_sound v hs ht hp) (followsLive_of_ne (by simp [freshPoint])) fun _ => .inl rfl

/-- R37, R44: an accepted sample that recovers the point lets its followers resume. -/
theorem MapSound.recovered (h : MapSound s.points) (v : Int) (hs : p.state ≠ .settling) (ht : p.staleTimer.isSome)
    (hp : PointSound i p) :
    MapSound (mapTable (fun _ q => resumedPoint i q) (s.points.set i (freshPoint v p))) := by
  refine (h.fresh v hs ht hp).resume ?_
  rw [getElem_set_same]
  exact .inl rfl

theorem acceptSample_mapSound (v : Int) (he : pointEnabled s.points[i] = true) (hp : SampledFrom s.points[i] p)
    (ht : p.staleTimer.isSome) (h : MapSound s.points) : MapSound (acceptSample i p v s).points := by
  have sound : PointSound i p := hp.sound he (h i).1
  have streak : SampledFrom s.points[i] { p with recovery := p.recovery + 1 } := ⟨hp.state, hp.defn, hp.settle, hp.stale⟩
  have stale (hs : p.state ≠ .settling) : MapSound (if p.recovery + 1 = p.defn.recoverCount then
      reportValue i v (resumeFollowers i (offer .pointRecovered i v (setPoint i (freshPoint v p) s)))
    else setPoint i { p with recovery := p.recovery + 1 } s).points := by
    split
    · exact h.recovered v hs ht sound
    · exact h.sampled he streak
  unfold acceptSample
  split
  · next hs => exact h.recovered v (by simp [hs]) ht sound
  · next hs => exact h.fresh v (by simp [hs]) ht sound
  · exact h.sampled he hp
  · next hs => exact stale (by simp [hs])
  · next hs => exact stale (by simp [hs])
  · exact h
  · exact h

theorem takeCandidate_mapSound (raw : Nat) (he : pointEnabled s.points[i] = true) (h : MapSound s.points) :
    MapSound (takeCandidate i s.points[i] raw s).points := by
  unfold takeCandidate
  dsimp only
  split
  · split
    · exact acceptSample_mapSound _ he ⟨rfl, rfl, rfl, .inr rfl⟩ rfl h
    · split
      · exact acceptSample_mapSound _ he ⟨rfl, rfl, rfl, .inr rfl⟩ rfl h
      · exact h.sampled he ⟨rfl, rfl, rfl, .inl rfl⟩
  · exact acceptSample_mapSound _ he ⟨rfl, rfl, rfl, .inr rfl⟩ rfl h

theorem sampleEntry_mapSound (source channel : Nat) (fault : Bool) (raw : Nat) (h : MapSound s.points) :
    MapSound (sampleEntry source channel fault raw s).points := by
  unfold sampleEntry
  split
  · split
    · next he =>
      unfold sampleEnabled
      dsimp only
      split
      · exact h.sampled he ⟨rfl, rfl, rfl, .inl rfl⟩
      · split
        · exact h.sampled he ⟨rfl, rfl, rfl, .inl rfl⟩
        · exact takeCandidate_mapSound raw he h
    · exact h
  · exact h

theorem sampleEntries_mapSound (source : Nat) (bs : List Byte) (h : MapSound s.points) :
    MapSound (sampleEntries source bs s).points := by
  fun_induction sampleEntries source bs s with
  | case1 b hi lo rest s ih => exact ih (sampleEntry_mapSound _ _ _ _ h)
  | case2 => exact h

/-! ### Expiries (R39 to R41, R46) -/

theorem liveSubstitute_some {j : PointIx} :
    liveSubstitute s p = some j ↔ p.defn.substitute = some j ∧ live s.points[j] := by
  unfold liveSubstitute
  split
  · next k hk =>
    rw [hk]
    split
    · next hl =>
      constructor
      · rintro ⟨⟩
        exact ⟨rfl, hl⟩
      · rintro ⟨⟨⟩, -⟩
        rfl
    · next hl =>
      constructor
      · rintro ⟨⟩
      · rintro ⟨⟨⟩, hj⟩
        exact absurd hj hl
  · next hk => simp [hk]

theorem goStale_mapSound (h : MapSound s.points) : MapSound (goStale i s.points[i] s).points := by
  have sound (state : PointState) (hs : state = .staleHeld ∨ state = .staleSub) : PointSound i { s.points[i] with
      staleTimer := none, settleTimer := none, recovery := 0, state := state } := .of_stale hs rfl (h i).1.other
  unfold goStale
  dsimp only
  split
  · next j hj => exact h.leave (sound .staleSub (.inr rfl)) (fun _ => ⟨j, liveSubstitute_some.1 hj⟩) _
  · exact h.leave (sound .staleHeld (.inl rfl)) (followsLive_of_ne (by simp)) _

theorem staleExpiry_mapSound (i : PointIx) (h : MapSound s.points) : MapSound (staleExpiry i s).points := by
  have silent {state : PointState} (hs : s.points[i].state = state) (hl : state ≠ .fresh ∧ state ≠ .settling)
      (n : Nat) : MapSound (s.points.set i { s.points[i] with staleTimer := none, recovery := n }) :=
    h.set_live ⟨(h i).1.settle, fun e => absurd e (not_live hs hl), fun _ => rfl, (h i).1.other⟩ (h i).2 id
  fun_cases staleExpiry i s
  case case2 => exact goStale_mapSound h
  case case3 => exact goStale_mapSound h
  case case4 hs => exact silent hs (by decide) _
  case case5 hs => exact silent hs (by decide) _
  case case6 hs => exact silent hs (by decide) _
  all_goals exact h

theorem settleExpiry_mapSound (i : PointIx) (h : MapSound s.points) : MapSound (settleExpiry i s).points := by
  fun_cases settleExpiry i s
  case case2 hs =>
    have settled : MapSound (s.points.set i { s.points[i] with state := .fresh, settleTimer := none }) :=
      h.set_live (.of_live (.inl rfl) ((h i).1.stale (.inr hs)) (by simp) (h i).1.other)
        (followsLive_of_ne (by simp)) fun _ => .inl rfl
    refine settled.resume ?_
    rw [getElem_set_same]
    exact .inl rfl
  all_goals exact h

/-! ### Requests (R26 to R29) -/

theorem mapSound_of_eq {t : State} (e : t.points = s.points) (h : MapSound s.points) : MapSound t.points := e ▸ h

theorem clearedPoint_sound {d : PointDef} {state : PointState} (hs : state = .unused ∨ state = .disabled)
    (hd : d.substitute ≠ some i) : PointSound i (clearedPoint d state) where
  settle := by rcases hs with rfl | rfl <;> simp [clearedPoint]
  stale hl := by rcases hs with rfl | rfl <;> simp [clearedPoint, live] at hl
  stopped _ := rfl
  other := hd

theorem clearedPoint_followsLive {ps : Vector Point 256} {d : PointDef} {state : PointState}
    (hs : state ≠ .staleSub) : FollowsLive ps (clearedPoint d state) := followsLive_of_ne hs

/-- R26: a substitute that fits is another point. -/
theorem substituteFits_other {d : PointDef} (h : substituteFits i d s = true) : d.substitute ≠ some i := by
  rintro e
  simp [substituteFits, e] at h

theorem writePoint_mapSound (args : List Byte) (h : MapSound s.points) :
    MapSound (writePoint args s).state.points := by
  fun_cases writePoint args s
  case case6 i he d _ _ hf _ =>
    exact h.set_live (clearedPoint_sound (.inr rfl) (substituteFits_other (by simpa using hf)))
      (followsLive_of_ne (by simp [clearedPoint])) fun e => absurd (live_enabled e) he
  all_goals exact h

theorem enabledPoint_sound (hs : p.state = .disabled) (hp : PointSound i p) : PointSound i (enabledPoint p) where
  settle := by simpa [enabledPoint, clearedStreak] using hp.settle_stopped (by simp [hs])
  stale _ := rfl
  stopped hd := by simp [enabledPoint] at hd
  other := hp.other

theorem enablePoint_mapSound (args : List Byte) (h : MapSound s.points) :
    MapSound (enablePoint args s).state.points := by
  fun_cases enablePoint args s
  case case2 i hs =>
    exact h.set_live (enabledPoint_sound hs (h i).1) (followsLive_of_ne (by simp [enabledPoint]))
      fun e => absurd e (not_live hs (by decide))
  all_goals exact h

theorem disabledPoint_sound (hp : PointSound i p) : PointSound i (disabledPoint p) where
  settle := by simp [disabledPoint]
  stale hl := by simp [disabledPoint, live] at hl
  stopped _ := rfl
  other := hp.other

theorem disablePoint_mapSound (args : List Byte) (h : MapSound s.points) :
    MapSound (disablePoint args s).state.points := by
  have follows (p : Point) : FollowsLive s.points (disabledPoint p) := followsLive_of_ne (by simp [disabledPoint])
  have dead {i : PointIx} {state : PointState} (hs : s.points[i].state = state)
      (hl : state ≠ .fresh ∧ state ≠ .settling) : MapSound (s.points.set i (disabledPoint s.points[i])) :=
    h.set_live (disabledPoint_sound (h i).1) (follows _) fun e => absurd e (not_live hs hl)
  fun_cases disablePoint args s
  case case4 i _ _ | case5 i _ _ => exact h.leave (disabledPoint_sound (h i).1) (follows _) _
  case case3 i _ hs | case6 i _ hs | case7 i _ hs => exact dead hs (by decide)
  all_goals exact h

theorem clearSubstitute_mapSound (args : List Byte) (h : MapSound s.points) :
    MapSound (clearSubstitute args s).state.points := by
  have cleared {i : PointIx} {state : PointState} (hs : s.points[i].state = state) (hn : state ≠ .staleSub) :
      MapSound (s.points.set i { s.points[i] with defn.substitute := none }) :=
    h.set_live ⟨(h i).1.settle, (h i).1.stale, (h i).1.stopped, by simp⟩ (followsLive_of_ne (hs ▸ hn)) id
  fun_cases clearSubstitute args s
  case case1 | case2 => exact h
  all_goals exact cleared (by assumption) (by decide)

theorem answerOf_mapSound (r : Req) (args : List Byte) (h : MapSound s.points) :
    MapSound (answerOf r args s).state.points := by
  cases r with
  | writePoint => exact writePoint_mapSound args h
  | enablePoint => exact enablePoint_mapSound args h
  | disablePoint => exact disablePoint_mapSound args h
  | clearSubstitute => exact clearSubstitute_mapSound args h
  | _ => exact mapSound_of_eq (by simp [answerOf]) h

/-! ### Time and RESTART (R49) -/

theorem tickPoint_sound (hp : PointSound i p) : PointSound i (tickPoint p) where
  settle := by simpa [tickPoint, countDown] using hp.settle
  stale hl := by simpa [tickPoint, countDown] using hp.stale hl
  stopped hd := by simp [tickPoint, countDown, hp.stopped hd]
  other := hp.other

theorem MapSound.tick {ps : Vector Point 256} (h : MapSound ps) : MapSound (ps.map tickPoint) := by
  refine h.each (fun j hj => ?_) (fun j hj => ?_) (fun j hj => ?_) <;> rw [Fin.getElem_fin, Vector.getElem_map]
  · exact tickPoint_sound hj
  · exact hj
  · exact hj

/-- R49: RESTART leaves no point live, and none following. -/
theorem restartedPoint_sound (hp : PointSound i p) :
    PointSound i (restartedPoint p) ∧ (restartedPoint p).state ≠ .staleSub := by
  unfold restartedPoint
  split
  · next hu => exact ⟨hp, by simp [hu]⟩
  · split
    · exact ⟨clearedPoint_sound (.inr rfl) hp.other, by simp [clearedPoint]⟩
    · exact ⟨⟨by simp [clearedPoint], fun _ => rfl, by simp [clearedPoint], hp.other⟩, by simp [clearedPoint]⟩

theorem MapSound.restart {ps : Vector Point 256} (h : MapSound ps) : MapSound (ps.map restartedPoint) := by
  intro j
  obtain ⟨sound, idle⟩ := restartedPoint_sound (h j).1
  rw [Fin.getElem_fin, Vector.getElem_map]
  exact ⟨sound, followsLive_of_ne idle⟩

/-! ### The parts of a command -/

theorem event_mapSound {c : Instr} {f : State → State} (he : Event c f) (ha : ∀ bytes, c ≠ .frameArrival bytes)
    (hl : c ≠ .lineOutSendComplete) (h : MapSound s.points) : MapSound (f s).points := by
  cases he with
  | frameArrival bytes => exact absurd rfl (ha bytes)
  | lineOutSendComplete => exact absurd rfl hl
  | staleTimerExpiry i => exact staleExpiry_mapSound i h
  | settleTimerExpiry i => exact settleExpiry_mapSound i h
  | allocationCompletion => exact mapSound_settling.completeAllocation h
  | stepStart => exact mapSound_settling.startStep h
  | searchCompletion => exact mapSound_settling.completeSearch h
  | _ => exact mapSound_of_eq (by simp) h

end

theorem pointsSound_kept : KeptByParts fun s => MapSound s.points where
  pending _ _ h := h
  powerOn own controller l := pointsSound_iff.1 (powerOn_pointsSound own controller l)
  reset _ h := h
  tick _ h := h.tick
  choice _ h := mapSound_of_eq (by simp) h
  arrival := {
    error := fun _ h => h
    activity := fun _ h => mapSound_of_eq (by simp) h
    node := fun _ _ _ _ h => h
    overrun := fun _ h => mapSound_of_eq (by simp) h
    forward := fun _ _ _ h => h
    samples := fun source payload _ h => sampleEntries_mapSound source payload h
    entries := fun _ _ _ _ h => mapSound_of_eq (by simp) h
    offered := fun _ _ _ h => mapSound_of_eq (by simp) h }
  completed s h := completeSending_keeps (P := fun t => MapSound t.points) h (fun _ => h)
    (fun _ _ _ _ => mapSound_of_eq (by simp) h)
    (fun slot => mapSound_of_eq (s := restartedBlocks (setSlot slot .free { s with line.sending := none }))
      (by simp [restartEffect, restartCaps]) (MapSound.restart (mapSound_of_eq (by simp) h)))
  event he ha hl _ h := event_mapSound he ha hl h
  handed _ _ h := h
  answer r args _ h := answerOf_mapSound r args h
  reply _ _ _ _ _ h := mapSound_of_eq (by simp [placeReply]) h

end Sys2Proof.Machine
end

section
/-! THEOREMS. The soundness of the Point Map along a run. -/

namespace Sys2Proof.Machine

/-- Settles O56, part by part of a command. -/
theorem stepKeepsThePointsSound : Obligations.StepKeepsThePointsSound := fun _ _ h hstep =>
  pointsSound_iff.2 (pointsSound_kept.keptByShape.of_step hstep (pointsSound_iff.1 h))

end Sys2Proof.Machine
end

section
/-! SUPPORT. The followers of a point (R43, R44), and its record under the expiries and the settling starts
(R40, R41, R45, R46). -/

namespace Sys2Proof.Machine

/-! ### Tables -/

theorem indicesFrom_eq_filter {α : Type} (p : α → Bool) (k : Nat) (as : List α) :
    indicesFrom p k as = ((List.finRange as.length).filter fun j => p as[j]).map fun j => k + j.val := by
  induction as generalizing k with
  | nil => rfl
  | cons a as ih =>
    have shift (j : Fin as.length) : k + 1 + j.val = k + j.succ.val := by rw [Fin.val_succ]; omega
    have rest : indicesFrom p (k + 1) as =
        (((List.finRange as.length).map Fin.succ).filter fun j => p (a :: as)[j]).map fun j => k + j.val := by
      rw [ih, List.filter_map, List.map_map]
      exact List.map_congr_left fun j _ => shift j
    have first : List.finRange (a :: as).length = 0 :: (List.finRange as.length).map Fin.succ := List.finRange_succ
    rw [indicesFrom, rest, first, List.filter_cons, apply_ite (List.map _)]
    rfl

/-- The indices found are those of the records that satisfy the test, ascending. -/
theorem indicesWhere_eq_filter {α : Type} {n : Nat} (p : α → Bool) (v : Vector α n) :
    indicesWhere p v = ((List.finRange n).filter fun j => p v[j]).map Fin.val := by
  obtain ⟨⟨l⟩, rfl⟩ := v
  exact (indicesFrom_eq_filter p 0 l).trans (List.map_congr_left fun j _ => Nat.zero_add _)

/-- The one record that satisfies a test is found. -/
theorem findIx_eq_some {α : Type} {n : Nat} {p : α → Bool} {v : Vector α n} {i : Fin n} (h : p v[i] = true)
    (only : ∀ j, p v[j] = true → j = i) : findIx p v = some i := by
  cases hf : findIx p v with
  | none =>
    rw [findIx_eq_none.1 hf i] at h
    cases h
  | some j => rw [only j (findIx_some hf)]

section
variable {α : Type} {n : Nat} {f : α → α} {v : Vector α n} {i j : Fin n} {x : α}

/-- A record replaced in a table, whose every record is then replaced. -/
theorem get_mapTable_set_same : (mapTable (fun _ => f) (v.set i x))[i] = f x := by
  rw [get_mapTable, getElem_set_same]

theorem get_mapTable_set_other (h : j ≠ i) : (mapTable (fun _ => f) (v.set i x))[j] = f v[j] := by
  rw [get_mapTable, getElem_set_other h]

end

/-! ### Followers (R43, R44) -/

/-- The points in this state that name i as their substitute, ascending. -/
def followersIn (state : PointState) (i : PointIx) (ps : Vector Point 256) : List PointIx :=
  (List.finRange 256).filter fun j => follows state i ps[j]

theorem mem_followersIn {state : PointState} {i j : PointIx} {ps : Vector Point 256} :
    j ∈ followersIn state i ps ↔ ps[j].state = state ∧ ps[j].defn.substitute = some i := by
  rw [followersIn, List.mem_filter, follows_iff]
  exact and_iff_right (List.mem_finRange j)

/-- The followers of a point do not depend on its own record, unless it is one of them. -/
theorem followersIn_set {state : PointState} {i : PointIx} {ps : Vector Point 256} {p : Point}
    (hp : follows state i p = false) (hi : follows state i ps[i] = false) :
    followersIn state i (ps.set i p) = followersIn state i ps := by
  refine List.filter_congr fun j _ => ?_
  rcases eq_or_ne j i with rfl | hne
  · rw [getElem_set_same, hp, hi]
  · rw [getElem_set_other hne]

theorem mem_followersIn_set {state : PointState} {i j : PointIx} {ps : Vector Point 256} {p : Point}
    (hp : follows state i p = false) : j ∈ followersIn state i (ps.set i p) ↔
      j ≠ i ∧ ps[j].state = state ∧ ps[j].defn.substitute = some i := by
  rcases eq_or_ne j i with rfl | hne
  · have none : ¬(p.state = state ∧ p.defn.substitute = some j) := fun h => by simp [follows_iff.2 h] at hp
    rw [mem_followersIn, getElem_set_same]
    exact ⟨fun h => absurd h none, fun h => absurd rfl h.1⟩
  · rw [mem_followersIn, getElem_set_other hne]
    exact (and_iff_right hne).symm

theorem follows_of_state {p : Point} {i : PointIx} {state other : PointState} (h : p.state = other)
    (hne : other ≠ state) : follows state i p = false := by
  simp [follows, h, hne]

theorem resumeFollowers_eq (i : PointIx) (s : State) : resumeFollowers i s = { s with
    points := mapTable (fun _ => resumedPoint i) s.points
    handed := s.handed ++
      (followersIn .staleHeld i s.points).map fun j => .noticeOffer .substituteOn j.val i.val } := by
  simp only [resumeFollowers, handAll, indicesWhere_eq_filter, List.map_map, followersIn]
  rfl

theorem collapseFollowers_eq (i : PointIx) (v : Int) (s : State) : collapseFollowers i v s = { s with
    points := mapTable (fun _ => collapsedPoint i v) s.points
    handed := s.handed ++ (followersIn .staleSub i s.points).map fun j => .noticeOffer .pointStale j.val v } := by
  simp only [collapseFollowers, handAll, indicesWhere_eq_filter, List.map_map, followersIn]
  rfl

theorem resumedPoint_eq (i : PointIx) (p : Point) : resumedPoint i p =
    if p.state = .staleHeld ∧ p.defn.substitute = some i then { p with state := .staleSub } else p := by
  simp only [resumedPoint, follows_iff]

theorem collapsedPoint_eq (i : PointIx) (v : Int) (p : Point) : collapsedPoint i v p =
    if p.state = .staleSub ∧ p.defn.substitute = some i then { p with state := .staleHeld, presented := v } else p := by
  simp only [collapsedPoint, follows_iff]

theorem resumedPoint_of_not {i : PointIx} {p : Point} (h : follows .staleHeld i p = false) : resumedPoint i p = p := by
  simp [resumedPoint, h]

theorem collapsedPoint_of_not {i : PointIx} {v : Int} {p : Point} (h : follows .staleSub i p = false) :
    collapsedPoint i v p = p := by
  simp [collapsedPoint, h]

/-! ### Expiries (R40, R41, R46) -/

section
variable {s : State} {i : PointIx}

/-- R40: the record of a point gone stale. -/
def stalePoint (s : State) (p : Point) : Point := { p with
  state := if (liveSubstitute s p).isSome then .staleSub else .staleHeld
  staleTimer := none, settleTimer := none, recovery := 0 }

/-- R40: what a point going stale offers of itself. -/
def staleNotice (s : State) (i : PointIx) (p : Point) : Instr :=
  match liveSubstitute s p with
  | some j => .noticeOffer .substituteOn i.val j.val
  | none => .noticeOffer .pointStale i.val p.presented

theorem goStale_eq (p : Point) : goStale i p s = { s with
    points := mapTable (fun _ => collapsedPoint i p.presented) (s.points.set i (stalePoint s p))
    handed := (s.handed ++ [staleNotice s i p]) ++ (followersIn .staleSub i (s.points.set i (stalePoint s p))).map
      fun j => .noticeOffer .pointStale j.val p.presented } := by
  unfold goStale stalePoint staleNotice
  cases liveSubstitute s p <;> exact collapseFollowers_eq i p.presented _

theorem liveSubstitute_isSome {p : Point} :
    (liveSubstitute s p).isSome ↔ ∃ j, p.defn.substitute = some j ∧ live s.points[j] := by
  rw [Option.isSome_iff_exists]
  exact exists_congr fun _ => liveSubstitute_some

/-- R40, R43: a point that is not its own substitute goes stale, and its followers fall to STALE_HELD. -/
theorem goStale_of_other (h : s.points[i].defn.substitute ≠ some i) : ∃ t, goStale i s.points[i] s = t ∧
    t.points[i] = stalePoint s s.points[i] ∧
    (∀ j : PointIx, j ≠ i → t.points[j] = collapsedPoint i s.points[i].presented s.points[j]) ∧
    t.handed = s.handed ++ staleNotice s i s.points[i] :: (followersIn .staleSub i s.points).map
      (fun j => .noticeOffer .pointStale j.val s.points[i].presented) ∧
    t = { s with points := t.points, handed := t.handed } := by
  have apart (p : Point) (hd : p.defn = s.points[i].defn) : follows .staleSub i p = false :=
    Bool.eq_false_iff.2 fun hf => h (hd ▸ (follows_iff.1 hf).2)
  refine ⟨_, goStale_eq _, ?_, fun j hj => get_mapTable_set_other hj, ?_, rfl⟩
  · exact get_mapTable_set_same.trans (collapsedPoint_of_not (apart _ rfl))
  · rw [followersIn_set (p := stalePoint s s.points[i]) (apart _ rfl) (apart _ rfl), List.append_assoc]
    rfl

theorem staleExpiry_live (h : s.points[i].staleTimer ≠ none) (hl : live s.points[i]) :
    staleExpiry i s = goStale i s.points[i] s := by
  obtain ⟨ms, hms⟩ := Option.ne_none_iff_exists'.1 h
  rcases hl with hs | hs <;> simp only [staleExpiry, hms, hs]

theorem staleExpiry_never (h : s.points[i].staleTimer ≠ none) (hs : s.points[i].state = .never) :
    staleExpiry i s = offer .pointStale i 0 (setPoint i { s.points[i] with staleTimer := none } s) := by
  obtain ⟨ms, hms⟩ := Option.ne_none_iff_exists'.1 h
  simp only [staleExpiry, hms, hs]

theorem staleExpiry_stale (h : s.points[i].staleTimer ≠ none)
    (hs : s.points[i].state = .staleHeld ∨ s.points[i].state = .staleSub) :
    staleExpiry i s = setPoint i { s.points[i] with staleTimer := none, recovery := 0 } s := by
  obtain ⟨ms, hms⟩ := Option.ne_none_iff_exists'.1 h
  rcases hs with hs | hs <;> simp only [staleExpiry, hms, hs]

/-- R44: a record that follows nobody takes the place of i, and the followers of i resume following it. -/
theorem resumeFollowers_set {p : Point} (hp : follows .staleHeld i p = false)
    (hi : follows .staleHeld i s.points[i] = false) : ∃ t, resumeFollowers i (setPoint i p s) = t ∧ t.points[i] = p ∧
    (∀ j : PointIx, j ≠ i → t.points[j] = resumedPoint i s.points[j]) ∧
    t = { s with
      points := t.points
      handed := s.handed ++
        (followersIn .staleHeld i s.points).map fun j => .noticeOffer .substituteOn j.val i.val } := by
  refine ⟨_, resumeFollowers_eq _ _, ?_, fun j hj => get_mapTable_set_other hj, ?_⟩
  · exact get_mapTable_set_same.trans (resumedPoint_of_not hp)
  · rw [setPoint_points, setPoint_handed, followersIn_set hp hi]
    rfl

theorem settleExpiry_settling (h : s.points[i].settleTimer ≠ none) (hs : s.points[i].state = .settling) :
    settleExpiry i s = resumeFollowers i (setPoint i { s.points[i] with state := .fresh, settleTimer := none } s) := by
  obtain ⟨ms, hms⟩ := Option.ne_none_iff_exists'.1 h
  simp only [settleExpiry, hms, hs]

/-! ### Settling starts (R45) -/

theorem settleStart_live (h0 : 0 < s.points[i].defn.settleTime) (hl : live s.points[i]) :
    settleStart i s = setPoint i { s.points[i] with
      state := .settling, settleTimer := some (s.points[i].defn.settleTime * 100) } s := by
  unfold settleStart
  dsimp only
  rw [if_neg h0.ne']
  rcases hl with hs | hs <;> simp only [hs]

theorem settleStart_idle (h : ¬(0 < s.points[i].defn.settleTime ∧ live s.points[i])) : settleStart i s = s := by
  unfold settleStart
  dsimp only
  split
  · rfl
  · next h0 =>
    have dead : ¬live s.points[i] := fun hl => h ⟨Nat.pos_of_ne_zero h0, hl⟩
    split
    · next hs => exact absurd (.inl hs) dead
    · next hs => exact absurd (.inr hs) dead
    all_goals rfl

/-- R45: a settling start moves its point alone. -/
theorem settleStart_settledFrom : SettledFrom (· = i) s (settleStart i s) ∧
    settleStart i s = { s with points := (settleStart i s).points } := by
  rcases Classical.em (0 < s.points[i].defn.settleTime ∧ live s.points[i]) with ⟨h0, hl⟩ | h
  · rw [settleStart_live h0 hl]
    refine ⟨fun j => ⟨?_, fun hn => ?_⟩, rfl⟩
    · rintro rfl - -
      exact getElem_set_same
    · exact getElem_set_other (by rintro rfl; exact hn ⟨rfl, h0, hl⟩)
  · rw [settleStart_idle h]
    refine ⟨fun j => ⟨?_, fun _ => rfl⟩, rfl⟩
    rintro rfl h0 hl
    exact absurd ⟨h0, hl⟩ h

end

end Sys2Proof.Machine
end

section
/-! THEOREMS. The timers of a point and its settling starts. -/

namespace Sys2Proof.Machine

/-- Settles O18: the stale timer by the state of its point, the settle timer, and the settling starts. -/
theorem pointTimersAndSettlingMoveThePoint : Obligations.PointTimersAndSettlingMoveThePoint := by
  have stale {s : State} (i : PointIx) (ha : s.line.held = false) :
      exec (.staleTimerExpiry i) s = .next (arbitrate (staleExpiry i s)) := perform_awake s _ ha
  have settle {s : State} (i : PointIx) (ha : s.line.held = false) :
      exec (.settleTimerExpiry i) s = .next (arbitrate (settleExpiry i s)) := perform_awake s _ ha
  refine ⟨fun s i ha ht ho => ⟨fun hl => ?_, fun hs => ?_, fun hs => ?_⟩, fun s i ha ht hs => ?_, fun s i =>
    settleStart_settledFrom⟩
  · obtain ⟨t, gone, same, others, handed, frame⟩ := goStale_of_other ho
    refine ⟨t, ?_, ?_, fun j hj => ?_, ⟨fun j hj hlj => ?_, fun hn => ?_⟩, frame⟩
    · rw [stale i ha, staleExpiry_live ht hl, gone]
    · rw [same, stalePoint]
      simp only [liveSubstitute_isSome]
    · rw [others j hj, collapsedPoint_eq]
    · rw [handed, staleNotice, liveSubstitute_some.2 ⟨hj, hlj⟩]
      rfl
    · have none : liveSubstitute s s.points[i] = none := by
        refine Option.eq_none_iff_forall_ne_some.2 fun j hj => ?_
        exact hn j (liveSubstitute_some.1 hj).1 (liveSubstitute_some.1 hj).2
      rw [handed, staleNotice, none]
      rfl
  · rw [stale i ha, staleExpiry_never ht hs]
    rfl
  · rw [stale i ha, staleExpiry_stale ht hs]
    rfl
  · obtain ⟨t, resumed, same, others, frame⟩ := resumeFollowers_set (s := s) (i := i)
      (p := { s.points[i] with state := .fresh, settleTimer := none }) (follows_of_state (other := .fresh) rfl (by decide))
      (follows_of_state hs (by decide))
    refine ⟨t, ?_, same, fun j hj => ?_, frame⟩
    · rw [settle i ha, settleExpiry_settling ht hs, resumed]
    · rw [others j hj, resumedPoint_eq]

end Sys2Proof.Machine
end

section
/-! SUPPORT. One entry of a SAMPLE frame (R24, R31 to R37, R44). -/

namespace Sys2Proof.Machine

/-! ### The point an entry reaches (R24) -/

theorem holdsKey_iff {node channel : Nat} {p : Point} : holdsKey node channel p = true ↔
    p.state ≠ .unused ∧ p.defn.node = node ∧ p.defn.channel = channel := by
  simp [holdsKey, and_assoc]

theorem pointEnabled_iff {p : Point} : pointEnabled p = true ↔ p.state ≠ .unused ∧ p.state ≠ .disabled := by
  simp [pointEnabled]

section
variable {s : State} {i : PointIx} {source channel : Nat}

theorem Reaches.found (h : Reaches source channel i s) : findIx (holdsKey source channel) s.points = some i := by
  refine findIx_eq_some (holdsKey_iff.2 ⟨h.enabled.1, h.key⟩) fun j hj => ?_
  obtain ⟨used, key⟩ := holdsKey_iff.1 hj
  exact Classical.byContradiction fun hne => h.only j hne used key

theorem Reaches.sampleEntry (h : Reaches source channel i s) (fault : Bool) (raw : Nat) :
    sampleEntry source channel fault raw s = sampleEnabled i fault raw s := by
  rw [Machine.sampleEntry, h.found]
  exact if_pos (pointEnabled_iff.2 h.enabled)

theorem Reaches.faulted (h : Reaches source channel i s) (raw : Nat) :
    Machine.sampleEntry source channel true raw s = setPoint i (faultedPoint s.points[i]) s :=
  h.sampleEntry true raw

theorem Reaches.outOfRange (h : Reaches source channel i s) {raw : Nat} (hr : rawLimit s.points[i].defn.rawWidth < raw) :
    Machine.sampleEntry source channel false raw s = setPoint i (outOfRangePoint s.points[i]) s :=
  (h.sampleEntry false raw).trans (if_pos hr)

theorem Reaches.inRange (h : Reaches source channel i s) {raw : Nat} (hr : raw ≤ rawLimit s.points[i].defn.rawWidth) :
    Machine.sampleEntry source channel false raw s = takeCandidate i s.points[i] raw s :=
  (h.sampleEntry false raw).trans (if_neg (Nat.not_lt.2 hr))

/-- An entry that no enabled record matches is passed over. -/
theorem sampleEntry_unmatched {fault : Bool} {raw : Nat} (h : ∀ i : PointIx,
    s.points[i].defn.node = source ∧ s.points[i].defn.channel = channel →
      s.points[i].state = .unused ∨ s.points[i].state = .disabled) :
    sampleEntry source channel fault raw s = s := by
  unfold sampleEntry
  split
  · next i hi =>
    refine if_neg fun he => ?_
    obtain ⟨hu, hd⟩ := pointEnabled_iff.1 he
    exact (h i (holdsKey_iff.1 (findIx_some hi)).2).elim hu hd
  · rfl

end

/-! ### The spike test (R34) -/

theorem clampedFlag_eq (d : PointDef) (raw : Nat) :
    clampedFlag d raw = decide (candidateValue d raw ≠ engineering d raw) := by
  simp [clampedFlag, bne, decide_not, beq_eq_decide]

/-- The spike test is applied to an enabled point outside NEVER whose max step is above 0. -/
theorem spikeTested_iff {p : Point} (he : p.state ≠ .unused ∧ p.state ≠ .disabled) :
    spikeTested p = true ↔ 0 < p.defn.maxStep ∧ p.state ≠ .never := by
  rw [spikeTested, Bool.and_eq_true, decide_eq_true_iff]
  refine and_congr_right fun _ => ?_
  cases h : p.state <;> simp_all

theorem spikeDistance_le_iff {v w : Int} {n : Nat} : spikeDistance v w ≤ n ↔ ¬(n : Int) < |v - w| := by
  rw [spikeDistance, Int.not_lt, Int.abs_eq_natAbs, Int.ofNat_le]

/-- R34: the candidate is a spike for this point. -/
def IsSpike (s : State) (i : PointIx) (v : Int) : Prop :=
  (0 < s.points[i].defn.maxStep ∧ s.points[i].state ≠ .never) ∧
    (s.points[i].defn.maxStep : Int) < |v - presentedValue s i|

/-- R33 to R35: the record of a point that accepts a sample: the timer, the count, the time, CLAMPED, and the streak of
a tested one cleared. -/
def acceptedRecord (s : State) (i : PointIx) (raw : Nat) : Point :=
  { s.points[i] with
    clamped := clampedFlag s.points[i].defn raw
    staleTimer := some (s.points[i].defn.staleLimit * 100)
    accepted := min (s.points[i].accepted + 1) 65535
    lastAccepted := some (s.timeBase % 2 ^ 32)
    spikeCount := if 0 < s.points[i].defn.maxStep ∧ s.points[i].state ≠ .never then 0 else s.points[i].spikeCount
    spikeSide := if 0 < s.points[i].defn.maxStep ∧ s.points[i].state ≠ .never then .above else s.points[i].spikeSide }

section
variable {s : State} {i : PointIx} {raw : Nat} (he : s.points[i].state ≠ .unused ∧ s.points[i].state ≠ .disabled)
include he

/-- R34: a spike that is not the third of its side is rejected. -/
theorem takeCandidate_spike (hs : IsSpike s i (candidateValue s.points[i].defn raw))
    (h3 : spikeStreak s.points[i] (spikeSideOf (candidateValue s.points[i].defn raw) (presentedValue s i)) ≠ 3) :
    takeCandidate i s.points[i] raw s = setPoint i
      (spikedPoint (spikeSideOf (candidateValue s.points[i].defn raw) (presentedValue s i))
        (spikeStreak s.points[i] (spikeSideOf (candidateValue s.points[i].defn raw) (presentedValue s i)))
        { s.points[i] with clamped := clampedFlag s.points[i].defn raw }) s := by
  obtain ⟨tested, far⟩ := hs
  have ht := (spikeTested_iff (p := { s.points[i] with clamped := clampedFlag s.points[i].defn raw }) he).2 tested
  unfold takeCandidate
  dsimp only
  rw [if_pos ht, if_neg fun near => spikeDistance_le_iff.1 near far]
  exact if_neg h3

/-- R34, R35: any other candidate is accepted. -/
theorem takeCandidate_accepted (hs : ¬IsSpike s i (candidateValue s.points[i].defn raw) ∨
      spikeStreak s.points[i] (spikeSideOf (candidateValue s.points[i].defn raw) (presentedValue s i)) = 3) :
    takeCandidate i s.points[i] raw s =
      acceptSample i (acceptedRecord s i raw) (candidateValue s.points[i].defn raw) s := by
  have tested_iff := spikeTested_iff (p := { s.points[i] with clamped := clampedFlag s.points[i].defn raw }) he
  unfold takeCandidate acceptedRecord
  dsimp only
  split
  · next tested =>
    have ht := tested_iff.1 tested
    rw [if_pos ht, if_pos ht]
    split
    · rfl
    · next far =>
      have third := hs.resolve_left fun h => far (spikeDistance_le_iff.2 fun hf => h ⟨ht, hf⟩)
      exact if_pos third
  · next untested =>
    have hn := mt tested_iff.2 untested
    rw [if_neg hn, if_neg hn]
    rfl

end

/-! ### An accepted sample (R36, R37, R44) -/

section
variable {s : State} {i : PointIx} {p : Point} {v : Int}

theorem acceptSample_fresh (hs : p.state = .fresh) : acceptSample i p v s = { s with
    points := s.points.set i (freshPoint v p), handed := s.handed ++ [.valueReport i v] } := by
  rw [acceptSample, hs]
  rfl

theorem acceptSample_settling (hs : p.state = .settling) :
    acceptSample i p v s = { s with points := s.points.set i p } := by
  rw [acceptSample, hs]
  rfl

theorem acceptSample_streak (hs : p.state = .staleHeld ∨ p.state = .staleSub)
    (hr : p.recovery + 1 ≠ p.defn.recoverCount) :
    acceptSample i p v s = { s with points := s.points.set i { p with recovery := p.recovery + 1 } } := by
  rw [acceptSample]
  rcases hs with hs | hs <;> rw [hs] <;> exact if_neg hr

/-- R36, R37, R44: a point in NEVER takes the value and becomes FRESH, and so does a stale one that recovers, which
offers POINT_RECOVERED; its followers resume following it, and the value is reported. -/
theorem acceptSample_recovers (hs : p.state = .never ∨
      ((p.state = .staleHeld ∨ p.state = .staleSub) ∧ p.recovery + 1 = p.defn.recoverCount)) :
    ∃ t, acceptSample i p v s = t ∧ t.points[i] = freshPoint v p ∧
      (∀ j : PointIx, j ≠ i → t.points[j] = resumedPoint i s.points[j]) ∧
      t.handed = s.handed ++ (if p.state = .never then [] else [.noticeOffer .pointRecovered i.val v]) ++
        ((followersIn .staleHeld i (s.points.set i (freshPoint v p))).map
          fun j => .noticeOffer .substituteOn j.val i.val) ++ [.valueReport i v] ∧
      t = { s with points := t.points, handed := t.handed } := by
  have resumed : acceptSample i p v s = reportValue i v (resumeFollowers i (handAll
      (if p.state = .never then [] else [.noticeOffer .pointRecovered i.val v]) (setPoint i (freshPoint v p) s))) := by
    rw [acceptSample]
    rcases hs with hs | ⟨hs | hs, hr⟩ <;> rw [hs]
    · simp [handAll, setPoint]
    · exact if_pos hr
    · exact if_pos hr
  refine ⟨_, resumed.trans (congrArg (reportValue i v) (resumeFollowers_eq _ _)), ?_, fun j hj => ?_, rfl, rfl⟩
  · exact get_mapTable_set_same.trans (resumedPoint_of_not (follows_of_state (other := .fresh) rfl (by decide)))
  · exact get_mapTable_set_other hj

end

end Sys2Proof.Machine
end

section
/-! THEOREMS. The entries of a SAMPLE frame. -/

namespace Sys2Proof.Machine

/-- Settles O14. -/
theorem rejectedEntriesCountAlone : Obligations.RejectedEntriesCountAlone := fun _ _ _ _ raw h =>
  ⟨h.faulted raw, fun hr => h.outOfRange hr⟩

/-- Settles O15, by the spike test and then by the state of the point. -/
theorem acceptedEntriesFollowTheState : Obligations.AcceptedEntriesFollowTheState := by
  refine ⟨fun s source channel fault raw h => sampleEntry_unmatched h, fun s i source channel raw h hr => ?_⟩
  have clamped := clampedFlag_eq s.points[i].defn raw
  dsimp only
  refine ⟨fun spike third => ?_, fun ok => ?_⟩
  · rw [h.inRange hr, takeCandidate_spike h.enabled spike third, clamped]
    rfl
  · have accepted : sampleEntry source channel false raw s =
        acceptSample i (acceptedRecord s i raw) (candidateValue s.points[i].defn raw) s :=
      (h.inRange hr).trans (takeCandidate_accepted h.enabled (ok.symm.imp id And.right))
    rw [acceptedRecord, clamped] at accepted
    refine ⟨fun hs => ?_, fun hs => ?_, fun hs hn => ?_, fun hs => ?_⟩
    · exact accepted.trans (acceptSample_fresh hs)
    · exact accepted.trans (acceptSample_settling hs)
    · exact accepted.trans (acceptSample_streak hs hn)
    · obtain ⟨t, ht, same, others, handed, frame⟩ := acceptSample_recovers (s := s) (i := i)
        (v := candidateValue s.points[i].defn raw) (p := acceptedRecord s i raw) hs
      rw [acceptedRecord, clamped] at ht same
      refine ⟨t, _, accepted.trans ht, same, fun j hj => ?_, fun e => ?_, handed, frame⟩
      · rw [others j hj, resumedPoint_eq]
      · rw [List.mem_map]
        have fresh : follows .staleHeld i (freshPoint (candidateValue s.points[i].defn raw) (acceptedRecord s i raw)) =
          false := follows_of_state (other := .fresh) rfl (by decide)
        constructor
        · rintro ⟨j, hj, rfl⟩
          obtain ⟨hne, held, sub⟩ := (mem_followersIn_set fresh).1 hj
          exact ⟨j, hne, held, sub, rfl⟩
        · rintro ⟨j, hne, held, sub, rfl⟩
          exact ⟨j, (mem_followersIn_set fresh).2 ⟨hne, held, sub⟩, rfl⟩

end Sys2Proof.Machine
end

section
/-! SUPPORT. The requests on points (R26 to R29): what their checks say, and what their owner answers. -/

namespace Sys2Proof.Machine

section
variable {s : State} {i : PointIx} {d : PointDef}

/-! ### WRITE_POINT (R26) -/

/-- R26: another loaded record holds the definition's key. -/
def KeyHeld (s : State) (i : PointIx) (d : PointDef) : Prop :=
  ∃ j : PointIx, j ≠ i ∧ s.points[j].state ≠ .unused ∧ s.points[j].defn.node = d.node ∧
    s.points[j].defn.channel = d.channel

/-- R26: the substitute, when named, is another loaded point of the definition's class. -/
def SubstituteFits (s : State) (i : PointIx) (d : PointDef) : Prop :=
  ∀ j, d.substitute = some j → j ≠ i ∧ s.points[j].state ≠ .unused ∧ s.points[j].defn.cls = d.cls

/-- R26: another loaded record names the point and is of another class. -/
def StrangeFollower (s : State) (i : PointIx) (d : PointDef) : Prop :=
  ∃ j : PointIx, j ≠ i ∧ s.points[j].state ≠ .unused ∧ s.points[j].defn.substitute = some i ∧
    s.points[j].defn.cls ≠ d.cls

/-- Some record other than i satisfies a test. -/
theorem any_other_iff {p : Point → Bool} {ps : Vector Point 256} :
    ((indicesWhere p ps).any fun k => k != i.val) = true ↔ ∃ j : PointIx, j ≠ i ∧ p ps[j] = true := by
  rw [List.any_eq_true]
  constructor
  · rintro ⟨k, hk, hne⟩
    obtain ⟨hlt, hp⟩ := (mem_indicesWhere p ps k).1 hk
    exact ⟨⟨k, hlt⟩, fun e => bne_iff_ne.1 hne (congrArg Fin.val e), hp⟩
  · rintro ⟨j, hne, hp⟩
    exact ⟨j.val, (mem_indicesWhere p ps j).2 ⟨j.isLt, hp⟩, bne_iff_ne.2 fun e => hne (Fin.ext e)⟩

theorem keyTaken_iff : keyTaken i d s = true ↔ KeyHeld s i d := by
  rw [keyTaken, any_other_iff]
  simp only [holdsKey_iff, KeyHeld]

theorem namesPoint_iff {cls : PointClass} : namesPoint s cls i = true ↔
    s.points[i].state ≠ .unused ∧ s.points[i].defn.cls = cls := by
  rw [namesPoint, Bool.and_eq_true, bne_iff_ne, decide_eq_true_iff]

/-- R26, the fourth check. -/
theorem unfit_iff : (!substituteFits i d s) = true ↔ ¬SubstituteFits s i d := by
  rw [Bool.not_eq_true', ← Bool.not_eq_true]
  refine not_congr ?_
  unfold substituteFits SubstituteFits
  split
  · next h => simp [h]
  · next j h => simp only [h, Option.some.injEq, forall_eq', Bool.and_eq_true, bne_iff_ne, namesPoint_iff]

/-- R26, the last check. -/
theorem strange_iff : (!followersFit i d s) = true ↔ StrangeFollower s i d := by
  have other : ∀ k : Nat, (!decide (k = i.val)) = (k != i.val) := fun k => by rw [bne, beq_eq_decide]
  have strange (j : PointIx) : strangeFollower i d.cls s.points[j] = true ↔
      s.points[j].state ≠ .unused ∧ s.points[j].defn.substitute = some i ∧ s.points[j].defn.cls ≠ d.cls := by
    simp only [strangeFollower, Bool.and_eq_true, bne_iff_ne, decide_eq_true_iff, and_assoc, ne_eq]
  rw [followersFit, List.not_all_eq_any_not]
  simp only [other, any_other_iff, strange]
  exact Iff.rfl

theorem pointEnabled_false_iff {p : Point} : ¬pointEnabled p = true ↔ p.state = .unused ∨ p.state = .disabled := by
  rw [pointEnabled_iff, not_and_or, not_not, not_not]

section
variable {args : List Byte} (h : ¬pointEnabled s.points[pointIxAt args 0] = true)
include h

theorem writePoint_range (hd : pointArgs s.line.own args = none) : writePoint args s = refuse .range s := by
  unfold writePoint
  dsimp only
  rw [if_neg h, hd]

/-- R26: the last three checks, once the definition has been read. -/
theorem writePoint_read (hd : pointArgs s.line.own args = some d) : writePoint args s =
    if keyTaken (pointIxAt args 0) d s then refuse .conflict s
    else if !substituteFits (pointIxAt args 0) d s then refuse .range s
    else if !followersFit (pointIxAt args 0) d s then refuse .conflict s
    else done (setPoint (pointIxAt args 0) (clearedPoint d .disabled) s) := by
  unfold writePoint
  dsimp only
  rw [if_neg h, hd]

variable (hd : pointArgs s.line.own args = some d)
include hd

theorem writePoint_keyHeld (hk : KeyHeld s (pointIxAt args 0) d) : writePoint args s = refuse .conflict s :=
  (writePoint_read h hd).trans (if_pos (keyTaken_iff.2 hk))

variable (hk : ¬KeyHeld s (pointIxAt args 0) d)
include hk

theorem writePoint_unfit (hf : ¬SubstituteFits s (pointIxAt args 0) d) : writePoint args s = refuse .range s := by
  rw [writePoint_read h hd, if_neg (mt keyTaken_iff.1 hk), if_pos (unfit_iff.2 hf)]

variable (hf : SubstituteFits s (pointIxAt args 0) d)
include hf

theorem writePoint_strange (hs : StrangeFollower s (pointIxAt args 0) d) :
    writePoint args s = refuse .conflict s := by
  rw [writePoint_read h hd, if_neg (mt keyTaken_iff.1 hk), if_neg fun e => unfit_iff.1 e hf,
    if_pos (strange_iff.2 hs)]

theorem writePoint_loads (hs : ¬StrangeFollower s (pointIxAt args 0) d) :
    writePoint args s = done (setPoint (pointIxAt args 0) (clearedPoint d .disabled) s) := by
  rw [writePoint_read h hd, if_neg (mt keyTaken_iff.1 hk), if_neg fun e => unfit_iff.1 e hf,
    if_neg (mt strange_iff.1 hs)]

end

/-! ### ENABLE_POINT, DISABLE_POINT and CLEAR_SUBSTITUTE (R27 to R29) -/

section
variable {args : List Byte} (hi : pointIxAt args 0 = i)
include hi

theorem enablePoint_unused (hs : s.points[i].state = .unused) : enablePoint args s = refuse .state s := by
  simp only [enablePoint, hi, hs]

theorem enablePoint_disabled (hs : s.points[i].state = .disabled) :
    enablePoint args s = done (setPoint i (enabledPoint s.points[i]) s) := by
  simp only [enablePoint, hi, hs]

theorem enablePoint_enabled (he : s.points[i].state ≠ .unused ∧ s.points[i].state ≠ .disabled) :
    enablePoint args s = done s := by
  simp only [enablePoint, hi]
  split
  · next hs => exact absurd hs he.1
  · next hs => exact absurd hs he.2
  all_goals rfl

theorem disablePoint_unused (hs : s.points[i].state = .unused) : disablePoint args s = refuse .state s := by
  simp only [disablePoint, hi, hs]

theorem disablePoint_disabled (hs : s.points[i].state = .disabled) : disablePoint args s = done s := by
  simp only [disablePoint, hi, hs]

theorem disablePoint_live (hl : live s.points[i]) : disablePoint args s =
    done (collapseFollowers i s.points[i].presented (setPoint i (disabledPoint s.points[i]) s)) := by
  rcases hl with hs | hs <;> simp only [disablePoint, hi, hs]

theorem disablePoint_idle (he : s.points[i].state ≠ .unused ∧ s.points[i].state ≠ .disabled)
    (hl : ¬live s.points[i]) : disablePoint args s = done (setPoint i (disabledPoint s.points[i]) s) := by
  simp only [disablePoint, hi]
  split
  · next hs => exact absurd hs he.1
  · next hs => exact absurd hs he.2
  · rfl
  · next hs => exact absurd (.inl hs) hl
  · next hs => exact absurd (.inr hs) hl
  all_goals rfl

theorem clearSubstitute_refused (hs : s.points[i].state = .unused ∨ s.points[i].state = .staleSub) :
    clearSubstitute args s = refuse .state s := by
  rcases hs with hs | hs <;> simp only [clearSubstitute, hi, hs]

theorem clearSubstitute_cleared (hu : s.points[i].state ≠ .unused) (hf : s.points[i].state ≠ .staleSub) :
    clearSubstitute args s = done (setPoint i { s.points[i] with defn.substitute := none } s) := by
  simp only [clearSubstitute, hi]
  split
  · next hs => exact absurd hs hu
  · next hs => exact absurd hs hf
  all_goals rfl

/-- R28, R43: a point disabled, from FRESH or SETTLING with its followers, from any other state alone. -/
theorem disablePoint_eq (he : s.points[i].state ≠ .unused ∧ s.points[i].state ≠ .disabled) :
    ∃ t, disablePoint args s = done t ∧ t.points[i] = disabledPoint s.points[i] ∧
      (∀ j : PointIx, j ≠ i → t.points[j] =
        if live s.points[i] then collapsedPoint i s.points[i].presented s.points[j] else s.points[j]) ∧
      t = { s with
        points := t.points
        handed := s.handed ++ (if live s.points[i] then followersIn .staleSub i s.points else []).map
          fun j => .noticeOffer .pointStale j.val s.points[i].presented } := by
  have disabled : follows .staleSub i (disabledPoint s.points[i]) = false :=
    follows_of_state (other := .disabled) rfl (by decide)
  rcases Classical.em (live s.points[i]) with hl | hl
  · have unfollowing : follows .staleSub i s.points[i] = false :=
      hl.elim (fun hs => follows_of_state hs (by decide)) fun hs => follows_of_state hs (by decide)
    refine ⟨_, (disablePoint_live hi hl).trans (congrArg done (collapseFollowers_eq _ _ _)), ?_, fun j hj => ?_, ?_⟩
    · exact get_mapTable_set_same.trans (collapsedPoint_of_not disabled)
    · rw [if_pos hl]
      exact get_mapTable_set_other hj
    · rw [if_pos hl, setPoint_points, setPoint_handed, followersIn_set disabled unfollowing]
      rfl
  · refine ⟨_, disablePoint_idle hi he hl, getElem_set_same, fun j hj => ?_, ?_⟩
    · rw [if_neg hl]
      exact getElem_set_other hj
    · rw [if_neg hl, List.map_nil, List.append_nil]
      rfl

end

end

end Sys2Proof.Machine
end

section
/-! THEOREMS. The requests on points. -/

namespace Sys2Proof.Machine

/-- Settles O16, check by check. -/
theorem writePointLoadsTheDefinition : Obligations.WritePointLoadsTheDefinition := by
  constructor
  · rintro slot q s i d h rfl hw hd key fits followers
    exact h.exec_eq (writePoint_loads (pointEnabled_false_iff.2 hw) hd (fun ⟨j, hne, hu, hk⟩ => key j hne hu hk) fits
      fun ⟨j, hne, hu, hj, hc⟩ => hc (followers j hne hu hj))
  · rintro slot q s i h rfl
    refine ⟨fun hw => h.answersOnly (if_pos (Classical.not_not.1 (mt pointEnabled_false_iff.1 hw))), fun hw hd => ?_,
      fun d hw hd => ⟨fun hk => ?_, fun hk hf => ?_, fun hk hf hs => ?_⟩⟩
    all_goals have idle := pointEnabled_false_iff.2 hw
    · exact h.answersOnly (writePoint_range idle hd)
    · exact h.answersOnly (writePoint_keyHeld idle hd hk)
    · exact h.answersOnly (writePoint_unfit idle hd hk hf)
    · exact h.answersOnly (writePoint_strange idle hd hk hf hs)

/-- Settles O17, request by request. -/
theorem pointRequestsChangeThePointAndItsFollowers : Obligations.PointRequestsChangeThePointAndItsFollowers := by
  refine ⟨fun slot q s i h hi hu => ?_, fun slot q s i h hi hu hd => ?_, fun slot q s i h hi hu hf => ?_,
    fun slot q s i hi => ?_⟩
  · split
    · next hd => exact h.exec_eq (enablePoint_disabled hi hd)
    · next hd => exact h.exec_eq (enablePoint_enabled hi ⟨hu, hd⟩)
  · obtain ⟨t, answer, same, others, frame⟩ := disablePoint_eq (s := taken .disablePoint slot s) hi ⟨hu, hd⟩
    refine ⟨t, h.exec_eq answer, same, fun j hj => ?_, frame⟩
    rw [others j hj, collapsedPoint_eq]
    exact (ite_and ..).symm
  · exact h.exec_eq (clearSubstitute_cleared hi hu hf)
  · exact ⟨fun hs => ⟨fun h => h.answersOnly (enablePoint_unused hi hs),
        fun h => h.answersOnly (disablePoint_unused hi hs),
        fun h => h.answersOnly (clearSubstitute_refused hi (.inl hs))⟩,
      fun hs h => h.answersOnly (clearSubstitute_refused hi (.inr hs)),
      fun hs h => h.exec_eq (disablePoint_disabled hi hs)⟩

end Sys2Proof.Machine
end

section
/-! SUPPORT. Layouts (chapter 11.5, R194): the bytes of a field against the field of the arguments at its place, and the
reading of an enumeration's code. -/

namespace Sys2Proof.Machine

/-! ### Fields in their places -/

@[simp] theorem length_u8 (v : Nat) : (u8 v).length = 1 := length_bytesOf 1 v

@[simp] theorem length_u16 (v : Nat) : (u16 v).length = 2 := length_bytesOf 2 v

@[simp] theorem length_u24 (v : Nat) : (u24 v).length = 3 := length_bytesOf 3 v

@[simp] theorem length_u32 (v : Nat) : (u32 v).length = 4 := length_bytesOf 4 v

@[simp] theorem length_s16 (v : Int) : (s16 v).length = 2 := length_bytesOf 2 _

@[simp] theorem length_s24 (v : Int) : (s24 v).length = 3 := length_bytesOf 3 _

section
variable {a rest : List Byte} {k : Nat}

theorem cons_eq_drop {b : Byte} : b :: rest = a.drop k ↔ k < a.length ∧ b.toNat = byteAt a k ∧ rest = a.drop (k + 1) := by
  rcases Nat.lt_or_ge k a.length with h | h
  · have here : byteAt a k = a[k].toNat := by rw [byteAt, List.getD_eq_getElem _ _ h]
    rw [List.drop_eq_getElem_cons h, List.cons.injEq, here, BitVec.toNat_inj]
    exact (and_iff_right h).symm
  · rw [List.drop_eq_nil_of_le h]
    exact ⟨fun e => (List.cons_ne_nil _ _ e).elim, fun e => absurd e.1 (Nat.not_lt.2 h)⟩

theorem nil_eq_drop : [] = a.drop k ↔ a.length ≤ k := by
  rw [eq_comm, List.drop_eq_nil_iff]

theorem u8_eq_drop {v : Nat} (h : v < 256) :
    u8 v ++ rest = a.drop k ↔ k < a.length ∧ v = byteAt a k ∧ rest = a.drop (k + 1) := by
  rw [u8_eq, List.singleton_append, cons_eq_drop, BitVec.toNat_ofNat, Nat.mod_eq_of_lt h]

theorem u16_eq_drop {v : Nat} (h : v < 65536) :
    u16 v ++ rest = a.drop k ↔ k + 1 < a.length ∧ v = wordAt a k ∧ rest = a.drop (k + 2) := by
  have hi := byteAt_lt a k
  have lo := byteAt_lt a (k + 1)
  have word : (v / 256 % 256 = byteAt a k ∧ v % 256 = byteAt a (k + 1)) ↔ v = wordAt a k := by
    unfold wordAt
    omega
  rw [u16_eq, List.cons_append, List.singleton_append, cons_eq_drop, cons_eq_drop, BitVec.toNat_ofNat,
    BitVec.toNat_ofNat, ← word]
  constructor
  · rintro ⟨-, hv, hk, lv, hr⟩
    exact ⟨hk, ⟨hv, lv⟩, hr⟩
  · rintro ⟨hk, ⟨hv, lv⟩, hr⟩
    exact ⟨Nat.lt_of_succ_lt hk, hv, hk, lv, hr⟩

theorem s16_eq_drop {v : Int} (h : -32768 ≤ v ∧ v < 32768) :
    s16 v ++ rest = a.drop k ↔ k + 1 < a.length ∧ v = swordAt a k ∧ rest = a.drop (k + 2) := by
  have word : (v % 65536).toNat = wordAt a k ↔ v = swordAt a k := by
    have := wordAt_lt a k
    unfold swordAt signedOf
    split <;> omega
  rw [← word]
  exact u16_eq_drop (by omega)

theorem s24_eq_drop {v : Int} (h : -8388608 ≤ v ∧ v < 8388608) :
    s24 v ++ rest = a.drop k ↔ k + 2 < a.length ∧ v = s24At a k ∧ rest = a.drop (k + 3) := by
  have hi := byteAt_lt a k
  have lo := wordAt_lt a (k + 1)
  have whole : ((v % 16777216).toNat / 65536 % 256 = byteAt a k ∧
      (v % 16777216).toNat % 65536 = wordAt a (k + 1)) ↔ v = s24At a k := by
    unfold s24At signedOf
    split <;> omega
  have parts : s24 v =
      BitVec.ofNat 8 ((v % 16777216).toNat / 65536) :: u16 ((v % 16777216).toNat % 65536) := by
    show u24 (v % 16777216).toNat = _
    rw [u24_eq, u16_eq]
    refine congrArg (_ :: ·) (congrArg₂ (fun x y => [x, y]) ?_ ?_) <;> apply BitVec.eq_of_toNat_eq <;>
      simp only [BitVec.toNat_ofNat] <;> omega
  rw [parts, List.cons_append, cons_eq_drop, u16_eq_drop (Nat.mod_lt _ (by decide)), BitVec.toNat_ofNat, ← whole]
  constructor
  · rintro ⟨-, hv, hk, lv, hr⟩
    exact ⟨hk, ⟨hv, lv⟩, hr⟩
  · rintro ⟨hk, ⟨hv, lv⟩, hr⟩
    exact ⟨by omega, hv, hk, lv, hr⟩

theorem swordAt_range (a : List Byte) (k : Nat) : -32768 ≤ swordAt a k ∧ swordAt a k < 32768 := by
  have := wordAt_lt a k
  unfold swordAt signedOf
  split <;> omega

theorem s24At_range (a : List Byte) (k : Nat) : -8388608 ≤ s24At a k ∧ s24At a k < 8388608 := by
  have := byteAt_lt a k
  have := wordAt_lt a (k + 1)
  unfold s24At signedOf
  split <;> omega

end

theorem ixByte_eq (o : Option PointIx) : ixByte o = u8 (o.getD 0).val := by cases o <;> rfl

theorem pointIxAt_eq_iff {a : List Byte} {k : Nat} {i : PointIx} : i = pointIxAt a k ↔ i.val = byteAt a k := Fin.ext_iff

theorem bit_zero_le (b : Bool) : bit 0 b ≤ 1 := by cases b <;> decide

/-- A flag read from a byte that is 0 or 1 is laid out as that byte. -/
theorem bit_zero_eq {b : Bool} {n : Nat} : bit 0 b = n ↔ b = decide (n = 1) ∧ n ≤ 1 := by
  cases b <;> simp only [bit] <;> simp <;> omega

/-! ### Readings -/

theorem require_eq_some {c : Bool} {u : Unit} : require c = some u ↔ c = true := by
  cases c <;> simp [require]

theorem guardedIx_eq_some {present : Bool} {k : PointIx} {o : Option PointIx} :
    guardedIx present k = some o ↔ o.isSome = present ∧ o.getD 0 = k := by
  unfold guardedIx
  cases present <;> cases o <;> simp [eq_comm]

theorem pointClassOf_eq_some {c : Nat} {x : PointClass} : pointClassOf c = some x ↔ pointClassCode x = c := by
  constructor
  · intro h
    unfold pointClassOf at h
    split at h <;> cases h <;> rfl
  · rintro rfl
    cases x <;> rfl

theorem pointClassCode_lt (x : PointClass) : pointClassCode x < 7 := by cases x <;> decide

/-! ### Points (R26) -/

theorem pointInRange_iff {own : Nat} {d : PointDef} : PointInRange own d ↔
    d.node ≤ 62 ∧ d.node ≠ own ∧ d.channel ≤ 15 ∧ 9 ≤ d.rawWidth ∧ d.rawWidth ≤ 16 ∧ -32768 ≤ d.gain ∧
      d.gain ≤ 32767 ∧ -65535 ≤ d.offset ∧ d.offset ≤ 65535 ∧
      ((classRange d.cls).1 ≤ d.lo ∧ d.hi ≤ (classRange d.cls).2) ∧ d.lo ≤ d.hi ∧ 1 ≤ d.staleLimit ∧
      d.staleLimit ≤ 6000 ∧ 1 ≤ d.recoverCount ∧ d.recoverCount ≤ 8 ∧ d.maxStep ≤ 65535 ∧ d.settleTime ≤ 600 := by
  obtain ⟨-, -, cls⟩ := d
  cases cls <;> exact Iff.rfl

theorem classRange_within (x : PointClass) : -5000 ≤ (classRange x).1 ∧ (classRange x).2 ≤ 65535 := by
  cases x <;> decide

/-- The layout of a point's definition, field by field. -/
theorem pointDefBytes_eq_drop {own : Nat} {a : List Byte} {d : PointDef} (h : a.length = 25) (range : PointInRange own d) :
    pointDefBytes d = a.drop 1 ↔
      d.node = byteAt a 1 ∧ d.channel = byteAt a 2 ∧ pointClassCode d.cls = byteAt a 3 ∧ d.rawWidth = byteAt a 4 ∧
        d.gain = swordAt a 5 ∧ d.offset = s24At a 7 ∧ d.lo = s24At a 10 ∧ d.hi = s24At a 13 ∧
        d.staleLimit = wordAt a 16 ∧ d.recoverCount = byteAt a 18 ∧ d.maxStep = wordAt a 19 ∧
        bit 0 d.substitute.isSome = byteAt a 21 ∧ (d.substitute.getD 0).val = byteAt a 22 ∧
        d.settleTime = wordAt a 23 := by
  have code := pointClassCode_lt d.cls
  have flag := bit_zero_le d.substitute.isSome
  have index := (d.substitute.getD 0).isLt
  have limits := classRange_within d.cls
  rw [pointInRange_iff] at range
  rw [← List.append_nil (pointDefBytes d)]
  simp (disch := omega) only [pointDefBytes, ixByte_eq, List.append_assoc, u8_eq_drop, u16_eq_drop, s16_eq_drop,
    s24_eq_drop, nil_eq_drop, h, Nat.reduceAdd, Nat.reduceLT, Nat.le_refl, true_and, and_true]

/-- R26: the arguments of WRITE_POINT are read as a definition exactly when it is in range and they are its layout. -/
theorem pointArgs_eq_some {own : Nat} {a : List Byte} {d : PointDef} (h : a.length = 25) :
    pointArgs own a = some d ↔ PointInRange own d ∧ pointDefBytes d = a.drop 1 := by
  rw [and_congr_right (pointDefBytes_eq_drop h), pointInRange_iff, bit_zero_eq]
  obtain ⟨node, channel, cls, rawWidth, gain, offset, lo, hi, staleLimit, recoverCount, maxStep, sub, settleTime⟩ := d
  obtain ⟨gainLo, gainHi⟩ := swordAt_range a 5
  simp only [pointArgs, Option.bind_eq_bind, Option.bind_eq_some_iff, require_eq_some, exists_const,
    Option.some.injEq, PointDef.mk.injEq, existsAndEq, guardedIx_eq_some, pointClassOf_eq_some,
    pointIxAt_eq_iff, Bool.and_eq_true, decide_eq_true_iff, bne_iff_ne, true_and]
  constructor
  · rintro ⟨cls, ⟨present, ix⟩, ⟨⟨node, own⟩, channel⟩, ⟨width, width'⟩, ⟨offset, offset'⟩, ⟨limits, order⟩,
      ⟨⟨⟨stale, stale'⟩, count⟩, count'⟩, ⟨flag, settle⟩, rfl, rfl, rfl, rfl, rfl, rfl, rfl, rfl, rfl, rfl, rfl⟩
    exact ⟨⟨node, own, channel, width, width', gainLo, Int.le_of_lt_add_one gainHi, offset, offset', limits, order,
      stale, stale', count, count', Nat.le_of_lt_succ (wordAt_lt a 19), settle⟩, rfl, rfl, cls, rfl, rfl, rfl, rfl, rfl,
      rfl, rfl, rfl, ⟨present, flag⟩, ix, rfl⟩
  · rintro ⟨⟨node, own, channel, width, width', -, -, offset, offset', limits, order, stale, stale', count, count', -,
      settle⟩, rfl, rfl, cls, rfl, rfl, rfl, rfl, rfl, rfl, rfl, rfl, ⟨present, flag⟩, ix, rfl⟩
    exact ⟨cls, ⟨present, ix⟩, ⟨⟨node, own⟩, channel⟩, ⟨width, width'⟩, ⟨offset, offset'⟩, ⟨limits, order⟩,
      ⟨⟨⟨stale, stale'⟩, count⟩, count'⟩, ⟨flag, settle⟩, rfl, rfl, rfl, rfl, rfl, rfl, rfl, rfl, rfl, rfl, rfl⟩

end Sys2Proof.Machine
end

section
/-! SUPPORT. The arguments of the other fixed layouts (R50, R81, R96, R101, R121, R144), and the Dew Table's. -/

namespace Sys2Proof.Machine

variable {a : List Byte}

/-! ### Enumerations -/

theorem sheetFieldOf_eq_some {c : Nat} {x : Option Sheet} : sheetFieldOf c = some x ↔ sheetCode x = c := by
  constructor
  · intro h
    unfold sheetFieldOf at h
    split at h <;> cases h <;> rfl
  · rintro rfl
    rcases x with _ | _ | _ <;> rfl

theorem ringOf_eq_some {c : Nat} {x : Ring} : ringOf c = some x ↔ ringCode x = c := by
  constructor
  · intro h
    unfold ringOf at h
    split at h <;> cases h <;> rfl
  · rintro rfl
    cases x <;> rfl

theorem bufferTypeOf_eq_some {c : Nat} {x : BufferType} : bufferTypeOf c = some x ↔ bufferTypeCode x = c := by
  constructor
  · intro h
    unfold bufferTypeOf at h
    split at h <;> cases h <;> rfl
  · rintro rfl
    cases x <;> rfl

theorem commitModeOf_eq_some {c : Nat} {x : CommitMode} : commitModeOf c = some x ↔ commitModeCode x = c := by
  constructor
  · intro h
    unfold commitModeOf at h
    split at h <;> cases h <;> rfl
  · rintro rfl
    cases x <;> rfl

theorem sheetCode_lt (x : Option Sheet) : sheetCode x < 3 := by rcases x with _ | _ | _ <;> decide

theorem ringCode_lt (x : Ring) : ringCode x < 3 := by cases x <;> decide

theorem bufferTypeCode_lt (x : BufferType) : bufferTypeCode x < 2 := by cases x <;> decide

theorem commitModeCode_lt (x : CommitMode) : commitModeCode x < 2 := by cases x <;> decide

/-! ### Recovery settings (R50) -/

theorem recoveryArgs_eq_some {r : Recovery} (h : a.length = 6) :
    recoveryArgs a = some r ↔ RecoveryInRange r ∧ recoveryBytes (some r) = a := by
  have layout (range : RecoveryInRange r) : recoveryBytes (some r) = a ↔
      r.supply.val = byteAt a 0 ∧ r.ret.val = byteAt a 1 ∧ r.flow.val = byteAt a 2 ∧ r.fluid = wordAt a 3 ∧
        r.shift = byteAt a 5 := by
    have supply := r.supply.isLt
    have ret := r.ret.isLt
    have flow := r.flow.isLt
    unfold RecoveryInRange at range
    conv_lhs => rw [← List.append_nil (recoveryBytes (some r)), ← List.drop_zero (l := a)]
    simp (disch := omega) only [recoveryBytes, List.append_assoc, u8_eq_drop, u16_eq_drop, nil_eq_drop, h,
      Nat.reduceAdd, Nat.reduceLT, Nat.le_refl, true_and, and_true]
  rw [and_congr_right layout, RecoveryInRange]
  obtain ⟨supply, ret, flow, fluid, shift⟩ := r
  simp only [recoveryArgs, Option.bind_eq_bind, Option.bind_eq_some_iff, require_eq_some, exists_const,
    Option.some.injEq, Recovery.mk.injEq, Bool.and_eq_true, decide_eq_true_iff, ← pointIxAt_eq_iff]
  constructor
  · rintro ⟨⟨⟨low, high⟩, shift⟩, rfl, rfl, rfl, rfl, rfl⟩
    exact ⟨⟨low, high, shift⟩, rfl, rfl, rfl, rfl, rfl⟩
  · rintro ⟨⟨low, high, shift⟩, rfl, rfl, rfl, rfl, rfl⟩
    exact ⟨⟨⟨low, high⟩, shift⟩, rfl, rfl, rfl, rfl, rfl⟩

/-! ### Sheets (R81) -/

theorem sheetArgs_eq_some {d : SheetDef} (h : a.length = 22) :
    sheetArgs a = some d ↔ SheetInRange d ∧ sheetDefBytes d = a.drop 1 := by
  have layout (range : SheetInRange d) : sheetDefBytes d = a.drop 1 ↔
      d.ice.val = byteAt a 1 ∧ d.near.val = byteAt a 2 ∧ d.air.val = byteAt a 3 ∧ d.humidity.val = byteAt a 4 ∧
        bit 0 d.haze.isSome = byteAt a 5 ∧ (d.haze.getD 0).val = byteAt a 6 ∧ d.k = wordAt a 7 ∧
        d.watchMargin = swordAt a 9 ∧ d.fogMargin = swordAt a 11 ∧ d.hysteresis = wordAt a 13 ∧
        d.hazeLimit = wordAt a 15 ∧ d.hazeClear = wordAt a 17 ∧ d.recoverTime = wordAt a 19 ∧
        d.fogPeriod = byteAt a 21 := by
    have ice := d.ice.isLt
    have near := d.near.isLt
    have air := d.air.isLt
    have humidity := d.humidity.isLt
    have flag := bit_zero_le d.haze.isSome
    have haze := (d.haze.getD 0).isLt
    unfold SheetInRange at range
    conv_lhs => rw [← List.append_nil (sheetDefBytes d)]
    simp (disch := omega) only [sheetDefBytes, ixByte_eq, List.append_assoc, u8_eq_drop, u16_eq_drop, s16_eq_drop,
      nil_eq_drop, h, Nat.reduceAdd, Nat.reduceLT, Nat.le_refl, true_and, and_true]
  rw [and_congr_right layout, SheetInRange, bit_zero_eq]
  obtain ⟨ice, near, air, humidity, haze, k, watch, fog, hysteresis, limit, clear, recover, period⟩ := d
  simp only [sheetArgs, Option.bind_eq_bind, Option.bind_eq_some_iff, require_eq_some, exists_const,
    Option.some.injEq, SheetDef.mk.injEq, existsAndEq, guardedIx_eq_some, Bool.and_eq_true, decide_eq_true_iff,
    true_and, ← pointIxAt_eq_iff]
  constructor
  · rintro ⟨⟨present, ix⟩, ⟨flag, k⟩, ⟨⟨⟨w, w'⟩, f⟩, f'⟩, ⟨order, hysteresis⟩, ⟨limit, clear⟩, ⟨⟨⟨r, r'⟩, p⟩, p'⟩,
      rfl, rfl, rfl, rfl, rfl, rfl, rfl, rfl, rfl, rfl, rfl, rfl⟩
    exact ⟨⟨k, f, order, w', hysteresis, clear, Nat.le_of_lt_succ (wordAt_lt a 15), r, r', p, p'⟩, rfl, rfl, rfl, rfl,
      ⟨present, flag⟩, ix, rfl, rfl, rfl, rfl, rfl, rfl, rfl, rfl⟩
  · rintro ⟨⟨k, f, order, w', hysteresis, clear, -, r, r', p, p'⟩, rfl, rfl, rfl, rfl, ⟨present, flag⟩, ix, rfl, rfl,
      rfl, rfl, rfl, rfl, rfl, rfl⟩
    have w : -2000 ≤ swordAt a 9 := f.trans order.le
    have f' : swordAt a 11 ≤ 5000 := order.le.trans w'
    exact ⟨⟨present, ix⟩, ⟨flag, k⟩, ⟨⟨⟨w, w'⟩, f⟩, f'⟩, ⟨order, hysteresis⟩, ⟨Nat.one_le_of_lt clear, clear⟩,
      ⟨⟨⟨r, r'⟩, p⟩, p'⟩, rfl, rfl, rfl, rfl, rfl, rfl, rfl, rfl, rfl, rfl, rfl, rfl⟩

/-! ### The cap table (R96) -/

theorem capsInRange_iff {t : CapTable} : CapsInRange t ↔
    ((t.clear.wf = true ∧ t.watch.wf = true) ∧ t.fog.wf = true) ∧ t.recover.wf = true := by
  have caps (c : Caps) : c.wf = true ↔ c.iceEdge ≤ 1000 ∧ c.mid ≤ 1000 ∧ c.upper ≤ 1000 := by
    simp only [Caps.wf, Bool.and_eq_true, decide_eq_true_iff, and_assoc]
  simp only [caps]
  exact ⟨fun h => ⟨⟨⟨h .clear, h .watch⟩, h .fog⟩, h .recover⟩, fun ⟨⟨⟨c, w⟩, f⟩, r⟩ x => by cases x <;> assumption⟩

theorem capsBytes_eq_drop {c : Caps} {k : Nat} {rest : List Byte} (hc : c.wf = true) :
    capsBytes c ++ rest = a.drop k ↔ k + 5 < a.length ∧ c = capsAt a k ∧ rest = a.drop (k + 6) := by
  obtain ⟨ice, mid, upper⟩ := c
  simp only [Caps.wf, Bool.and_eq_true, decide_eq_true_iff] at hc
  simp (disch := omega) only [capsBytes, List.append_assoc, u16_eq_drop, capsAt, Caps.mk.injEq]
  constructor
  · rintro ⟨-, i, -, m, length, u, r⟩
    exact ⟨length, ⟨i, m, u⟩, r⟩
  · rintro ⟨length, ⟨i, m, u⟩, r⟩
    exact ⟨by omega, i, by omega, m, length, u, r⟩

theorem capTableArgs_eq_some {t : CapTable} (h : a.length = 24) :
    capTableArgs a = some t ↔ CapsInRange t ∧ capTableBytes t = a := by
  have layout (range : CapsInRange t) : capTableBytes t = a ↔
      t.clear = capsAt a 0 ∧ t.watch = capsAt a 6 ∧ t.fog = capsAt a 12 ∧ t.recover = capsAt a 18 := by
    obtain ⟨⟨⟨clear, watch⟩, fog⟩, recover⟩ := capsInRange_iff.1 range
    conv_lhs => rw [← List.append_nil (capTableBytes t), ← List.drop_zero (l := a)]
    simp only [capTableBytes, List.append_assoc, capsBytes_eq_drop clear, capsBytes_eq_drop watch,
      capsBytes_eq_drop fog, capsBytes_eq_drop recover, nil_eq_drop, h, Nat.reduceAdd, Nat.reduceLT, Nat.le_refl,
      true_and, and_true]
  rw [and_congr_right layout, capsInRange_iff]
  obtain ⟨clear, watch, fog, recover⟩ := t
  simp only [capTableArgs, Option.bind_eq_bind, Option.bind_eq_some_iff, require_eq_some, exists_const,
    Option.some.injEq, CapTable.mk.injEq, Bool.and_eq_true]
  constructor <;> rintro ⟨range, rfl, rfl, rfl, rfl⟩ <;> exact ⟨range, rfl, rfl, rfl, rfl⟩

/-! ### Buffers (R121) -/

theorem bufferArgs_eq_some {c : BufferConfig} (h : a.length = 6) : bufferArgs a = some c ↔ ConfigInRange c ∧
    u8 (bufferTypeCode c.type) ++ u8 (commitModeCode c.commitMode) ++ u8 c.filterValue ++ u8 c.filterMask ++
      u8 (if c.priority then 1 else 0) = a.drop 1 := by
  have layout (range : ConfigInRange c) : u8 (bufferTypeCode c.type) ++ u8 (commitModeCode c.commitMode) ++
      u8 c.filterValue ++ u8 c.filterMask ++ u8 (bit 0 c.priority) = a.drop 1 ↔
      bufferTypeCode c.type = byteAt a 1 ∧ commitModeCode c.commitMode = byteAt a 2 ∧ c.filterValue = byteAt a 3 ∧
        c.filterMask = byteAt a 4 ∧ bit 0 c.priority = byteAt a 5 := by
    have type := bufferTypeCode_lt c.type
    have mode := commitModeCode_lt c.commitMode
    have priority := bit_zero_le c.priority
    unfold ConfigInRange at range
    conv_lhs => rw [← List.append_nil (_ ++ u8 (bit 0 c.priority))]
    simp (disch := omega) only [List.append_assoc, u8_eq_drop, nil_eq_drop, h, Nat.reduceAdd, Nat.reduceLT,
      Nat.le_refl, true_and, and_true]
  refine Iff.trans ?_ (and_congr_right layout).symm
  rw [ConfigInRange, bit_zero_eq]
  obtain ⟨type, mode, value, mask, priority⟩ := c
  simp only [bufferArgs, Option.bind_eq_bind, Option.bind_eq_some_iff, require_eq_some, exists_const,
    Option.some.injEq, BufferConfig.mk.injEq, existsAndEq, bufferTypeOf_eq_some, commitModeOf_eq_some,
    Bool.and_eq_true, decide_eq_true_iff, true_and]
  constructor
  · rintro ⟨type, mode, ⟨⟨value, mask⟩, flag⟩, rfl, rfl, priority⟩
    exact ⟨⟨value, mask⟩, type, mode, rfl, rfl, priority.symm, flag⟩
  · rintro ⟨⟨value, mask⟩, type, mode, rfl, rfl, priority, flag⟩
    exact ⟨type, mode, ⟨⟨value, mask⟩, flag⟩, rfl, rfl, priority.symm⟩

/-! ### The Dew Table (chapter 11.5) -/

theorem dewArgs_bytes (h : a.length = 34) : (dewArgs a).flatMap u16 = a.drop 2 := by
  rw [← List.append_nil (List.flatMap _ _)]
  simp only [dewArgs, List.range, List.range.loop, List.map, List.flatMap_cons, List.flatMap_nil, List.nil_append,
    List.append_assoc, u16_eq_drop (wordAt_lt _ _), nil_eq_drop, h, Nat.reduceAdd, Nat.reduceMul, Nat.reduceLT,
    Nat.le_refl, and_true]

end Sys2Proof.Machine
end

section
/-! SUPPORT. The arguments that hold actuator addresses (R56, R101, R144). -/

namespace Sys2Proof.Machine

variable {a : List Byte}

/-! ### Conditions and addresses -/

section
variable {α : Type} {p : Prop} [Decidable p] {c d e : Bool} {x : Option α}

theorem ite_eq_true : (if p then c else d) = true ↔ if p then c = true else d = true := by
  split <;> exact Iff.rfl

/-! A condition that depends on a case, before the same rest of a reading, is one condition. -/

theorem ite_require : (if p then (require c).bind fun _ => x else (require d).bind fun _ => x) =
    (require (if p then c else d)).bind fun _ => x := by
  split <;> rfl

theorem ite_require_two : (if p then (require c).bind fun _ => (require e).bind fun _ => x
    else (require d).bind fun _ => x) = (require (if p then c && e else d)).bind fun _ => x := by
  split
  · cases c <;> rfl
  · rfl

theorem ite_require_else_two : (if p then (require c).bind fun _ => x
    else (require d).bind fun _ => (require e).bind fun _ => x) =
    (require (if p then c else d && e)).bind fun _ => x := by
  split
  · rfl
  · cases d <;> rfl

end

theorem addrInRange_iff {n c : Nat} : addrInRange n c = true ↔ AddrInRange ⟨n, c⟩ := by
  rw [addrInRange, Bool.and_eq_true, decide_eq_true_iff, decide_eq_true_iff]
  exact Iff.rfl

theorem addrBytes_eq (o : Option ActAddr) :
    addrBytes o = u8 (o.getD ⟨0, 0⟩).node ++ u8 (o.getD ⟨0, 0⟩).channel := by
  cases o <;> rfl

theorem AddrInRange.lt {x : ActAddr} (h : AddrInRange x) : x.node < 256 ∧ x.channel < 256 := by
  unfold AddrInRange at h
  omega

theorem addr_lt_of_forall {o : Option ActAddr} (h : ∀ x, o = some x → AddrInRange x) :
    (o.getD ⟨0, 0⟩).node < 256 ∧ (o.getD ⟨0, 0⟩).channel < 256 := by
  cases o with
  | none => exact ⟨by decide, by decide⟩
  | some x => exact (h x rfl).lt

/-! ### Zones (R101) -/

theorem zoneDefBytes_eq_drop {d : ZoneDef} (h : a.length = 13) (range : ZoneInRange d) : zoneDefBytes d = a.drop 1 ↔
    sheetCode d.sheet = byteAt a 1 ∧ ringCode d.ring = byteAt a 2 ∧ d.valve.node = byteAt a 3 ∧
      d.valve.channel = byteAt a 4 ∧ d.design = wordAt a 5 ∧ bit 0 d.boost.isSome = byteAt a 7 ∧
      (d.boost.getD ⟨0, 0⟩).node = byteAt a 8 ∧ (d.boost.getD ⟨0, 0⟩).channel = byteAt a 9 ∧
      d.stageCount = byteAt a 10 ∧ d.stagePower = wordAt a 11 := by
  obtain ⟨valve, -, design, absent, boosted⟩ := range
  have sheet := sheetCode_lt d.sheet
  have ring := ringCode_lt d.ring
  have flag := bit_zero_le d.boost.isSome
  have boost := addr_lt_of_forall fun x hx => (boosted x hx).1
  have stages : d.stageCount < 256 ∧ d.stagePower < 65536 := by
    cases hb : d.boost with
    | none => exact ⟨(absent hb).1 ▸ by decide, (absent hb).2 ▸ by decide⟩
    | some x =>
      obtain ⟨-, -, count, -, power⟩ := boosted x hb
      omega
  have valve := valve.lt
  conv_lhs => rw [← List.append_nil (zoneDefBytes d)]
  simp (disch := omega) only [zoneDefBytes, addrBytes_eq, Option.getD_some, List.append_assoc, u8_eq_drop, u16_eq_drop,
    nil_eq_drop, h, Nat.reduceAdd, Nat.reduceLT, Nat.le_refl, true_and, and_true]

theorem zoneArgs_eq_some {d : ZoneDef} (h : a.length = 13) :
    zoneArgs a = some d ↔ ZoneInRange d ∧ zoneDefBytes d = a.drop 1 := by
  rw [and_congr_right (zoneDefBytes_eq_drop h), ZoneInRange]
  obtain ⟨sheet, ring, ⟨node, channel⟩, design, boost, stages, power⟩ := d
  simp only [zoneArgs, Option.bind_eq_bind, ite_require_two, Option.bind_eq_some_iff, require_eq_some, exists_const,
    Option.some.injEq, ZoneDef.mk.injEq, ActAddr.mk.injEq, existsAndEq, sheetFieldOf_eq_some, ringOf_eq_some,
    ite_eq_true, Bool.and_eq_true, decide_eq_true_iff, true_and, addrInRange_iff]
  constructor
  · rintro ⟨sheet, ring, ⟨⟨⟨valve, d⟩, d'⟩, flag⟩, fields, ⟨rfl, rfl⟩, rfl, rfl, rfl, rfl⟩
    split at fields
    · next present =>
      obtain ⟨⟨⟨boost, s⟩, s'⟩, p, p'⟩ := fields
      rw [if_pos present]
      refine ⟨⟨valve, d, d', by simp, ?_⟩, sheet, ring, rfl, rfl, rfl, present.symm, rfl, rfl, rfl, rfl⟩
      rintro _ ⟨⟩
      exact ⟨boost, s, s', p, p'⟩
    · next absent =>
      obtain ⟨⟨⟨node, channel⟩, s⟩, p⟩ := fields
      rw [if_neg absent]
      exact ⟨⟨valve, d, d', fun _ => ⟨s, p⟩, by simp⟩, sheet, ring, rfl, rfl, rfl,
        (Nat.lt_one_iff.1 (lt_of_le_of_ne flag absent)).symm, node.symm, channel.symm, rfl, rfl⟩
  · rintro ⟨⟨valve, d, d', absent, boosted⟩, sheet, ring, rfl, rfl, rfl, flag, node, channel, rfl, rfl⟩
    cases boost with
    | none =>
      obtain ⟨s, p⟩ := absent rfl
      have absent : byteAt a 7 ≠ 1 := flag ▸ by decide
      rw [if_neg absent, if_neg absent]
      exact ⟨sheet, ring, ⟨⟨⟨valve, d⟩, d'⟩, flag ▸ by decide⟩, ⟨⟨⟨node.symm, channel.symm⟩, s⟩, p⟩, ⟨rfl, rfl⟩, rfl,
        rfl, rfl, rfl⟩
    | some x =>
      obtain ⟨boost, s, s', p, p'⟩ := boosted x rfl
      have present : byteAt a 7 = 1 := flag.symm
      rw [if_pos present, if_pos present, ← node, ← channel]
      exact ⟨sheet, ring, ⟨⟨⟨valve, d⟩, d'⟩, present.le⟩, ⟨⟨⟨boost, s⟩, s'⟩, p, p'⟩, ⟨rfl, rfl⟩, rfl, rfl, rfl, rfl⟩

/-! ### Groups (R144) -/

/-- Three flags in a byte. -/
theorem three_bits_eq {p q r : Bool} {n : Nat} : bit 0 p + bit 1 q + bit 2 r = n ↔
    n ≤ 7 ∧ decide (n % 2 = 1) = p ∧ decide (n / 2 % 2 = 1) = q ∧ decide (n / 4 % 2 = 1) = r := by
  constructor
  · rintro rfl
    cases p <;> cases q <;> cases r <;> decide
  · rintro ⟨hn, rfl, rfl, rfl⟩
    interval_cases n <;> rfl

theorem groupArgs_eq_some {d : GroupDef} (h : a.length = 7) :
    groupArgs a = some d ↔ GroupInRange d ∧ groupDefBytes d = a.drop 1 := by
  have layout (range : GroupInRange d) : groupDefBytes d = a.drop 1 ↔
      d.dimmer.node = byteAt a 1 ∧ d.dimmer.channel = byteAt a 2 ∧ d.rated = wordAt a 3 ∧
        sheetCode d.sheet = byteAt a 5 ∧ bit 0 d.hazeSource + bit 1 d.near1 + bit 2 d.near2 = byteAt a 6 := by
    obtain ⟨dimmer, rated, -⟩ := range
    have dimmer := dimmer.lt
    have sheet := sheetCode_lt d.sheet
    have flags := (three_bits_eq (p := d.hazeSource) (q := d.near1) (r := d.near2)).1 rfl
    conv_lhs => rw [← List.append_nil (groupDefBytes d)]
    simp (disch := omega) only [groupDefBytes, addrBytes_eq, Option.getD_some, List.append_assoc, u8_eq_drop,
      u16_eq_drop, nil_eq_drop, h, Nat.reduceAdd, Nat.reduceLT, Nat.le_refl, true_and, and_true]
  rw [and_congr_right layout, GroupInRange, three_bits_eq]
  obtain ⟨⟨node, channel⟩, rated, sheet, haze, near1, near2⟩ := d
  simp only [groupArgs, Option.bind_eq_bind, Option.bind_eq_some_iff, require_eq_some, exists_const,
    Option.some.injEq, GroupDef.mk.injEq, ActAddr.mk.injEq, existsAndEq, sheetFieldOf_eq_some, Bool.and_eq_true,
    decide_eq_true_iff, true_and, addrInRange_iff]
  have source : (sheet.isSome || !decide (byteAt a 6 % 2 = 1)) = true ↔
      (sheet = none → decide (byteAt a 6 % 2 = 1) = false) := by
    cases sheet <;> simp
  rw [source]
  constructor
  · rintro ⟨code, ⟨⟨dimmer, rated⟩, flags⟩, haze, ⟨rfl, rfl⟩, rfl, rfl, rfl, rfl⟩
    exact ⟨⟨dimmer, rated, haze⟩, rfl, rfl, rfl, code, flags, rfl, rfl, rfl⟩
  · rintro ⟨⟨dimmer, rated, haze⟩, rfl, rfl, rfl, code, flags, rfl, rfl, rfl⟩
    exact ⟨code, ⟨⟨dimmer, rated⟩, flags⟩, haze, ⟨rfl, rfl⟩, rfl, rfl, rfl, rfl⟩

/-! ### Consumers (R56) -/

theorem consumerKindOf_eq_some {c : Nat} {x : ConsumerKind} : consumerKindOf c = some x ↔ consumerKindCode x = c := by
  constructor
  · intro h
    unfold consumerKindOf at h
    split at h <;> cases h <;> rfl
  · rintro rfl
    cases x <;> rfl

theorem consumerKindCode_lt (x : ConsumerKind) : consumerKindCode x < 5 := by cases x <;> decide

theorem consumerDefBytes_eq_drop {d : ConsumerDef} (h : a.length = 30) (range : ConsumerInRange d) :
    consumerDefBytes d = a.drop 1 ↔
      consumerKindCode d.kind = byteAt a 1 ∧ sheetCode d.sheet = byteAt a 2 ∧ d.cls = byteAt a 3 ∧
        d.weight = byteAt a 4 ∧ d.floor = wordAt a 5 ∧ d.cap = wordAt a 7 ∧ d.design = wordAt a 9 ∧
        bit 0 d.addr.isSome + bit 1 (d.handling = some .govern) + bit 2 d.settlePoint.isSome = byteAt a 11 ∧
        (d.addr.getD ⟨0, 0⟩).node = byteAt a 12 ∧ (d.addr.getD ⟨0, 0⟩).channel = byteAt a 13 ∧
        (d.settlePoint.getD 0).val = byteAt a 14 ∧ d.tempPoint.val = byteAt a 15 ∧ d.setpoint = swordAt a 16 ∧
        d.band = wordAt a 18 ∧ d.demandClear = wordAt a 20 ∧ d.demandWatch = wordAt a 22 ∧
        d.demandFog = wordAt a 24 ∧ d.demandRecover = wordAt a 26 ∧ d.fan = wordAt a 28 := by
  obtain ⟨cls, -, weight, cap, floor, -, -, -, addr, design, -, subsoil, regen⟩ := range
  have kind := consumerKindCode_lt d.kind
  have sheet := sheetCode_lt d.sheet
  have addr := addr_lt_of_forall addr
  have design : d.design < 65536 := by split at design <;> omega
  have flags := (three_bits_eq (p := d.addr.isSome) (q := d.handling = some .govern) (r := d.settlePoint.isSome)).1 rfl
  have settle := (d.settlePoint.getD 0).isLt
  have temp := d.tempPoint.isLt
  have band : (-32768 ≤ d.setpoint ∧ d.setpoint < 32768) ∧ d.band < 65536 := by split at subsoil <;> omega
  have demands : d.demandClear < 65536 ∧ d.demandWatch < 65536 ∧ d.demandFog < 65536 ∧ d.demandRecover < 65536 ∧
      d.fan < 65536 := by split at regen <;> omega
  conv_lhs => rw [← List.append_nil (consumerDefBytes d)]
  simp (disch := omega) only [consumerDefBytes, addrBytes_eq, ixByte_eq, List.append_assoc, u8_eq_drop, u16_eq_drop,
    s16_eq_drop, nil_eq_drop, h, Nat.reduceAdd, Nat.reduceLT, Nat.le_refl, true_and, and_true]

theorem consumerInRange_iff {d : ConsumerDef} : ConsumerInRange d ↔
    d.cls ≤ 3 ∧ 1 ≤ d.weight ∧ d.weight ≤ 15 ∧ d.cap ≤ 9999 ∧ d.floor ≤ d.cap ∧
      d.sheet.isSome = kindHasSheet d.kind ∧ handlingOf d.kind = d.handling ∧
      (d.addr = none ↔ d.kind = .spectator) ∧ (∀ x, d.addr = some x → AddrInRange x) ∧
      (if d.kind = .spectator then d.design = 0 else 1 ≤ d.design ∧ d.design ≤ 9999) ∧
      (d.settlePoint.isNone || decide (d.handling = some .drive)) = true ∧
      (if d.kind = .subsoil then ((-5000 ≤ d.setpoint ∧ d.setpoint ≤ 8000) ∧ 1 ≤ d.band) ∧ d.band ≤ 2000
      else (d.tempPoint = 0 ∧ d.setpoint = 0) ∧ d.band = 0) ∧
      (if d.kind = .regen then
        (((d.demandClear ≤ 9999 ∧ d.demandWatch ≤ 9999) ∧ d.demandFog ≤ 9999) ∧ d.demandRecover ≤ 9999) ∧ d.fan ≤ 9999
      else (((d.demandClear = 0 ∧ d.demandWatch = 0) ∧ d.demandFog = 0) ∧ d.demandRecover = 0) ∧ d.fan = 0) := by
  have sheet : d.sheet.isSome = kindHasSheet d.kind ↔ (d.sheet ≠ none ↔ d.kind = .subsoil ∨ d.kind = .regen) := by
    cases d.sheet <;> cases d.kind <;> simp [kindHasSheet]
  have settle : (d.settlePoint.isNone || decide (d.handling = some .drive)) = true ↔
      (d.settlePoint ≠ none → d.handling = some .drive) := by
    cases d.settlePoint <;> simp
  have handling : handlingOf d.kind = d.handling ↔ (d.handling = match d.kind with
      | .subsoil => some .drive
      | .regen => some .drive
      | .spectator => none
      | .preheat => some .govern
      | .general => some .govern) := by
    rw [eq_comm]
    cases d.kind <;> exact Iff.rfl
  rw [sheet, settle, handling]
  simp only [and_assoc]
  exact Iff.rfl

/-- An address is laid out exactly where the kind has one, with its handling beside it. -/
theorem addressing_iff {kind : ConsumerKind} {addr : Option ActAddr} {p q : Prop} [Decidable p] [Decidable q]
    {x y design : Nat} :
    ((if kind = .spectator then
        ((((!decide p) = true ∧ (!decide q) = true) ∧ x = 0) ∧ y = 0) ∧ design = 0
      else
        (((p ∧ AddrInRange ⟨x, y⟩) ∧ 1 ≤ design) ∧ design ≤ 9999) ∧ q = (handlingOf kind = some .govern)) ∧
      (if p then some ⟨x, y⟩ else none) = addr) ↔
    (addr = none ↔ kind = .spectator) ∧ (∀ z, addr = some z → AddrInRange z) ∧
      (if kind = .spectator then design = 0 else 1 ≤ design ∧ design ≤ 9999) ∧ decide p = addr.isSome ∧
      decide q = decide (handlingOf kind = some .govern) ∧ (addr.getD ⟨0, 0⟩).node = x ∧
      (addr.getD ⟨0, 0⟩).channel = y := by
  rcases eq_or_ne kind .spectator with rfl | hk
  · simp only [if_true, iff_true, handlingOf]
    constructor
    · rintro ⟨⟨⟨⟨⟨hp, hq⟩, rfl⟩, rfl⟩, hd⟩, rfl⟩
      have hp : ¬p := by simpa using hp
      rw [if_neg hp]
      exact ⟨rfl, by simp, hd, by simpa using hp, by simpa using hq, rfl, rfl⟩
    · rintro ⟨rfl, -, hd, hp, hq, rfl, rfl⟩
      have hp : ¬p := by simpa using hp
      rw [if_neg hp]
      exact ⟨⟨⟨⟨⟨by simpa using hp, by simpa using hq⟩, rfl⟩, rfl⟩, hd⟩, rfl⟩
  · simp only [if_neg hk, iff_false_right hk, decide_eq_decide, eq_iff_iff]
    constructor
    · rintro ⟨⟨⟨⟨⟨hp, hr⟩, hd⟩, hd'⟩, hq⟩, rfl⟩
      rw [if_pos hp]
      refine ⟨by simp, ?_, ⟨hd, hd'⟩, by simpa using hp, hq, rfl, rfl⟩
      rintro _ ⟨⟩
      exact hr
    · rintro ⟨hne, hr, ⟨hd, hd'⟩, hp, hq, rfl, rfl⟩
      obtain ⟨z, rfl⟩ := Option.ne_none_iff_exists'.1 hne
      have hp : p := by simpa using hp
      rw [if_pos hp]
      exact ⟨⟨⟨⟨⟨hp, hr z rfl⟩, hd⟩, hd'⟩, hq⟩, rfl⟩

theorem consumerArgs_eq_some {d : ConsumerDef} (h : a.length = 30) :
    consumerArgs a = some d ↔ ConsumerInRange d ∧ consumerDefBytes d = a.drop 1 := by
  rw [and_congr_right (consumerDefBytes_eq_drop h), three_bits_eq, consumerInRange_iff]
  obtain ⟨kind, sheet, cls, weight, floor, cap, design, addr, handling, settle, temp, setpoint, band, clear, watch, fog,
    recover, fan⟩ := d
  simp only [consumerArgs, Option.bind_eq_bind, ite_require, ite_require_two, ite_require_else_two,
    Option.bind_eq_some_iff, require_eq_some, exists_const, Option.some.injEq, ConsumerDef.mk.injEq, existsAndEq,
    consumerKindOf_eq_some, sheetFieldOf_eq_some, guardedIx_eq_some, ite_eq_true, Bool.and_eq_true,
    decide_eq_true_iff, true_and, addrInRange_iff, ← pointIxAt_eq_iff]
  constructor
  · rintro ⟨kind, sheet, ⟨settled, ix⟩, ⟨flags, sheeted⟩, ⟨⟨cls, w⟩, w'⟩, ⟨cap, floor⟩, address, settle, subsoil, regen,
      rfl, rfl, rfl, rfl, rfl, addr, rfl, rfl, rfl, rfl, rfl, rfl, rfl, rfl, rfl⟩
    obtain ⟨none, inRange, design, present, govern, node, channel⟩ := addressing_iff.1 ⟨address, addr⟩
    exact ⟨⟨cls, w, w', cap, floor, sheeted, rfl, none, inRange, design, settle, subsoil, regen⟩, kind, sheet, rfl, rfl,
      rfl, rfl, rfl, ⟨flags, present, govern, settled.symm⟩, node, channel, ix, rfl, rfl, rfl, rfl, rfl, rfl, rfl, rfl⟩
  · rintro ⟨⟨cls, w, w', cap, floor, sheeted, rfl, none, inRange, design, settle, subsoil, regen⟩, kind, sheet, rfl, rfl,
      rfl, rfl, rfl, ⟨flags, present, govern, settled⟩, node, channel, ix, rfl, rfl, rfl, rfl, rfl, rfl, rfl, rfl⟩
    obtain ⟨address, addr⟩ := addressing_iff.2 ⟨none, inRange, design, present, govern, node, channel⟩
    exact ⟨kind, sheet, ⟨settled.symm, ix⟩, ⟨flags, sheeted⟩, ⟨⟨cls, w⟩, w'⟩, ⟨cap, floor⟩, address, settle, subsoil,
      regen, rfl, rfl, rfl, rfl, rfl, addr, rfl, rfl, rfl, rfl, rfl, rfl, rfl, rfl, rfl⟩

end Sys2Proof.Machine
end

section
/-! SUPPORT. The arguments whose length a count gives: scenes and profiles (R125, R163). -/

namespace Sys2Proof.Machine

variable {a : List Byte}

/-! ### Scenes (R125) -/

theorem indexOf_eq_some {n k : Nat} {i : Fin n} : indexOf n k = some i ↔ i.val = k := by
  constructor
  · intro h
    unfold indexOf at h
    split at h
    · cases h
      rfl
    · cases h
  · rintro rfl
    exact indexOf_val i

theorem sceneEntryAt_eq_some {k : Nat} {e : SceneEntry} : sceneEntryAt a k = some e ↔
    e.level ≤ 1000 ∧ e.group.val = byteAt a k ∧ e.level = wordAt a (k + 1) ∧ e.fade = byteAt a (k + 3) := by
  obtain ⟨group, level, fade⟩ := e
  simp only [sceneEntryAt, Option.bind_eq_bind, Option.bind_eq_some_iff, require_eq_some, exists_const,
    Option.some.injEq, SceneEntry.mk.injEq, existsAndEq, decide_eq_true_iff, true_and, indexOf_eq_some]
  constructor
  · rintro ⟨group, level, rfl, rfl⟩
    exact ⟨level, group, rfl, rfl⟩
  · rintro ⟨level, group, rfl, rfl⟩
    exact ⟨group, level, rfl, rfl⟩

theorem entryBytes_eq_drop {e : SceneEntry} {k : Nat} {rest : List Byte} (he : e.level ≤ 1000 ∧ e.fade ≤ 255) :
    entryBytes e ++ rest = a.drop k ↔ k + 3 < a.length ∧
      (e.group.val = byteAt a k ∧ e.level = wordAt a (k + 1) ∧ e.fade = byteAt a (k + 3)) ∧ rest = a.drop (k + 4) := by
  have group := e.group.isLt
  simp (disch := omega) only [entryBytes, List.append_assoc, u8_eq_drop, u16_eq_drop]
  constructor
  · rintro ⟨-, group, -, level, length, fade, rest⟩
    exact ⟨length, ⟨group, level, fade⟩, rest⟩
  · rintro ⟨length, ⟨group, level, fade⟩, rest⟩
    exact ⟨by omega, group, by omega, level, length, fade, rest⟩

/-- One more entry in front of those read. -/
def readEntry (a : List Byte) (k : Nat) (acc : Option (List SceneEntry)) : Option (List SceneEntry) :=
  acc.bind fun rest => (sceneEntryAt a (3 + 4 * k)).bind fun e => some (e :: rest)

theorem sceneEntries_eq (count : Nat) : sceneEntries a count = (List.range' 0 count).foldr (readEntry a) (some []) := by
  rw [← List.range_eq_range']
  rfl

/-- The entries behind the first k are read exactly when they are in range and laid out there. -/
theorem readEntries_eq_some (n : Nat) {k : Nat} (h : a.length = 3 + 4 * (k + n)) {es : List SceneEntry} :
    (List.range' k n).foldr (readEntry a) (some []) = some es ↔
      (∀ e ∈ es, e.level ≤ 1000 ∧ e.fade ≤ 255) ∧ es.flatMap entryBytes = a.drop (3 + 4 * k) := by
  induction n generalizing k es with
  | zero =>
    have drop : a.drop (3 + 4 * k) = [] := List.drop_eq_nil_of_le h.le
    rw [drop]
    cases es <;> simp [entryBytes, u8_eq]
  | succ n ih =>
    have inside : 3 + 4 * k + 3 < a.length := by omega
    have rest : 3 + 4 * (k + 1) = 3 + 4 * k + 4 := by omega
    rw [List.range'_succ, List.foldr_cons, readEntry]
    simp only [Option.bind_eq_some_iff, Option.some.injEq, ih (k := k + 1) (by omega), sceneEntryAt_eq_some]
    cases es with
    | nil =>
      constructor
      · rintro ⟨_, -, _, -, ⟨⟩⟩
      · rintro ⟨-, e⟩
        exact absurd (nil_eq_drop.1 e) (by omega)
    | cons e es =>
      simp only [List.cons.injEq, existsAndEq, List.forall_mem_cons, List.flatMap_cons, and_true]
      constructor
      · rintro ⟨⟨range, bytes⟩, level, fields⟩
        have inRange : e.level ≤ 1000 ∧ e.fade ≤ 255 :=
          ⟨level, fields.2.2 ▸ Nat.le_of_lt_succ (byteAt_lt a _)⟩
        exact ⟨⟨inRange, range⟩, (entryBytes_eq_drop inRange).2 ⟨inside, fields, rest ▸ bytes⟩⟩
      · rintro ⟨⟨inRange, range⟩, bytes⟩
        obtain ⟨-, fields, bytes⟩ := (entryBytes_eq_drop inRange).1 bytes
        exact ⟨⟨range, rest ▸ bytes⟩, inRange.1, fields⟩

theorem length_flatMap_entryBytes (es : List SceneEntry) : (es.flatMap entryBytes).length = 4 * es.length := by
  induction es with
  | nil => rfl
  | cons e es ih =>
    rw [List.flatMap_cons, List.length_append, ih, List.length_cons]
    simp only [entryBytes, List.length_append, length_u8, length_u16]
    omega

/-- R125: a scene has at most one entry for each of the thirty-two groups. -/
theorem SceneInRange.length_le {sc : Scene} (h : SceneInRange sc) : sc.entries.length ≤ 32 := by
  have := h.1.length_le_card
  simpa using this

theorem sceneArgs_eq_some {sc : Scene} (h : a.length = 3 + 4 * byteAt a 2) : sceneArgs a = some sc ↔ SceneInRange sc ∧
    u8 (if sc.flash then 1 else 0) ++ u8 sc.entries.length ++ sc.entries.flatMap entryBytes = a.drop 1 := by
  have layout (range : SceneInRange sc) :
      u8 (bit 0 sc.flash) ++ u8 sc.entries.length ++ sc.entries.flatMap entryBytes = a.drop 1 ↔
        (bit 0 sc.flash = byteAt a 1 ∧ sc.entries.length = byteAt a 2) ∧ sc.entries.flatMap entryBytes = a.drop 3 := by
    have flash := bit_zero_le sc.flash
    have short := range.length_le
    simp (disch := omega) only [List.append_assoc, u8_eq_drop, h, Nat.reduceAdd]
    constructor
    · rintro ⟨-, flash, -, length, bytes⟩
      exact ⟨⟨flash, length⟩, bytes⟩
    · rintro ⟨⟨flash, length⟩, bytes⟩
      exact ⟨by omega, flash, by omega, length, bytes⟩
  refine Iff.trans ?_ (and_congr_right layout).symm
  rw [SceneInRange, bit_zero_eq]
  obtain ⟨entries, flash⟩ := sc
  simp only [sceneArgs, sceneEntries_eq, Option.bind_eq_bind, Option.bind_eq_some_iff, require_eq_some, exists_const,
    Option.some.injEq, Scene.mk.injEq, existsAndEq, Bool.and_eq_true, decide_eq_true_iff, true_and,
    readEntries_eq_some (byteAt a 2) (h.trans (by rw [Nat.zero_add]))]
  constructor
  · rintro ⟨⟨range, bytes⟩, ⟨flag, once⟩, flash⟩
    have length := congrArg List.length bytes
    rw [length_flatMap_entryBytes, List.length_drop, h] at length
    exact ⟨⟨once, range⟩, ⟨⟨flash.symm, flag⟩, by omega⟩, bytes⟩
  · rintro ⟨⟨once, range⟩, ⟨⟨flash, flag⟩, -⟩, bytes⟩
    exact ⟨⟨range, bytes⟩, ⟨flag, once⟩, flash.symm⟩

/-! ### Profiles (R163) -/

theorem exitTargetOf_eq_some {c : Nat} {x : ExitTarget} : exitTargetOf c = some x ↔ exitTargetCode x = c := by
  constructor
  · intro h
    unfold exitTargetOf at h
    split at h <;> cases h <;> rfl
  · rintro rfl
    cases x <;> rfl

theorem exitTargetCode_lt (x : ExitTarget) : exitTargetCode x < 3 := by cases x <;> decide

theorem length_flatMap_u8 (ixs : List PointIx) : (ixs.flatMap fun i => u8 i.val).length = ixs.length := by
  induction ixs with
  | nil => rfl
  | cons i ixs ih => rw [List.flatMap_cons, List.length_append, ih, u8_eq, List.length_singleton, List.length_cons, Nat.add_comm]

/-- Point indices laid out to the end are those read there. -/
theorem indices_eq_drop {n k : Nat} (h : a.length = k + n) {ixs : List PointIx} :
    (ixs.flatMap fun i => u8 i.val) = a.drop k ↔ (List.range n).map (fun j => pointIxAt a (k + j)) = ixs := by
  induction n generalizing k ixs with
  | zero =>
    have drop : a.drop k = [] := List.drop_eq_nil_of_le h.le
    rw [drop]
    cases ixs <;> simp [u8_eq]
  | succ n ih =>
    have inside : k < a.length := by omega
    have behind (j : Nat) : pointIxAt a (k + 1 + j) = pointIxAt a (k + (j + 1)) := by rw [Nat.add_assoc, Nat.add_comm 1]
    rw [List.range_succ_eq_map, List.map_cons, List.map_map]
    cases ixs with
    | nil => exact ⟨fun e => absurd (nil_eq_drop.1 e) (Nat.not_le.2 inside), fun e => by cases e⟩
    | cons i ixs =>
      rw [List.flatMap_cons, u8_eq_drop i.isLt, ih (by omega), List.cons.injEq, eq_comm (b := i), Nat.add_zero,
        pointIxAt_eq_iff, ← and_assoc, and_iff_right inside]
      simp only [behind]
      exact Iff.rfl

theorem length_profileBytes (m : Mode) (p : Profile) : (profileBytes m p).length = 12 + p.wakePoints.length := by
  simp only [profileBytes, List.length_append, length_flatMap_u8, length_u8, length_u16]

theorem profileBytes_eq {m : Mode} {p : Profile} (h : a.length = 12 + byteAt a 11) (hm : byteAt a 0 = modeCode m)
    (range : ProfileInRange m p) : profileBytes m p = a ↔
      p.eMax = wordAt a 1 ∧ p.reserve = wordAt a 3 ∧ p.period = byteAt a 5 ∧ p.ceiling = wordAt a 6 ∧
        p.capScale = wordAt a 8 ∧ exitTargetCode p.exitTarget = byteAt a 10 ∧
        (List.range (byteAt a 11)).map (fun j => pointIxAt a (12 + j)) = p.wakePoints := by
  have count := byteAt_lt a 11
  have counted : profileBytes m p = a → p.wakePoints.length = byteAt a 11 := fun e => by
    have length := length_profileBytes m p
    rw [e] at length
    omega
  have counted' : (List.range (byteAt a 11)).map (fun j => pointIxAt a (12 + j)) = p.wakePoints →
      p.wakePoints.length = byteAt a 11 := fun e => by simp [← e]
  rcases Classical.em (p.wakePoints.length = byteAt a 11) with hl | hl
  · have mode := modeCode_lt m
    have exit := exitTargetCode_lt p.exitTarget
    unfold ProfileInRange at range
    conv_lhs => rw [← List.drop_zero (l := a)]
    simp (disch := omega) only [profileBytes, List.append_assoc, u8_eq_drop, u16_eq_drop, indices_eq_drop h,
      Nat.reduceAdd, Nat.zero_add, hm, hl, true_and]
    constructor
    · rintro ⟨-, -, eMax, -, reserve, -, period, -, ceiling, -, capScale, -, exit, -, points⟩
      exact ⟨eMax, reserve, period, ceiling, capScale, exit, points⟩
    · rintro ⟨eMax, reserve, period, ceiling, capScale, exit, points⟩
      exact ⟨by omega, by omega, eMax, by omega, reserve, by omega, period, by omega, ceiling, by omega, capScale,
        by omega, exit, by omega, points⟩
  · exact ⟨fun e => absurd (counted e) hl, fun ⟨_, _, _, _, _, _, e⟩ => absurd (counted' e) hl⟩

theorem profileArgs_eq_some {m : Mode} {p : Profile} (h : a.length = 12 + byteAt a 11) (hm : byteAt a 0 = modeCode m) :
    profileArgs m a = some p ↔ ProfileInRange m p ∧ profileBytes m p = a := by
  refine Iff.trans ?_ (and_congr_right (profileBytes_eq h hm)).symm
  obtain ⟨eMax, reserve, period, ceiling, capScale, exit, points⟩ := p
  simp only [profileArgs, ProfileInRange, Option.bind_eq_bind, Option.bind_eq_some_iff, require_eq_some, exists_const,
    Option.some.injEq, Profile.mk.injEq, existsAndEq, exitTargetOf_eq_some, Bool.and_eq_true, Bool.or_eq_true,
    decide_eq_true_iff, List.isEmpty_iff]
  constructor
  · rintro ⟨exit, ⟨⟨⟨heat, spare⟩, shortest⟩, longest⟩, ⟨top, scale⟩, only, rfl, rfl, rfl, rfl, rfl, -, rfl⟩
    exact ⟨⟨heat, spare, shortest, longest, top, scale, only.resolve_left⟩, rfl, rfl, rfl, rfl, rfl, exit, rfl⟩
  · rintro ⟨⟨heat, spare, shortest, longest, top, scale, only⟩, rfl, rfl, rfl, rfl, rfl, exit, rfl⟩
    exact ⟨exit, ⟨⟨⟨heat, spare⟩, shortest⟩, longest⟩, ⟨top, scale⟩, Classical.or_iff_not_imp_left.2 only,
      rfl, rfl, rfl, rfl, rfl, trivial, rfl⟩

end Sys2Proof.Machine
end

section
/-! THEOREMS. Write arguments read as definitions (11.5). -/

namespace Sys2Proof.Machine

/-- Settles O50, layout by layout: each reading rule gives a definition exactly when its fields, in range, are the ones
at the places of the layout. -/
theorem definitionsReadBackAsWritten : Obligations.DefinitionsReadBackAsWritten := by
  unfold Obligations.DefinitionsReadBackAsWritten
  intro a
  refine ⟨fun h own d => pointArgs_eq_some ?_, fun h r => recoveryArgs_eq_some ?_, fun h d => consumerArgs_eq_some ?_,
    fun h => dewArgs_bytes ?_, fun h d => sheetArgs_eq_some ?_, fun h t => capTableArgs_eq_some ?_,
    fun h d => zoneArgs_eq_some ?_, fun h d => groupArgs_eq_some ?_, fun h sc => sceneArgs_eq_some ?_,
    fun h c => bufferArgs_eq_some ?_, fun h m p hm => profileArgs_eq_some ?_ hm⟩
  all_goals simp only [argsFit, Bool.and_eq_true, decide_eq_true_iff] at h
  case refine_9 => exact h.2
  case refine_11 => exact h.2
  all_goals exact h

end Sys2Proof.Machine
end

section
/-! SUPPORT. The results of the read requests: their lengths, a field behind others, and what a flag, an absent value
or a code carries (11.5, R195). -/

namespace Sys2Proof.Machine

/-! ### A field behind others -/

section
variable {bs : List Byte} {k : Nat} (cs : List Byte)

theorem byteAt_append_of_le (h : bs.length ≤ k) : byteAt (bs ++ cs) k = byteAt cs (k - bs.length) := by
  rw [byteAt, byteAt, List.getD_append_right _ _ _ _ h]

theorem wordAt_append_of_le (h : bs.length ≤ k) : wordAt (bs ++ cs) k = wordAt cs (k - bs.length) := by
  rw [wordAt, wordAt, byteAt_append_of_le cs h, byteAt_append_of_le cs (Nat.le_succ_of_le h), Nat.succ_sub h]

theorem swordAt_append_of_le (h : bs.length ≤ k) : swordAt (bs ++ cs) k = swordAt cs (k - bs.length) := by
  rw [swordAt, swordAt, wordAt_append_of_le cs h]

theorem s24At_append_of_le (h : bs.length ≤ k) : s24At (bs ++ cs) k = s24At cs (k - bs.length) := by
  rw [s24At, s24At, byteAt_append_of_le cs h, wordAt_append_of_le cs (Nat.le_succ_of_le h), Nat.succ_sub h]

theorem byteAt_append_u8 (v : Nat) : byteAt (u8 v ++ cs) 0 = v % 256 := by
  rw [u8_eq, List.singleton_append, byteAt_cons_zero, BitVec.toNat_ofNat]

theorem wordAt_append_u16 (v : Nat) : wordAt (u16 v ++ cs) 0 = v % 65536 := by
  simp only [u16_eq, wordAt, List.cons_append, byteAt_cons_zero, byteAt_cons_succ, BitVec.toNat_ofNat]
  omega

theorem wordAt_u16 (v : Nat) : wordAt (u16 v) 0 = v % 65536 := by
  rw [← List.append_nil (u16 v), wordAt_append_u16]

theorem u24_read (v : Nat) : byteAt (u24 v ++ cs) 0 * 65536 + wordAt (u24 v ++ cs) 1 = v % 16777216 := by
  simp only [u24_eq, wordAt, List.cons_append, byteAt_cons_zero, byteAt_cons_succ, BitVec.toNat_ofNat]
  omega

theorem swordAt_append_s16 {v : Int} (h : -32768 ≤ v ∧ v < 32768) : swordAt (s16 v ++ cs) 0 = v :=
  ((s16_eq_drop (a := s16 v ++ cs) (k := 0) h).1 List.drop_zero.symm).2.1.symm

theorem s24At_append_s24 {v : Int} (h : -8388608 ≤ v ∧ v < 8388608) : s24At (s24 v ++ cs) 0 = v :=
  ((s24_eq_drop (a := s24 v ++ cs) (k := 0) h).1 List.drop_zero.symm).2.1.symm

end

/-- Two-byte entries laid out one after another. -/
theorem wordAt_flatMap_u16 (l : List Nat) (k : Nat) : wordAt (l.flatMap u16) (2 * k) = l.getD k 0 % 65536 := by
  induction l generalizing k with
  | nil => simp [wordAt, byteAt]
  | cons v l ih =>
    rw [List.flatMap_cons]
    cases k with
    | zero => exact wordAt_append_u16 _ v
    | succ k =>
      rw [wordAt_append_of_le _ (by rw [length_u16]; omega), length_u16, List.getD_cons_succ, ← ih, Nat.mul_succ,
        Nat.add_sub_cancel]

/-! ### Flags, absent values and codes -/

theorem bit_isSome {α : Type} (k : Nat) (o : Option α) [Decidable (o = none)] :
    bit k o.isSome = if o = none then 0 else 2 ^ k := by
  cases o <;> simp [bit]

theorem presence_eq (o : Option Nat) : u8 (bit 0 o.isSome) = o.elim [0] fun _ => [1] := by
  cases o with
  | none => rfl
  | some v => exact (rfl : u8 1 = [1])

theorem bit_eq_ite {p : Prop} [Decidable p] {b : Bool} (k : Nat) (h : b = true ↔ p) : bit k b = if p then 2 ^ k else 0 :=
  if_congr h rfl rfl

theorem two_mul_sideCode (x : Side) : 2 * sideCode x = if x = .below then 2 else 0 := by cases x <;> rfl

@[simp] theorem length_absentOr (n : Nat) (o : Option Nat) : (absentOr n o).length = n := by
  cases o <;> exact length_bytesOf n _

theorem isLocked_iff (r : Buffer) : isLocked r = true ↔ r.state = .locked ∨ r.state = .disabledLocked := by
  rw [isLocked, Bool.or_eq_true, decide_eq_true_iff, decide_eq_true_iff]

theorem sideOf_eq (i : BufferIx) (r : Buffer) :
    sideOf i r = if r.type = .single then 0 else if i.val % 2 = 0 then 1 else 2 := by
  unfold sideOf isCommitSide isOutputSide isEven
  cases r.type
  · rfl
  · rcases Nat.mod_two_eq_zero_or_one i.val with h | h <;> simp [h]

/-- R129: a pair's commit mode stands in its commit side's record, and is absent of a SINGLE buffer. -/
theorem pairCommitMode_bytes (s : State) (i : BufferIx) (r : Buffer) : absentOr 1 (pairCommitMode s i r) =
    if r.type = .single then [255]
    else u8 (commitModeCode (if i.val % 2 = 0 then r.commitMode else s.scene.buffers[partner i].commitMode)) := by
  unfold pairCommitMode isCommitSide isOutputSide isEven
  cases r.type
  · rfl
  · rcases Nat.mod_two_eq_zero_or_one i.val with h | h <;> simp [h, absentOr, u8]

/-- R83: the dew table is valid when all four of its segments are loaded. -/
theorem dewValid_iff (u : FogMonitor) : dewValid u = true ↔ ∀ g : Fin 4, u.loaded[g] = true := by
  rw [dewValid, List.all_eq_true]
  constructor
  · intro h g
    exact h _ (Vector.mem_toList_iff.2 (Vector.getElem_mem g.isLt))
  · intro h b hb
    obtain ⟨g, hg, rfl⟩ := Vector.getElem_of_mem (Vector.mem_toList_iff.1 hb)
    exact h ⟨g, hg⟩

theorem modeOf_modeCode (m : Mode) : modeOf (modeCode m) = some m := by cases m <;> rfl

theorem modeOf_of_ge {c : Nat} (h : 4 ≤ c) : modeOf c = none := by
  unfold modeOf
  split
  case h_5 => rfl
  all_goals omega

/-! ### Lengths -/

@[simp] theorem length_ixByte (o : Option PointIx) : (ixByte o).length = 1 := by rw [ixByte_eq, length_u8]

@[simp] theorem length_addrBytes (o : Option ActAddr) : (addrBytes o).length = 2 := by cases o <;> rfl

@[simp] theorem length_pointDefBytes (d : PointDef) : (pointDefBytes d).length = 24 := by simp [pointDefBytes]

@[simp] theorem length_consumerDefBytes (d : ConsumerDef) : (consumerDefBytes d).length = 29 := by
  simp [consumerDefBytes]

@[simp] theorem length_recoveryBytes (o : Option Recovery) : (recoveryBytes o).length = 6 := by
  cases o <;> simp [recoveryBytes]

@[simp] theorem length_positionBytes (c : Consumer) : (positionBytes c).length = 2 := by
  unfold positionBytes
  split <;> simp

@[simp] theorem length_sheetDefBytes (d : SheetDef) : (sheetDefBytes d).length = 21 := by simp [sheetDefBytes]

@[simp] theorem length_capsBytes (c : Caps) : (capsBytes c).length = 6 := by simp [capsBytes]

@[simp] theorem length_capTableBytes (t : CapTable) : (capTableBytes t).length = 24 := by simp [capTableBytes]

@[simp] theorem length_zoneDefBytes (d : ZoneDef) : (zoneDefBytes d).length = 12 := by simp [zoneDefBytes]

@[simp] theorem length_groupDefBytes (d : GroupDef) : (groupDefBytes d).length = 6 := by simp [groupDefBytes]

@[simp] theorem length_fadeBytes (o : Option Fade) : (fadeBytes o).length = 6 := by cases o <;> rfl

@[simp] theorem length_driverBytes (o : Option Driver) : (driverBytes o).length = 2 := by cases o <;> rfl

theorem length_flatMap_u16 (l : List Nat) : (l.flatMap u16).length = 2 * l.length := by
  induction l with
  | nil => rfl
  | cons v l ih =>
    rw [List.flatMap_cons, List.length_append, ih, length_u16, List.length_cons]
    omega

end Sys2Proof.Machine
end

section
/-! SUPPORT. Each read's answer, the length of its result and the result's fields (R30, R59, R84, R104, R129, R147,
R172, R195). -/

namespace Sys2Proof.Machine

/-! ### Points (R30) -/

section
variable (s : State) (i : PointIx)

theorem length_pointBytes : (pointBytes s i).length = 44 := by simp [pointBytes]

theorem pointStateByte_lt (x : PointState) : pointStateCode x + 16 * qualityCode (qualityOf x) < 256 := by
  cases x <;> decide

theorem pointBytes_fields : byteAt (pointBytes s i) 24 =
      pointStateCode s.points[i].state + 16 * qualityCode (qualityOf s.points[i].state) ∧
    (-8388608 ≤ presentedValue s i → presentedValue s i < 8388608 → s24At (pointBytes s i) 25 = presentedValue s i) ∧
    wordAt (pointBytes s i) 36 = s.points[i].accepted % 65536 ∧
    wordAt (pointBytes s i) 42 = s.points[i].faults % 65536 := by
  have code := pointStateByte_lt s.points[i].state
  refine ⟨?_, fun low high => ?_, ?_, ?_⟩
  · simpa [pointBytes, byteAt_append_of_le, byteAt_append_u8] using code
  · simp [pointBytes, s24At_append_of_le, s24At_append_s24 _ ⟨low, high⟩]
  · simp [pointBytes, wordAt_append_of_le, wordAt_append_u16]
  · simp [pointBytes, wordAt_append_of_le, wordAt_u16]

end

/-! ### The Heat Budget (R59) -/

theorem length_consumerBytes (c : Consumer) : (consumerBytes c).length = 45 := by simp [consumerBytes]

theorem consumerBytes_fields (c : Consumer) : wordAt (consumerBytes c) 37 = c.grant % 65536 ∧
    wordAt (consumerBytes c) 39 = c.allowed % 65536 := by
  constructor <;> simp [consumerBytes, wordAt_append_of_le, wordAt_append_u16]

theorem length_budgetSummary (u : BudgetUnit) : (budgetSummary u).length = 28 := by simp [budgetSummary]

theorem budgetSummary_fields (u : BudgetUnit) :
    byteAt (budgetSummary u) 14 * 65536 + wordAt (budgetSummary u) 15 = u.usable % 16777216 ∧
    wordAt (budgetSummary u) 25 = u.allowance % 65536 := by
  constructor <;>
    simp [budgetSummary, wordAt_append_of_le, byteAt_append_of_le, u24_read, wordAt_append_u16]

/-! ### Sheets, caps and the dew table (R84) -/

theorem length_sheetBytes (r : SheetRec) : (sheetBytes r).length = 34 := by simp [sheetBytes]

theorem sheetBytes_fields (r : SheetRec) : byteAt (sheetBytes r) 22 = fogCode r.fog ∧
    (-32768 ≤ r.margin → r.margin < 32768 → swordAt (sheetBytes r) 27 = r.margin) := by
  have code := fogCode_lt r.fog
  refine ⟨?_, fun low high => ?_⟩
  · simpa [sheetBytes, byteAt_append_of_le, byteAt_append_u8] using code.trans (by decide : 4 < 256)
  · simp [sheetBytes, swordAt_append_of_le, swordAt_append_s16 _ ⟨low, high⟩]

theorem length_capsResult (u : FogMonitor) : (capsResult u).length = 25 := by simp [capsResult]

theorem capsResult_watch (u : FogMonitor) : wordAt (capsResult u) 6 = u.caps.watch.iceEdge % 65536 := by
  simp [capsResult, capTableBytes, capsBytes, wordAt_append_of_le, wordAt_append_u16]

theorem dewResult_eq (u : FogMonitor) (g : Nat) :
    dewResult u g = ((List.range 16).map fun k => dewEntry u.dew (16 * g + k)).flatMap u16 :=
  (List.flatMap_map ..).symm

theorem length_dewResult (u : FogMonitor) (g : Nat) : (dewResult u g).length = 32 := by
  rw [dewResult_eq, length_flatMap_u16, List.length_map, List.length_range]

theorem dewResult_entry (u : FogMonitor) (g : Nat) {k : Nat} (h : k < 16) :
    wordAt (dewResult u g) (2 * k) = dewEntry u.dew (16 * g + k) % 65536 := by
  rw [dewResult_eq, wordAt_flatMap_u16]
  simp [List.getD_eq_getElem?_getD, h]

/-- R84: the byte of READ_SHEET names a sheet, the caps or a segment; any other is out of range. -/
theorem readSheet_of_out {args : List Byte} (h : byteAt args 0 = 0 ∨ 8 ≤ byteAt args 0) (s : State) :
    readSheet args s = refuse .range s := by
  unfold readSheet
  split
  case h_8 => rfl
  all_goals omega

/-! ### Zones (R104) -/

theorem length_zoneBytes (z : Zone) : (zoneBytes z).length = 30 := by simp [zoneBytes]

theorem zoneBytes_fields (z : Zone) : wordAt (zoneBytes z) 23 = z.allowed % 65536 ∧
    byteAt (zoneBytes z) 28 = z.allowedStages % 256 := by
  constructor
  · simp [zoneBytes, wordAt_append_of_le, wordAt_append_u16]
  · simp [zoneBytes, byteAt_append_of_le, byteAt_append_u8]

theorem length_zoneSummary (s : State) : (zoneSummary s).length = 21 := by simp [zoneSummary]

theorem zoneSummary_aggregate (s : State) :
    byteAt (zoneSummary s) 12 * 65536 + wordAt (zoneSummary s) 13 = zoneAggregate s % 16777216 := by
  simp [zoneSummary, wordAt_append_of_le, byteAt_append_of_le, u24_read]

theorem zoneSummary_grant (s : State) : wordAt (zoneSummary s) 15 = s.zones.grant.elim 65535 (· % 65536) := by
  have read : wordAt (absentOr 2 s.zones.grant ++ (u16 s.zones.taken ++ u16 s.zones.left)) 0 =
      s.zones.grant.elim 65535 (· % 65536) := by
    cases s.zones.grant <;> exact wordAt_append_u16 _ _
  simp [zoneSummary, wordAt_append_of_le, read]

/-! ### Buffers and groups (R129, R147) -/

theorem bufferStateCode_lt (x : BufferState) : bufferStateCode x < 256 := by cases x <;> decide

theorem length_bufferBytes (s : State) (i : BufferIx) :
    (bufferBytes s i).length = 11 + 4 * (sceneOf s s.scene.buffers[i]).entries.length := by
  simp only [bufferBytes, List.length_append, length_u8, length_absentOr, length_flatMap_entryBytes, Nat.reduceAdd]

theorem bufferBytes_fields (s : State) (i : BufferIx) :
    byteAt (bufferBytes s i) 6 = bufferStateCode s.scene.buffers[i].state ∧
    byteAt (bufferBytes s i) 7 = s.scene.buffers[i].generation % 256 := by
  have code := bufferStateCode_lt s.scene.buffers[i].state
  constructor
  · simpa [bufferBytes, byteAt_append_of_le, byteAt_append_u8] using code
  · simp [bufferBytes, byteAt_append_of_le, byteAt_append_u8]

theorem length_groupBytes (g : Group) : (groupBytes g).length = 20 := by simp [groupBytes]

theorem groupBytes_level (g : Group) : wordAt (groupBytes g) 7 = g.level % 65536 := by
  simp [groupBytes, wordAt_append_of_le, wordAt_append_u16]

theorem length_stepSummary (u : SceneUnit) : (stepSummary u).length = 8 := by simp [stepSummary]

theorem stepSummary_counter (u : SceneUnit) : byteAt (stepSummary u) 2 = u.stepCounter % 256 := by
  simp [stepSummary, byteAt_append_of_le, byteAt_append_u8]

/-! ### Profiles (R172) -/

/-- The result of READ_PROFILE: the modes, the cover flags and the profile asked for (11.5). -/
def profileResult (s : State) (m : Mode) : List Byte :=
  u8 (modeCode s.mode.mode) ++ u8 (modeCode s.mode.previous) ++ u8 (bit 0 s.mode.cover1 + bit 1 s.mode.cover2) ++
    profileBytes m (profileOf s.mode m)

theorem length_profileResult (s : State) (m : Mode) :
    (profileResult s m).length = 15 + (profileOf s.mode m).wakePoints.length := by
  simp only [profileResult, List.length_append, length_u8, length_profileBytes]
  omega

theorem profileResult_fields (s : State) (m : Mode) : byteAt (profileResult s m) 0 = modeCode s.mode.mode ∧
    byteAt (profileResult s m) 1 = modeCode s.mode.previous ∧
    wordAt (profileResult s m) 4 = (profileOf s.mode m).eMax % 65536 := by
  have mode := (modeCode_lt s.mode.mode).trans (by decide : 4 < 256)
  have previous := (modeCode_lt s.mode.previous).trans (by decide : 4 < 256)
  refine ⟨?_, ?_, ?_⟩
  · simpa [profileResult, byteAt_append_u8] using mode
  · simpa [profileResult, byteAt_append_of_le, byteAt_append_u8] using previous
  · simp [profileResult, profileBytes, wordAt_append_of_le, wordAt_append_u16]

end Sys2Proof.Machine
end

section
/-! THEOREMS. The reads of the owning blocks (R30, R59, R84, R104, R129, R147, R172, R195). -/

namespace Sys2Proof.Machine

/-! ### What a read answers by its argument -/

section
variable {b : Byte} (s : State)

theorem byteAt_ofNat {v : Nat} (h : v < 256) : byteAt [BitVec.ofNat 8 v] 0 = v :=
  (BitVec.toNat_ofNat v 8).trans (Nat.mod_eq_of_lt h)

theorem readBudget_of_ge (h : 8 ≤ b.toNat) : readBudget [b] s = refuse .range s := by
  rw [readBudget, byteAt_cons_zero, indexOf_of_ge h]

theorem readBudget_index (i : ConsumerIx) :
    readBudget [BitVec.ofNat 8 i.val] s = doneWith (consumerBytes s.budget.consumers[i]) s := by
  rw [readBudget, byteAt_ofNat (by omega), indexOf_val]

theorem readZone_of_ge (h : 24 ≤ b.toNat) : readZone [b] s = refuse .range s := by
  rw [readZone, byteAt_cons_zero, indexOf_of_ge h]

theorem readZone_index (i : ZoneIx) :
    readZone [BitVec.ofNat 8 i.val] s = doneWith (zoneBytes s.zones.zones[i]) s := by
  rw [readZone, byteAt_ofNat (by omega), indexOf_val]

theorem readGroup_of_ge (h : 32 ≤ b.toNat) : readGroup [b] s = refuse .range s := by
  rw [readGroup, byteAt_cons_zero, indexOf_of_ge h]

theorem readGroup_index (i : GroupIx) :
    readGroup [BitVec.ofNat 8 i.val] s = doneWith (groupBytes s.scene.groups[i]) s := by
  rw [readGroup, byteAt_ofNat (by omega), indexOf_val]

theorem readBuffer_of_ge {args : List Byte} (h : 64 ≤ byteAt args 0) : readBuffer args s = refuse .range s := by
  rw [readBuffer, indexOf_of_ge h]

theorem readBuffer_index {args : List Byte} {i : BufferIx} (h : byteAt args 0 = i.val) :
    readBuffer args s = doneWith (bufferBytes s i) s := by
  rw [readBuffer, indexOf_of_lt h]

theorem readProfile_of_ge {args : List Byte} (h : 4 ≤ byteAt args 0) : readProfile args s = refuse .range s := by
  rw [readProfile, modeOf_of_ge h]

theorem readProfile_mode {args : List Byte} {m : Mode} (h : byteAt args 0 = modeCode m) :
    readProfile args s = doneWith (profileResult s m) s := by
  rw [readProfile, h, modeOf_modeCode]
  rfl

theorem readSheet_sheet (sh : Sheet) :
    readSheet [BitVec.ofNat 8 (sheetNumber sh)] s = doneWith (sheetBytes (sheetRec s.fog sh)) s := by
  cases sh <;> rfl

theorem readSheet_dew (g : Fin 4) :
    readSheet [BitVec.ofNat 8 (4 + g.val)] s = doneWith (dewResult s.fog g.val) s := by
  match g with
  | 0 => rfl
  | 1 => rfl
  | 2 => rfl
  | 3 => rfl

end

/-- Settles O47, read by read: each answer is the model's result of the record, whose length and fields are those of its
layout; a flag, an absent value or a code is written in the statement as what it carries. -/
theorem readsAnswerTheRecordAndChangeNothing : Obligations.ReadsAnswerTheRecordAndChangeNothing := by
  unfold Obligations.ReadsAnswerTheRecordAndChangeNothing
  intro slot q s reads refused
  refine ⟨fun b hq => ?_, fun i h hi => ?point, fun i h hq => ?consumer, fun h hq => ?budget, fun sh h hq => ?sheet,
    fun h hq => ?caps, fun g h hq => ?dew, fun i h hq => ?zone, fun h hq => ?zones, fun i h hi => ?buffer,
    fun i h hq => ?group, fun h hq => ?groups, fun m h hm => ?profile⟩
  · have first : byteAt q.args 0 = b.toNat := by rw [hq, byteAt_cons_zero]
    refine ⟨fun hb h => ?_, fun hb h => ?_, fun hb h => ?_, fun hb h => ?_, fun hb h => ?_, fun hb h => ?_⟩
    · exact h.answersOnly (by rw [hq]; exact readBudget_of_ge _ hb)
    · exact h.answersOnly (by rw [hq]; exact readZone_of_ge _ hb)
    · exact h.answersOnly (by rw [hq]; exact readGroup_of_ge _ hb)
    · exact h.answersOnly (readSheet_of_out (by rwa [first]) _)
    · exact h.answersOnly (readBuffer_of_ge _ (by rwa [first]))
    · exact h.answersOnly (readProfile_of_ge _ (by rwa [first]))
  case point =>
    refine ⟨pointBytes s i, h.exec_eq (by rw [← hi]; rfl), length_pointBytes s i, ?_, pointBytes_fields s i⟩
    simp only [pointBytes, bit_isSome, two_mul_sideCode]
    cases s.points[i].lastAccepted <;> rfl
  case consumer =>
    refine ⟨_, h.exec_eq (by rw [hq]; exact readBudget_index _ i), length_consumerBytes _, ?_, consumerBytes_fields _⟩
    by_cases drive : s.budget.consumers[i].defn.handling = some .drive
    · simp only [consumerBytes, positionBytes, if_pos drive, List.append_assoc]
      cases s.budget.consumers[i].lastSent <;> rfl
    · simp only [consumerBytes, positionBytes, if_neg drive, List.append_assoc]
  case budget =>
    refine ⟨_, h.exec_eq (by rw [hq]; rfl), length_budgetSummary _, ?_, budgetSummary_fields _⟩
    show budgetSummary s.budget = _
    simp only [budgetSummary, bit_isSome]
    cases s.budget.settings <;> rfl
  case sheet =>
    refine ⟨_, h.exec_eq (by rw [hq]; exact readSheet_sheet _ sh), length_sheetBytes _, ?_, sheetBytes_fields _⟩
    show sheetBytes (sheetRec s.fog sh) = _
    simp only [sheetBytes, sheetFlags, bit_isSome]
    cases (sheetRec s.fog sh).recoverTimer <;> rfl
  case caps =>
    refine ⟨_, h.exec_eq (by rw [hq]; rfl), length_capsResult _, ?_, capsResult_watch _⟩
    show capsResult s.fog = _
    simp only [capsResult, capTableBytes, capsBytes, bit_eq_ite 4 (dewValid_iff s.fog), List.flatMap_cons,
      List.flatMap_nil, List.append_nil, List.append_assoc]
    rfl
  case dew =>
    exact ⟨_, h.exec_eq (by rw [hq]; exact readSheet_dew _ g), length_dewResult _ _,
      fun k hk => dewResult_entry _ _ hk⟩
  case zone =>
    exact ⟨_, h.exec_eq (by rw [hq]; exact readZone_index _ i), length_zoneBytes _, rfl, zoneBytes_fields _⟩
  case zones =>
    refine ⟨_, h.exec_eq (by rw [hq]; rfl), length_zoneSummary s, ?_, zoneSummary_aggregate s, ?_, ?_⟩
    · show zoneSummary s = _
      simp only [zoneSummary, List.flatMap_cons, List.flatMap_nil, List.append_nil]
      cases s.zones.grant <;> rfl
    · intro g hg
      exact (zoneSummary_grant s).trans (by rw [hg]; rfl)
    · intro hg
      exact (zoneSummary_grant s).trans (by rw [hg]; rfl)
  case buffer =>
    refine ⟨_, h.exec_eq (readBuffer_index _ hi), length_bufferBytes s i, ?_, bufferBytes_fields s i⟩
    show bufferBytes s i = _
    simp only [bufferBytes, sideOf_eq, pairCommitMode_bytes, bit_eq_ite 3 (isLocked_iff _)]
    cases s.scene.buffers[i].lastPlayed <;> rfl
  case group =>
    refine ⟨_, h.exec_eq (by rw [hq]; exact readGroup_index _ i), length_groupBytes _, ?_, groupBytes_level _⟩
    show groupBytes s.scene.groups[i] = _
    simp only [groupBytes, priorityDriven, bit_isSome]
    cases s.scene.groups[i].fade <;> cases s.scene.groups[i].driver <;> cases s.scene.groups[i].lastSent <;> rfl
  case groups =>
    refine ⟨_, h.exec_eq (by rw [hq]; rfl), length_stepSummary _, ?_, stepSummary_counter _⟩
    show stepSummary s.scene = _
    simp only [stepSummary, presence_eq, List.append_assoc]
    cases s.scene.search <;> rfl
  case profile =>
    exact ⟨_, h.exec_eq (readProfile_mode _ hm), rfl, length_profileResult s m, profileResult_fields s m⟩

end Sys2Proof.Machine
end

section
/-! SUPPORT. The sharing of a shortage (R68, R69, R109): what one class, a pass over the classes and the division of the
heat give each record, over tables written as functions of the index; and that no more is given than there is. -/

namespace Sys2Proof.Machine

/-! ### Tables as functions of the index -/

section
variable {n : Nat} {α β γ : Type}

theorem zipWith_ofFn (f : α → β → γ) (g : Fin n → α) (h : Fin n → β) :
    List.zipWith f (List.ofFn g) (List.ofFn h) = List.ofFn fun i => f (g i) (h i) :=
  List.ext_getElem (by simp) fun i _ _ => by simp

theorem toList_map_eq_ofFn (f : α → β) (v : Vector α n) : v.toList.map f = List.ofFn fun i : Fin n => f v[i] :=
  List.ext_getElem (by simp) fun i _ _ => by simp

theorem getD_ofFn (g : Fin n → Nat) (i : Fin n) : (List.ofFn g).getD i 0 = g i := by
  simp [List.getD_eq_getElem?_getD]

end

/-! ### Units left over -/

/-- Each record takes, of the units left over, the lesser of its room and what those before it have left. -/
theorem spread_ofFn {n : Nat} (left : Nat) (given room : Fin n → Nat) :
    spread left (List.ofFn fun i => (given i, room i)) =
      List.ofFn fun i => given i + min (room i) (left - ∑ j, if j < i then room j else 0) := by
  induction n generalizing left with
  | zero => rfl
  | succ n ih =>
    rw [List.ofFn_succ, spread, ih, List.ofFn_succ]
    congr 2
    · simp
    · funext i
      have before : (∑ j, if j < i.succ then room j else 0) = room 0 + ∑ j, if j < i then room j.succ else 0 := by
        simp [Fin.sum_univ_succ]
      rw [before]
      congr 2
      omega

theorem spread_sum_le (left : Nat) (l : List (Nat × Nat)) : (spread left l).sum ≤ (l.map Prod.fst).sum + left := by
  induction l generalizing left with
  | nil => exact Nat.zero_le _
  | cons x l ih =>
    have rest := ih (left - min x.2 left)
    simp only [spread, List.map_cons, List.sum_cons]
    omega

/-! ### One class by its parts (R68, R109) -/

section
variable {n : Nat} (r : Nat) (p : Fin n → Nat)

/-- A part cut in proportion, rounded down. -/
def cutPart (i : Fin n) : Nat := r * p i / ∑ j, p j

/-- What a part receives of a remainder. -/
def partGiven (i : Fin n) : Nat :=
  if ∑ j, p j ≤ r then p i
  else cutPart r p i + min (if 0 < p i then 1 else 0)
    (r - (∑ j, cutPart r p j) - ∑ j, if j < i then (if 0 < p j then 1 else 0) else 0)

theorem shareByPart_ofFn : shareByPart r (List.ofFn p) = (List.ofFn (partGiven r p), r - ∑ i, p i) := by
  have sum : (List.ofFn p).sum = ∑ i, p i := List.sum_ofFn
  have cuts : ((List.ofFn p).map fun x => r * x / ∑ j, p j) = List.ofFn (cutPart r p) := List.map_ofFn
  have rooms : ((List.ofFn p).map fun x => if 0 < x then 1 else 0) = List.ofFn fun i => if 0 < p i then 1 else 0 :=
    List.map_ofFn
  unfold shareByPart partGiven
  rw [sum]
  split
  · rfl
  · next short =>
    dsimp only
    rw [cuts, rooms, List.sum_ofFn, List.zip, zipWith_ofFn, spread_ofFn, Nat.sub_eq_zero_of_le (Nat.le_of_not_le short)]

theorem cutPart_sum_le : ∑ i, cutPart r p i ≤ r := by
  rcases Nat.eq_zero_or_pos (∑ j, p j) with h | h
  · simp [cutPart, h]
  · refine Nat.le_of_mul_le_mul_right ?_ h
    calc (∑ i, cutPart r p i) * ∑ j, p j = ∑ i, cutPart r p i * ∑ j, p j := Finset.sum_mul ..
      _ ≤ ∑ i, r * p i := Finset.sum_le_sum fun i _ => Nat.div_mul_le_self ..
      _ = r * ∑ j, p j := (Finset.mul_sum ..).symm

theorem partGiven_eq_zero {i : Fin n} (h : p i = 0) : partGiven r p i = 0 := by
  simp [partGiven, cutPart, h]

theorem partGiven_full (h : ∑ j, p j ≤ r) (i : Fin n) : partGiven r p i = p i := if_pos h

/-- No part receives more than itself: one cut in a shortage has room for a unit more. -/
theorem partGiven_le (i : Fin n) : partGiven r p i ≤ p i := by
  unfold partGiven
  split
  · exact Nat.le_refl _
  · next short =>
    rcases Nat.eq_zero_or_pos (p i) with h | h
    · simp [cutPart, h]
    · have cut : cutPart r p i < p i := by
        refine (Nat.div_lt_iff_lt_mul (by omega)).2 ?_
        rw [Nat.mul_comm]
        exact Nat.mul_lt_mul_of_pos_left (by omega) h
      rw [if_pos h]
      omega

end

/-! ### One class by weight (R69) -/

section
variable {n : Nat} (w : Fin n → Nat) (r : Nat) (d : Fin n → Nat)

/-- The sum of the weights of the needs above 0. -/
def needWeights : Nat := ∑ j, if 0 < d j then w j else 0

/-- A need's share by weight, rounded down and limited to the need. -/
def weighedPart (i : Fin n) : Nat := min (d i) (r * w i / needWeights w d)

/-- What a need receives of a remainder. -/
def needGiven (i : Fin n) : Nat :=
  if ∑ j, d j ≤ r then d i
  else weighedPart w r d i + min (d i - weighedPart w r d i)
    (r - (∑ j, weighedPart w r d j) - ∑ j, if j < i then d j - weighedPart w r d j else 0)

theorem shareByWeight_ofFn : shareByWeight r (List.ofFn d) (List.ofFn w) =
    (List.ofFn (needGiven w r d), r - ∑ i, d i) := by
  have sum : (List.ofFn d).sum = ∑ i, d i := List.sum_ofFn
  have weights : weightSum (List.ofFn d) (List.ofFn w) = needWeights w d := by
    rw [weightSum, zipWith_ofFn, List.sum_ofFn]
    rfl
  have parts : List.zipWith (fun x y => if 0 < x then min x (r * y / needWeights w d) else 0) (List.ofFn d)
      (List.ofFn w) = List.ofFn (weighedPart w r d) := by
    rw [zipWith_ofFn]
    congr 1
    funext i
    unfold weighedPart
    split
    · rfl
    · next h => rw [Nat.eq_zero_of_not_pos h, Nat.zero_min]
  unfold shareByWeight needGiven
  rw [sum]
  split
  · rfl
  · next short =>
    dsimp only
    rw [weights, parts, zipWith_ofFn, List.sum_ofFn, List.zip, zipWith_ofFn, spread_ofFn,
      Nat.sub_eq_zero_of_le (Nat.le_of_not_le short)]

theorem weighedPart_sum_le : ∑ i, weighedPart w r d i ≤ r := by
  rcases Nat.eq_zero_or_pos (needWeights w d) with h | h
  · simp [weighedPart, h]
  · refine Nat.le_of_mul_le_mul_right ?_ h
    calc (∑ i, weighedPart w r d i) * needWeights w d = ∑ i, weighedPart w r d i * needWeights w d :=
          Finset.sum_mul ..
      _ ≤ ∑ i, r * (if 0 < d i then w i else 0) := Finset.sum_le_sum fun i _ => by
          split
          · exact (Nat.mul_le_mul_right _ (Nat.min_le_right ..)).trans (Nat.div_mul_le_self ..)
          · simp [weighedPart, show d i = 0 by omega]
      _ = r * needWeights w d := (Finset.mul_sum ..).symm

theorem needGiven_eq_zero {i : Fin n} (h : d i = 0) : needGiven w r d i = 0 := by
  simp [needGiven, weighedPart, h]

theorem needGiven_full (h : ∑ j, d j ≤ r) (i : Fin n) : needGiven w r d i = d i := if_pos h

theorem needGiven_le (i : Fin n) : needGiven w r d i ≤ d i := by
  have part : weighedPart w r d i ≤ d i := Nat.min_le_left ..
  unfold needGiven
  split <;> omega

end

/-! ### A pass over the classes (R68, R69) -/

/-- A pass over the classes below m, each shared by the same rule. -/
def classPass (share : Nat → List Nat → List Nat × Nat) (usable : Nat) (classes values : List Nat) (m : Nat) :
    List Nat × Nat :=
  (List.range m).foldl (fun acc k =>
    let r := share acc.2 (ofClass k classes values)
    (List.zipWith (· + ·) acc.1 r.1, r.2)) (values.map fun _ => 0, usable)

theorem floorPass_eq (usable : Nat) (classes parts : List Nat) :
    floorPass usable classes parts = classPass shareByPart usable classes parts 4 := rfl

theorem needPass_eq (remainder : Nat) (classes needs weights : List Nat) :
    needPass remainder classes needs weights =
      classPass (fun r p => shareByWeight r p weights) remainder classes needs 4 := rfl

theorem classPass_succ (share : Nat → List Nat → List Nat × Nat) (usable : Nat) (classes values : List Nat) (m : Nat) :
    classPass share usable classes values (m + 1) =
      (List.zipWith (· + ·) (classPass share usable classes values m).1
          (share (classPass share usable classes values m).2 (ofClass m classes values)).1,
        (share (classPass share usable classes values m).2 (ofClass m classes values)).2) := by
  simp only [classPass, List.range_succ, List.foldl_append, List.foldl_cons, List.foldl_nil]

section
variable {n : Nat} (cl v : Fin n → Nat)

/-- The values of one class, 0 elsewhere. -/
def classOf (k : Nat) (j : Fin n) : Nat := if cl j = k then v j else 0

/-- The sum of the values of the classes before one. -/
def sumBefore (k : Nat) : Nat := ∑ j, if cl j < k then v j else 0

theorem ofClass_ofFn (k : Nat) : ofClass k (List.ofFn cl) (List.ofFn v) = List.ofFn (classOf cl v k) :=
  zipWith_ofFn ..

theorem sumBefore_succ (k : Nat) : sumBefore cl v (k + 1) = sumBefore cl v k + ∑ j, classOf cl v k j := by
  unfold sumBefore classOf
  rw [← Finset.sum_add_distrib]
  refine Finset.sum_congr rfl fun j _ => ?_
  split_ifs <;> omega

theorem sumBefore_of_lt {m : Nat} (h : ∀ j, cl j < m) : sumBefore cl v m = ∑ j, v j :=
  Finset.sum_congr rfl fun j _ => if_pos (h j)

/-- A class and those before it together hold no more than all. -/
theorem sumBefore_add_le (k : Nat) : sumBefore cl v k + ∑ j, classOf cl v k j ≤ ∑ j, v j := by
  rw [← sumBefore_succ]
  refine Finset.sum_le_sum fun j _ => ?_
  split
  · exact Nat.le_refl _
  · exact Nat.zero_le _

/-- A pass gives each record of the classes served what its class is given of what the classes before have left. -/
theorem classPass_ofFn {share : Nat → List Nat → List Nat × Nat} {given : Nat → (Fin n → Nat) → Fin n → Nat}
    (shares : ∀ r p, share r (List.ofFn p) = (List.ofFn (given r p), r - ∑ i, p i))
    (none : ∀ r p i, p i = 0 → given r p i = 0) (usable m : Nat) :
    classPass share usable (List.ofFn cl) (List.ofFn v) m =
      (List.ofFn fun i => if cl i < m then given (usable - sumBefore cl v (cl i)) (classOf cl v (cl i)) i else 0,
        usable - sumBefore cl v m) := by
  induction m with
  | zero => simp [classPass, sumBefore, List.map_ofFn, Function.comp_def]
  | succ m ih =>
    rw [classPass_succ, ih, ofClass_ofFn, shares, zipWith_ofFn, sumBefore_succ, Nat.sub_sub]
    congr 2
    funext i
    rcases Nat.lt_trichotomy (cl i) m with h | h | h
    · rw [if_pos h, if_pos (by omega), none _ (classOf cl v m) i (if_neg h.ne), Nat.add_zero]
    · rw [if_neg (by omega), if_pos (by omega), Nat.zero_add, h]
    · rw [if_neg (by omega), if_neg (by omega), none _ (classOf cl v m) i (if_neg h.ne')]

end

/-! ### The division (R68 to R70) -/

section
variable {n : Nat} (usable : Nat) (cl w fp need : Fin n → Nat)

/-- What the floor pass gives a record. -/
def floorGiven (i : Fin n) : Nat := partGiven (usable - sumBefore cl fp (cl i)) (classOf cl fp (cl i)) i

/-- What the need pass gives a record, of what the floor parts have left. -/
def restGiven (i : Fin n) : Nat :=
  needGiven w (usable - (∑ j, fp j) - sumBefore cl need (cl i)) (classOf cl need (cl i)) i

theorem divideHeat_ofFn (full : Fin n → Nat) (h : ∀ i, cl i < 4) :
    divideHeat usable (List.ofFn cl) (List.ofFn w) (List.ofFn fp) (List.ofFn full) = List.ofFn fun i =>
      floorGiven usable cl fp i + restGiven usable cl w fp (fun j => full j - fp j) i := by
  unfold divideHeat
  dsimp only
  rw [floorPass_eq, needPass_eq, zipWith_ofFn, classPass_ofFn cl fp shareByPart_ofFn fun r p i => partGiven_eq_zero r p,
    classPass_ofFn cl _ (shareByWeight_ofFn w) fun r p i => needGiven_eq_zero w r p, zipWith_ofFn,
    sumBefore_of_lt cl fp h]
  simp only [h, if_true]
  rfl

theorem classOf_self (v : Fin n → Nat) (i : Fin n) : classOf cl v (cl i) i = v i := if_pos rfl

theorem floorGiven_le (i : Fin n) : floorGiven usable cl fp i ≤ fp i :=
  (partGiven_le _ _ i).trans (classOf_self cl fp i).le

theorem restGiven_le (i : Fin n) : restGiven usable cl w fp need i ≤ need i :=
  (needGiven_le _ _ _ i).trans (classOf_self cl need i).le

/-- What holds every floor part gives each in full. -/
theorem floorGiven_full (h : ∑ j, fp j ≤ usable) (i : Fin n) : floorGiven usable cl fp i = fp i := by
  have all := sumBefore_add_le cl fp (cl i)
  rw [floorGiven, partGiven_full _ _ (by omega), classOf_self]

/-- What holds every floor part and every need gives each need in full. -/
theorem restGiven_full (h : (∑ j, fp j) + ∑ j, need j ≤ usable) (i : Fin n) :
    restGiven usable cl w fp need i = need i := by
  have all := sumBefore_add_le cl need (cl i)
  rw [restGiven, needGiven_full _ _ _ (by omega), classOf_self]

end

/-! ### No more is given than there is -/

theorem zipWith_add_sum_le (as bs : List Nat) : (List.zipWith (· + ·) as bs).sum ≤ as.sum + bs.sum := by
  induction as generalizing bs with
  | nil => exact Nat.zero_le _
  | cons a as ih =>
    cases bs with
    | nil => exact Nat.zero_le _
    | cons b bs =>
      have rest := ih bs
      simp only [List.zipWith_cons_cons, List.sum_cons]
      omega

/-- A pass whose rule gives no more than there is gives no more than there is. -/
theorem classPass_sum_le {share : Nat → List Nat → List Nat × Nat} {classes values : List Nat}
    (within : ∀ r k, (share r (ofClass k classes values)).1.sum + (share r (ofClass k classes values)).2 ≤ r)
    (usable m : Nat) :
    (classPass share usable classes values m).1.sum + (classPass share usable classes values m).2 ≤ usable := by
  induction m with
  | zero => simp [classPass]
  | succ m ih =>
    rw [classPass_succ]
    have given := within (classPass share usable classes values m).2 m
    have added := zipWith_add_sum_le (classPass share usable classes values m).1
      (share (classPass share usable classes values m).2 (ofClass m classes values)).1
    dsimp only
    omega

section
variable {n : Nat} (r : Nat) (w p : Fin n → Nat)

theorem map_fst_ofFn (given room : Fin n → Nat) :
    ((List.ofFn fun i => (given i, room i)).map Prod.fst).sum = ∑ i, given i := by
  rw [List.map_ofFn, List.sum_ofFn]
  rfl

/-- Parts given with the units left over spread among them keep within the remainder. -/
theorem spread_within {given room : Fin n → Nat} (h : ∑ i, given i ≤ r) :
    (∑ i, (given i + min (room i) (r - (∑ j, given j) - ∑ j, if j < i then room j else 0))) ≤ r := by
  have le := spread_sum_le (r - ∑ j, given j) (List.ofFn fun i => (given i, room i))
  rw [spread_ofFn, List.sum_ofFn, map_fst_ofFn] at le
  omega

theorem partGiven_sum_le : (∑ i, partGiven r p i) + (r - ∑ i, p i) ≤ r := by
  unfold partGiven
  split
  · omega
  · have within := spread_within r (room := fun i => if 0 < p i then 1 else 0) (cutPart_sum_le r p)
    omega

theorem needGiven_sum_le : (∑ i, needGiven w r p i) + (r - ∑ i, p i) ≤ r := by
  unfold needGiven
  split
  · omega
  · have within := spread_within r (room := fun i => p i - weighedPart w r p i) (weighedPart_sum_le w r p)
    omega

/-- R70: the grants of a division together never exceed what is divided. -/
theorem divideHeat_sum_le (usable : Nat) (cl fp full : Fin n → Nat) :
    (divideHeat usable (List.ofFn cl) (List.ofFn w) (List.ofFn fp) (List.ofFn full)).sum ≤ usable := by
  have floors := classPass_sum_le (share := shareByPart) (classes := List.ofFn cl) (values := List.ofFn fp)
    (fun r k => by rw [ofClass_ofFn, shareByPart_ofFn, List.sum_ofFn]; exact partGiven_sum_le ..) usable 4
  have needs (r : Nat) := classPass_sum_le (share := fun r p => shareByWeight r p (List.ofFn w))
    (classes := List.ofFn cl) (values := List.ofFn fun i => full i - fp i)
    (fun r k => by rw [ofClass_ofFn, shareByWeight_ofFn, List.sum_ofFn]; exact needGiven_sum_le ..) r 4
  have added := zipWith_add_sum_le (floorPass usable (List.ofFn cl) (List.ofFn fp)).1
    (needPass (floorPass usable (List.ofFn cl) (List.ofFn fp)).2 (List.ofFn cl)
      (List.zipWith (· - ·) (List.ofFn full) (List.ofFn fp)) (List.ofFn w)).1
  rw [zipWith_ofFn, needPass_eq, floorPass_eq] at added
  have need := needs (classPass shareByPart usable (List.ofFn cl) (List.ofFn fp) 4).2
  unfold divideHeat
  dsimp only
  rw [zipWith_ofFn, needPass_eq, floorPass_eq]
  omega

end

end Sys2Proof.Machine
end

section
/-! SUPPORT. The walks over the zones and the consumers at an allocation completion (R72, R73, R114): what each leaves of
its records, of the Command Queue and of the points. -/

namespace Sys2Proof.Machine

/-! ### A walk over a table -/

/-- Each step of a walk rewrites the record of its index alone, and queues that record's commands. -/
structure TableWalk {α : Type} {n : Nat} (f : State → Fin n → State) (table : State → Vector α n) (g : α → α)
    (commands : α → List (ActAddr × Nat)) : Prop where
  record : ∀ s i, table (f s i) = (table s).set i (g (table s)[i])
  queued : ∀ s i, (f s i).line.queue = enqueueAll (commands (table s)[i]) s.line.queue

section
variable {α : Type} {n : Nat} {f : State → Fin n → State} {table : State → Vector α n} {g : α → α}
  {commands : α → List (ActAddr × Nat)} (w : TableWalk f table g commands)
include w

theorem TableWalk.get_step_other (s : State) {i j : Fin n} (h : j ≠ i) : (table (f s i))[j] = (table s)[j] := by
  rw [w.record]
  exact getElem_set_other h

theorem TableWalk.get {l : List (Fin n)} (once : l.Nodup) (s : State) (j : Fin n) :
    (table (l.foldl f s))[j] = if j ∈ l then g (table s)[j] else (table s)[j] := by
  induction l generalizing s with
  | nil => rfl
  | cons i l ih =>
    obtain ⟨ahead, once⟩ := List.nodup_cons.1 once
    rw [List.foldl_cons, ih once]
    rcases Classical.em (j = i) with rfl | h
    · rw [if_neg ahead, if_pos List.mem_cons_self, w.record]
      exact getElem_set_same
    · rw [w.get_step_other s h]
      simp only [List.mem_cons, h, false_or]

/-- A walk over the whole table rewrites every record. -/
theorem TableWalk.table_eq (s : State) : table ((List.finRange n).foldl f s) = (table s).map g :=
  Vector.ext fun i h => by
    rw [Vector.getElem_map]
    exact (w.get (List.nodup_finRange n) s ⟨i, h⟩).trans (if_pos (List.mem_finRange _))

/-- A walk over the whole table queues the commands of every record in ascending index. -/
theorem TableWalk.queue_eq (s : State) : ((List.finRange n).foldl f s).line.queue =
    enqueueAll ((List.finRange n).flatMap fun i => commands (table s)[i]) s.line.queue := by
  refine foldl_enqueues f (fun i => commands (table s)[i])
    (fun l t => l.Nodup ∧ ∀ i ∈ l, (table t)[i] = (table s)[i]) (fun i l t ⟨once, same⟩ => ?_) _ s
    ⟨List.nodup_finRange n, fun _ _ => rfl⟩
  obtain ⟨ahead, once⟩ := List.nodup_cons.1 once
  refine ⟨by rw [w.queued, same i List.mem_cons_self], once, fun j hj => ?_⟩
  have apart : j ≠ i := by
    rintro rfl
    exact ahead hj
  exact (w.get_step_other t apart).trans (same j (List.mem_cons_of_mem i hj))

end

/-- A record that stays as it is, replaced by itself. -/
theorem set_getElem_self {α : Type} {n : Nat} (v : Vector α n) (i : Fin n) : v.set i v[i] = v :=
  Vector.set_getElem_self i.isLt

/-! ### The valves and the boost actuators of the zones (R114) -/

/-- R114: a zone record after its valve has been shed where it stands above its allowed position. -/
def shedValveZone (z : Zone) : Zone :=
  if z.state = .enabled ∧ z.allowed < z.lastForwarded then { z with lastForwarded := z.allowed } else z

def valveCommands (z : Zone) : List (ActAddr × Nat) :=
  if z.state = .enabled ∧ z.allowed < z.lastForwarded then [(z.defn.valve, z.allowed)] else []

/-- R114: a zone record after its boost actuator has been shed where it stands above its allowed stages. -/
def shedBoostZone (z : Zone) : Zone :=
  if z.defn.boost.isSome ∧ z.state = .enabled ∧ z.allowedStages < z.lastStages then
    { z with lastStages := z.allowedStages }
  else z

def boostCommands (z : Zone) : List (ActAddr × Nat) :=
  if z.state = .enabled ∧ z.allowedStages < z.lastStages then z.defn.boost.toList.map fun a => (a, z.allowedStages) else []

theorem shedValve_zones (s : State) (i : ZoneIx) :
    (shedValve s i).zones = { s.zones with zones := s.zones.zones.set i (shedValveZone s.zones.zones[i]) } := by
  unfold shedValve shedValveZone
  dsimp only
  split
  · rfl
  · rw [set_getElem_self]

theorem shedBoost_zones (s : State) (i : ZoneIx) :
    (shedBoost s i).zones = { s.zones with zones := s.zones.zones.set i (shedBoostZone s.zones.zones[i]) } := by
  cases h : s.zones.zones[i].defn.boost with
  | none => simp only [shedBoost, shedBoostZone, h, Option.isSome_none, Bool.false_eq_true, false_and, if_false,
      set_getElem_self]
  | some a =>
    simp only [shedBoost, shedBoostZone, h, Option.isSome_some, true_and]
    split
    · rfl
    · rw [set_getElem_self]

theorem valves_walk : TableWalk shedValve (fun s => s.zones.zones) shedValveZone valveCommands where
  record s i := congrArg ZoneController.zones (shedValve_zones s i)
  queued s i := by
    unfold shedValve valveCommands
    dsimp only
    split <;> rfl

theorem boosts_walk : TableWalk shedBoost (fun s => s.zones.zones) shedBoostZone boostCommands where
  record s i := congrArg ZoneController.zones (shedBoost_zones s i)
  queued s i := by
    cases h : s.zones.zones[i].defn.boost with
    | none => simp only [shedBoost, boostCommands, h, Option.toList_none, List.map_nil, ite_self, enqueueAll_nil]
    | some a =>
      simp only [shedBoost, boostCommands, h]
      split <;> rfl

/-- A walk over the zones changes the zone records alone of the Zone Controller. -/
theorem foldl_zones {β : Type} {f : State → β → State}
    (h : ∀ s b, (f s b).zones = { s.zones with zones := (f s b).zones.zones }) (l : List β) (s : State) :
    (l.foldl f s).zones = { s.zones with zones := (l.foldl f s).zones.zones } :=
  foldl_invariant (fun t => t.zones = { s.zones with zones := t.zones.zones }) f (fun t b k => by rw [h t b, k]) l s rfl

theorem shedValves_zones (s : State) : ((List.finRange 24).foldl shedValve s).zones =
    { s.zones with zones := s.zones.zones.map shedValveZone } := by
  have walk := valves_walk.table_eq s
  beta_reduce at walk
  rw [foldl_zones fun s i => by rw [shedValve_zones], walk]

theorem shedBoosts_zones (s : State) : ((List.finRange 24).foldl shedBoost s).zones =
    { s.zones with zones := s.zones.zones.map shedBoostZone } := by
  have walk := boosts_walk.table_eq s
  beta_reduce at walk
  rw [foldl_zones fun s i => by rw [shedBoost_zones], walk]

/-- R109, R110, R114: what a spectator handoff leaves in the Zone Controller. -/
theorem splitGrant_zones (g : Option Nat) (s : State) : (splitGrant g s).zones =
    { splitZones g s.zones with zones := (splitZones g s.zones).zones.map shedValveZone } := by
  rw [splitGrant, zoneOrder, shedValves_zones]

theorem splitGrant_queue (g : Option Nat) (s : State) : (splitGrant g s).line.queue =
    enqueueAll ((List.finRange 24).flatMap fun i => valveCommands (splitZones g s.zones).zones[i]) s.line.queue := by
  rw [splitGrant, zoneOrder, valves_walk.queue_eq]

/-- R113, R114: what a handing of the allowance leaves in the Zone Controller. -/
theorem distributeBoost_zones (a : Nat) (s : State) : (distributeBoost a s).zones =
    { boostZones a s.zones with zones := (boostZones a s.zones).zones.map shedBoostZone } := by
  rw [distributeBoost, zoneOrder, shedBoosts_zones]

theorem distributeBoost_queue (a : Nat) (s : State) : (distributeBoost a s).line.queue =
    enqueueAll ((List.finRange 24).flatMap fun i => boostCommands (boostZones a s.zones).zones[i]) s.line.queue := by
  rw [distributeBoost, zoneOrder, boosts_walk.queue_eq]

section
variable (z : Zone)

@[simp] theorem shedValveZone_frame : (shedValveZone z).defn = z.defn ∧ (shedValveZone z).state = z.state ∧
    (shedValveZone z).allowed = z.allowed ∧ (shedValveZone z).lastStages = z.lastStages := by
  unfold shedValveZone
  split <;> exact ⟨rfl, rfl, rfl, rfl⟩

@[simp] theorem shedBoostZone_frame : (shedBoostZone z).defn = z.defn ∧ (shedBoostZone z).state = z.state ∧
    (shedBoostZone z).allowed = z.allowed ∧ (shedBoostZone z).allowedStages = z.allowedStages := by
  unfold shedBoostZone
  split <;> exact ⟨rfl, rfl, rfl, rfl⟩

end

/-- A split leaves the definition, the state and the last forwarded values of a zone as they stand. -/
theorem splitZones_frame (g : Option Nat) (u : ZoneController) (i : ZoneIx) :
    (splitZones g u).zones[i].defn = u.zones[i].defn ∧ (splitZones g u).zones[i].state = u.zones[i].state ∧
    (splitZones g u).zones[i].lastForwarded = u.zones[i].lastForwarded ∧
    (splitZones g u).zones[i].lastStages = u.zones[i].lastStages := by
  cases g with
  | none =>
    simp only [splitZones, get_mapTable, ungrantedZone]
    split <;> exact ⟨rfl, rfl, rfl, rfl⟩
  | some g =>
    simp only [splitZones, get_mapTable, splitZone]
    split <;> exact ⟨rfl, rfl, rfl, rfl⟩

theorem boostZones_get (a : Nat) (u : ZoneController) (i : ZoneIx) : (boostZones a u).zones[i] =
    { u.zones[i] with allowedStages := (boostWalk a u.zones.toList).1.getD i 0 } := get_mapTable ..

/-- The shed commands of an event's valves, from the records its walk found. -/
theorem valveShed_eq {s t : State} {i : ZoneIx} {z : Zone} (defn : t.zones.zones[i].defn = z.defn)
    (state : t.zones.zones[i].state = z.state) (allowed : t.zones.zones[i].allowed = z.allowed)
    (last : z.lastForwarded = s.zones.zones[i].lastForwarded) : valveShed s t i = valveCommands z := by
  unfold valveShed valveCommands
  dsimp only
  rw [defn, state, allowed, last]

/-- The shed commands of an event's boost actuators, from the records its walk found. -/
theorem boostShed_eq {s t : State} {i : ZoneIx} {z : Zone} (defn : t.zones.zones[i].defn = z.defn)
    (state : t.zones.zones[i].state = z.state) (allowed : t.zones.zones[i].allowedStages = z.allowedStages)
    (last : z.lastStages = s.zones.zones[i].lastStages) : boostShed s t i = boostCommands z := by
  unfold boostShed boostCommands
  dsimp only
  rw [defn, state, allowed, last]
  cases z.defn.boost with
  | none => exact (ite_self _).symm
  | some a => rfl

/-- R113, R114: a handing of the allowance sheds the boost actuators that it leaves above their stages. -/
theorem distributeBoost_sheds {a : Nat} {s t : State} (h : t.zones = (distributeBoost a s).zones) :
    (distributeBoost a s).line.queue = enqueueAll ((List.finRange 24).flatMap (boostShed s t)) s.line.queue := by
  have record (i : ZoneIx) : t.zones.zones[i] = shedBoostZone (boostZones a s.zones).zones[i] := by
    rw [h, distributeBoost_zones]
    exact Vector.getElem_map ..
  have shed (i : ZoneIx) : boostShed s t i = boostCommands (boostZones a s.zones).zones[i] :=
    boostShed_eq (by simp [record]) (by simp [record]) (by simp [record]) (by rw [boostZones_get])
  rw [distributeBoost_queue, funext shed]

/-! ### The commands of the consumers (R72, R73) -/

/-- R72, R73: a consumer record after its command at a completion. -/
def commandedConsumer (r : Consumer) : Consumer :=
  if r.takingPart then
    match r.defn.handling, r.defn.addr with
    | some .drive, some _ => { r with lastSent := some r.allowed }
    | some .govern, some _ => { r with lastForwarded := min r.lastForwarded r.allowed }
    | _, _ => r
  else r

/-- R72: a DRIVE consumer that took part and whose position changed. -/
abbrev Drives (r : Consumer) : Prop :=
  r.takingPart = true ∧ r.defn.handling = some .drive ∧ r.lastSent ≠ some r.allowed

/-- R73: a GOVERN consumer that took part and was left above its allowed position. -/
abbrev Sheds (r : Consumer) : Prop :=
  r.takingPart = true ∧ r.defn.handling = some .govern ∧ r.allowed < r.lastForwarded

def consumerCommands (r : Consumer) : List (ActAddr × Nat) :=
  if Drives r ∨ Sheds r then r.defn.addr.toList.map fun a => (a, r.allowed) else []

/-- R72: a settling start of this point goes with the consumer's command. -/
abbrev Settles (p : PointIx) (r : Consumer) : Prop := Drives r ∧ r.defn.addr ≠ none ∧ r.defn.settlePoint = some p

/-- A settling start on a point, where there is one. -/
def settleOn (p : Option PointIx) (s : State) : State := p.elim s fun p => settleStart p s

@[simp] theorem settleOn_frame (p : Option PointIx) (s : State) : (settleOn p s).line = s.line ∧
    (settleOn p s).budget = s.budget := by
  cases p with
  | none => exact ⟨rfl, rfl⟩
  | some p => exact ⟨(settleStart_frame s p).1, (settleStart_frame s p).2.1⟩

theorem driveValve_eq (i : ConsumerIx) (r : Consumer) (a : ActAddr) (s : State) : driveValve i r a s =
    if r.lastSent = some r.allowed then s
    else settleOn r.defn.settlePoint (setConsumer i { r with lastSent := some r.allowed } (queueCommand a r.allowed s)) := by
  unfold driveValve settleOn
  dsimp only
  split
  · rfl
  · cases r.defn.settlePoint <;> rfl

/-- What the command of one consumer does: a DRIVE valve is sent its position, a GOVERN valve is shed, or nothing is
due. -/
theorem commandConsumer_cases (s : State) (i : ConsumerIx) {r : Consumer} (hr : s.budget.consumers[i] = r) :
    (Drives r ∧ ∃ a, r.defn.addr = some a ∧ commandConsumer s i = settleOn r.defn.settlePoint
      (setConsumer i { r with lastSent := some r.allowed } (queueCommand a r.allowed s))) ∨
    (Sheds r ∧ ∃ a, r.defn.addr = some a ∧
      commandConsumer s i = setConsumer i { r with lastForwarded := r.allowed } (queueCommand a r.allowed s)) ∨
    (((Drives r ∨ Sheds r) → r.defn.addr = none) ∧ commandConsumer s i = s) := by
  unfold commandConsumer
  rw [hr]
  dsimp only
  split
  · next marked =>
    split
    · next a drive addr =>
      rw [driveValve_eq]
      split
      · next sent => exact .inr (.inr ⟨by simp [Drives, Sheds, drive, sent], rfl⟩)
      · next sent => exact .inl ⟨⟨marked, drive, sent⟩, a, addr, rfl⟩
    · next a govern addr =>
      unfold governValve
      split
      · next above => exact .inr (.inl ⟨⟨marked, govern, above⟩, a, addr, rfl⟩)
      · next above => exact .inr (.inr ⟨by simp [Drives, Sheds, govern, above], rfl⟩)
    · next addr => exact .inr (.inr ⟨fun _ => addr, rfl⟩)
    · next addr => exact .inr (.inr ⟨fun _ => addr, rfl⟩)
    · next none => exact .inr (.inr ⟨by simp [Drives, Sheds, none], rfl⟩)
  · next unmarked => exact .inr (.inr ⟨by simp [Drives, Sheds, unmarked], rfl⟩)

theorem commandedConsumer_drives {r : Consumer} (h : Drives r) {a : ActAddr} (ha : r.defn.addr = some a) :
    commandedConsumer r = { r with lastSent := some r.allowed } := by
  obtain ⟨marked, drive, -⟩ := h
  simp only [commandedConsumer, marked, drive, ha, if_true]

theorem commandedConsumer_sheds {r : Consumer} (h : Sheds r) {a : ActAddr} (ha : r.defn.addr = some a) :
    commandedConsumer r = { r with lastForwarded := r.allowed } := by
  obtain ⟨marked, govern, above⟩ := h
  simp only [commandedConsumer, marked, govern, ha, if_true, Nat.min_eq_right above.le]

theorem commandedConsumer_idle {r : Consumer} (h : (Drives r ∨ Sheds r) → r.defn.addr = none) :
    commandedConsumer r = r := by
  unfold commandedConsumer
  split
  · next marked =>
    split
    · next drive addr =>
      have sent : r.lastSent = some r.allowed := by
        by_contra sent
        simpa [addr] using h (.inl ⟨marked, drive, sent⟩)
      rw [← sent]
    · next govern addr =>
      have above : ¬r.allowed < r.lastForwarded := fun above => by
        simpa [addr] using h (.inr ⟨marked, govern, above⟩)
      rw [Nat.min_eq_left (Nat.le_of_not_lt above)]
    · rfl
  · rfl

theorem commandConsumer_budget (s : State) (i : ConsumerIx) : (commandConsumer s i).budget =
    { s.budget with consumers := s.budget.consumers.set i (commandedConsumer s.budget.consumers[i]) } := by
  obtain ⟨due, a, ha, h⟩ | ⟨due, a, ha, h⟩ | ⟨due, h⟩ := commandConsumer_cases s i rfl
  · rw [h, commandedConsumer_drives due ha]
    simp
  · rw [h, commandedConsumer_sheds due ha]
    rfl
  · rw [h, commandedConsumer_idle due, set_getElem_self]

theorem commandConsumer_queue (s : State) (i : ConsumerIx) : (commandConsumer s i).line.queue =
    enqueueAll (consumerCommands s.budget.consumers[i]) s.line.queue := by
  unfold consumerCommands
  obtain ⟨due, a, ha, h⟩ | ⟨due, a, ha, h⟩ | ⟨due, h⟩ := commandConsumer_cases s i rfl
  · rw [h, if_pos (.inl due), ha]
    simp
  · rw [h, if_pos (.inr due), ha]
    rfl
  · rw [h]
    split
    · next commanded => rw [due commanded]; rfl
    · rfl

theorem consumers_walk : TableWalk commandConsumer (fun s => s.budget.consumers) commandedConsumer consumerCommands where
  record s i := congrArg BudgetUnit.consumers (commandConsumer_budget s i)
  queued := commandConsumer_queue

/-- R72, R73: the Budget Unit after the commands of a completion. -/
theorem commandConsumers_budget (s : State) : (consumerOrder.foldl commandConsumer s).budget =
    { s.budget with consumers := s.budget.consumers.map commandedConsumer } := by
  have walk := consumers_walk.table_eq s
  beta_reduce at walk
  have rest := foldl_invariant (fun t => t.budget = { s.budget with consumers := t.budget.consumers }) commandConsumer
    (fun t i k => by rw [commandConsumer_budget, k]) (List.finRange 8) s rfl
  rw [consumerOrder, rest, walk]

theorem commandConsumers_queue (s : State) : (consumerOrder.foldl commandConsumer s).line.queue =
    enqueueAll ((List.finRange 8).flatMap fun i => consumerCommands s.budget.consumers[i]) s.line.queue := by
  rw [consumerOrder, consumers_walk.queue_eq]

/-! ### The settling starts of a completion (R45, R72) -/

/-- Settling started on some points, and then on others, has been started on both. -/
theorem SettledFrom.trans {a b c : PointIx → Prop} {s t u : State} (h : SettledFrom a s t) (k : SettledFrom b t u)
    (hc : ∀ p, c p ↔ a p ∨ b p) : SettledFrom c s u := by
  intro p
  rcases Classical.em (a p ∧ 0 < s.points[p].defn.settleTime ∧ live s.points[p]) with ⟨ha, h0, hl⟩ | hn
  · have first := (h p).1 ha h0 hl
    have second : u.points[p] = t.points[p] := by
      rcases Classical.em (b p) with hb | hb
      · rw [(k p).1 hb (by rw [first]; exact h0) (by rw [first]; exact .inr rfl), first]
      · exact (k p).2 fun h => hb h.1
    exact ⟨fun _ _ _ => second.trans first, fun hcn => absurd ⟨(hc p).2 (.inl ha), h0, hl⟩ hcn⟩
  · have first := (h p).2 hn
    refine ⟨fun hcp h0 hl => ?_, fun hcn => ?_⟩
    · have hb : b p := ((hc p).1 hcp).resolve_left fun ha => hn ⟨ha, h0, hl⟩
      rw [← first] at h0 hl ⊢
      exact (k p).1 hb h0 hl
    · rw [← first] at hcn ⊢
      exact (k p).2 fun ⟨hb, h0, hl⟩ => hcn ⟨(hc p).2 (.inr hb), h0, hl⟩

/-- Settling starts are told by the points before and after. -/
theorem SettledFrom.of_points {a : PointIx → Prop} {s t s' t' : State} (h : SettledFrom a s t)
    (hs : s'.points = s.points) (ht : t'.points = t.points) : SettledFrom a s' t' := by
  unfold SettledFrom
  rw [hs, ht]
  exact h

theorem SettledFrom.congr {a b : PointIx → Prop} {s t : State} (h : SettledFrom a s t) (hb : ∀ p, b p ↔ a p) :
    SettledFrom b s t := by
  rwa [funext fun p => propext (hb p)]

theorem settledFrom_same {a : PointIx → Prop} {s t : State} (h : t.points = s.points) (ha : ∀ p, ¬a p) :
    SettledFrom a s t := fun p => ⟨fun hp => absurd hp (ha p), fun _ => by rw [h]⟩

theorem commandConsumer_settled (s : State) (i : ConsumerIx) :
    SettledFrom (fun p => Settles p s.budget.consumers[i]) s (commandConsumer s i) := by
  obtain ⟨due, a, ha, h⟩ | ⟨due, a, ha, h⟩ | ⟨due, h⟩ := commandConsumer_cases s i rfl
  · rw [h]
    cases hp : s.budget.consumers[i].defn.settlePoint with
    | none => exact settledFrom_same rfl fun p hs => by cases hp.symm.trans hs.2.2
    | some q =>
      have start (p : PointIx) : Settles p s.budget.consumers[i] ↔ p = q := by
        unfold Settles
        rw [ha, hp, Option.some_inj, eq_comm]
        exact ⟨fun hs => hs.2.2, fun e => ⟨due, Option.some_ne_none a, e⟩⟩
      simp only [start]
      have settled := settleStart_settledFrom (i := q) (s := setConsumer i
        { s.budget.consumers[i] with lastSent := some s.budget.consumers[i].allowed }
        (queueCommand a s.budget.consumers[i].allowed s))
      exact settled.1.of_points rfl rfl
  · rw [h]
    exact settledFrom_same rfl fun p hs => by cases due.2.1.symm.trans hs.1.2.1
  · rw [h]
    exact settledFrom_same rfl fun p hs => hs.2.1 (due (.inl hs.1))

/-- R45, R72: the commands of a completion start settling on the settle points of the DRIVE consumers commanded. -/
theorem commandConsumers_settled (s : State) : SettledFrom
    (fun p => ∃ i : ConsumerIx, Settles p s.budget.consumers[i]) s (consumerOrder.foldl commandConsumer s) := by
  have walk (l : List ConsumerIx) (once : l.Nodup) (t : State)
      (same : ∀ i ∈ l, t.budget.consumers[i] = s.budget.consumers[i]) :
      SettledFrom (fun p => ∃ i ∈ l, Settles p s.budget.consumers[i]) t (l.foldl commandConsumer t) := by
    induction l generalizing t with
    | nil => exact settledFrom_same rfl (by simp)
    | cons i l ih =>
      obtain ⟨ahead, once⟩ := List.nodup_cons.1 once
      refine (commandConsumer_settled t i).trans (ih once _ fun j hj => ?_) fun p => ?_
      · have apart : j ≠ i := by
          rintro rfl
          exact ahead hj
        exact (consumers_walk.get_step_other t apart).trans (same j (List.mem_cons_of_mem i hj))
      · rw [same i List.mem_cons_self]
        exact List.exists_mem_cons_iff ..
  refine (walk consumerOrder (List.nodup_finRange 8) s fun _ _ => rfl).congr fun p => ?_
  exact exists_congr fun i => (and_iff_right (List.mem_finRange i)).symm

end Sys2Proof.Machine
end

section
/-! SUPPORT. The Budget Unit's part of its events, said once: the electric figures, the start of an allocation, and the
Budget Unit a completion leaves (R64 to R67, R70 to R76). -/

namespace Sys2Proof.Machine

/-! ### The electric share (R75, R76) -/

theorem recomputeElectric_budget (s : State) :
    (recomputeElectric s).budget = electricFigures (profileInForce s).eMax s.budget := by
  simp [recomputeElectric]

theorem recomputeElectricSilently_budget (s : State) :
    (recomputeElectricSilently s).budget = electricFigures (profileInForce s).eMax s.budget := by
  simp [recomputeElectricSilently]

/-! ### The next allocation (R65, R66) -/

/-- R66: an allocation captures the same inputs whatever the marks and the allocation in flight. -/
theorem captureInputs_unmarked (s : State) (a : Option Capture) (p : Bool) : captureInputs { s with
    budget.allocation := a, budget.consumers := s.budget.consumers.map unmarked, budget.pendingFlag := p } =
    captureInputs s := by
  unfold captureInputs
  dsimp only
  rw [Vector.map_map]
  rfl

/-- R65, R66: the Budget Unit after a completion: a set pending flag starts the next allocation. -/
theorem nextAllocation_budget (s : State) : (nextAllocation s).budget = { s.budget with
    allocation := if s.budget.pendingFlag then some (captureInputs s) else none
    consumers := s.budget.consumers.map fun r =>
      { r with takingPart := s.budget.pendingFlag && decide (r.state = .enabled) }
    periodTimer := if s.budget.pendingFlag then some ((profileInForce s).period * 1000) else s.budget.periodTimer
    pendingFlag := false } := by
  unfold nextAllocation
  dsimp only
  cases hp : s.budget.pendingFlag with
  | false => rw [if_neg (by simp)]; rfl
  | true =>
    rw [if_pos rfl]
    unfold startAllocation
    dsimp only
    rw [captureInputs_unmarked, Vector.map_map]
    rfl

/-! ### The completion (R67, R70 to R74) -/

/-- R70, R72, R73: the state once the figures are published and the consumers' commands queued. -/
def commandedState (c : Capture) (s : State) : State :=
  consumerOrder.foldl commandConsumer (heatLostNotice c s.budget { s with budget := publishedBudget c s.budget })

/-- R74, R75: the state once the spectator grant and the allowance have been handed to the zones. -/
def appliedState (c : Capture) (s : State) : State :=
  recomputeElectric (splitGrant (spectatorGrant (commandedState c s).budget) (commandedState c s))

theorem completeWith_eq (c : Capture) (s : State) : completeWith c s = nextAllocation (appliedState c s) := rfl

theorem commandedState_budget (c : Capture) (s : State) : (commandedState c s).budget = { publishedBudget c s.budget with
    consumers := (publishedBudget c s.budget).consumers.map commandedConsumer } := by
  rw [commandedState, commandConsumers_budget]
  simp only [heatLostNotice_frame]

theorem commandedState_mode (c : Capture) (s : State) : (commandedState c s).mode = s.mode := by
  simp [commandedState]

/-- R70 to R76: the Budget Unit once the results of an allocation have been applied. -/
theorem appliedState_budget (c : Capture) (s : State) : (appliedState c s).budget =
    electricFigures (profileInForce s).eMax (commandedState c s).budget := by
  rw [appliedState, recomputeElectric_budget]
  unfold profileInForce
  simp only [splitGrant_frame, commandedState_mode]

end Sys2Proof.Machine
end

section
/-! SUPPORT. The grants of an allocation within its usable heat, and the soundness of the grants under every part of a
command (R56, R58, R66, R67, R70). -/

namespace Sys2Proof.Machine

theorem get_map {α β : Type} {n : Nat} (f : α → β) (v : Vector α n) (i : Fin n) : (v.map f)[i] = f v[i] :=
  Vector.getElem_map ..

/-! ### The grants of a capture (R68 to R70) -/

section
variable (c : Capture)

/-- A figure of the consumer captured at an index; 0 where none is. -/
def capturedFigure (f : ConsumerCapture → Nat) (i : ConsumerIx) : Nat :=
  match c.consumers[i] with
  | some k => f k
  | none => 0

theorem figures_eq (f : ConsumerCapture → Nat) : figures c f = List.ofFn (capturedFigure c f) :=
  toList_map_eq_ofFn _ c.consumers

variable {c} in
theorem capturedFigure_some {i : ConsumerIx} {k : ConsumerCapture} (h : c.consumers[i] = some k)
    (f : ConsumerCapture → Nat) : capturedFigure c f i = f k := by
  rw [capturedFigure, h]

variable {c} in
theorem capturedFigure_none {i : ConsumerIx} (h : c.consumers[i] = none) (f : ConsumerCapture → Nat) :
    capturedFigure c f i = 0 := by
  rw [capturedFigure, h]

/-- R66: the classes of the captured consumers are 0 to 3. -/
def ClassesInRange : Prop := ∀ i : ConsumerIx, ∀ k, c.consumers[i] = some k → k.defn.cls ≤ 3

variable {c} in
theorem ClassesInRange.effective (h : ClassesInRange c) (i : ConsumerIx) :
    capturedFigure c (effectiveClass c) i < 4 := by
  cases hk : c.consumers[i] with
  | none => rw [capturedFigure_none hk]; decide
  | some k =>
    have cls := h i k hk
    rw [capturedFigure_some hk, effectiveClass]
    split <;> omega

/-- R68 to R70: the grant of the consumer captured at an index. -/
def grantAt (usable : Nat) (i : ConsumerIx) : Nat :=
  floorGiven usable (capturedFigure c (effectiveClass c)) (capturedFigure c (floorPart c)) i +
    restGiven usable (capturedFigure c (effectiveClass c)) (capturedFigure c (·.defn.weight))
      (capturedFigure c (floorPart c))
      (fun j => capturedFigure c (effectiveDemand c) j - capturedFigure c (floorPart c) j) i

variable {c} in
theorem grantsOf_eq (h : ClassesInRange c) (usable : Nat) : grantsOf c usable = List.ofFn (grantAt c usable) := by
  rw [grantsOf, figures_eq, figures_eq, figures_eq, figures_eq, divideHeat_ofFn _ _ _ _ _ h.effective]
  rfl

theorem grantsOf_sum_le (usable : Nat) : (grantsOf c usable).sum ≤ usable := by
  rw [grantsOf, figures_eq, figures_eq, figures_eq, figures_eq]
  exact divideHeat_sum_le ..

variable {c} in
theorem grantAt_sum_le (h : ClassesInRange c) (usable : Nat) : ∑ i, grantAt c usable i ≤ usable := by
  have le := grantsOf_sum_le c usable
  rwa [grantsOf_eq h, List.sum_ofFn] at le

end

/-! ### The results of a completion (R67, R70) -/

section
variable {c : Capture} {grants : List Nat} {i : ConsumerIx} {r : Consumer}

theorem completedConsumer_marked {k : ConsumerCapture} (h : r.takingPart = true) (hk : c.consumers[i] = some k) :
    completedConsumer c grants i r = grantedConsumer c k (grants.getD i 0) r := by
  have captured : c.consumers.toList.getD i none = some k := by
    simpa [List.getD_eq_getElem?_getD] using hk
  rw [completedConsumer, if_pos h, captured]

theorem completedConsumer_unmarked (h : r.takingPart = false) : completedConsumer c grants i r = r :=
  if_neg (by simp [h])

theorem completedConsumer_uncaptured (hk : c.consumers[i] = none) : completedConsumer c grants i r = r := by
  have captured : c.consumers.toList.getD i none = none := by
    simpa [List.getD_eq_getElem?_getD] using hk
  rw [completedConsumer, captured]
  exact ite_self r

end

/-! ### Sound grants -/

/-- What the soundness of the grants asks of one consumer record beside the allocation in flight. -/
structure GrantSound (a : Option Capture) (i : ConsumerIx) (r : Consumer) : Prop where
  cls : r.defn.cls ≤ 3
  idle : r.state ≠ .enabled → r.grant = 0 ∧ r.takingPart = false
  unmarked : ∀ c, a = some c → r.takingPart = false → r.grant = 0
  marked : ∀ c, a = some c → r.takingPart = true → c.consumers[i].isSome
  captured : ∀ c, a = some c → ∀ k, c.consumers[i] = some k → k.defn.cls ≤ 3

/-- The soundness of the grants, told by the Budget Unit alone. -/
structure BudgetSound (u : BudgetUnit) : Prop where
  within : ∑ i : ConsumerIx, u.consumers[i].grant ≤ u.usable
  records : ∀ i : ConsumerIx, GrantSound u.allocation i u.consumers[i]

theorem grantSum_eq (u : BudgetUnit) : grantSum u = ∑ i : ConsumerIx, u.consumers[i].grant := by
  rw [grantSum, toList_map_eq_ofFn, List.sum_ofFn]

theorem grantsSound_iff {s : State} : GrantsSound s ↔ BudgetSound s.budget := by
  unfold GrantsSound
  rw [grantSum_eq]
  constructor
  · rintro ⟨within, records⟩
    refine ⟨within, fun i => ?_⟩
    obtain ⟨cls, idle, flight⟩ := records i
    exact ⟨cls, idle, fun c hc => (flight c hc).1, fun c hc => (flight c hc).2.1, fun c hc => (flight c hc).2.2⟩
  · rintro ⟨within, records⟩
    refine ⟨within, fun i => ?_⟩
    obtain ⟨cls, idle, unmarked, marked, captured⟩ := records i
    exact ⟨cls, idle, fun c hc => ⟨unmarked c hc, marked c hc, captured c hc⟩⟩

/-- The record keeps what its soundness is about. -/
structure GrantKept (r r' : Consumer) : Prop where
  cls : r'.defn.cls = r.defn.cls
  state : r'.state = r.state
  grant : r'.grant = r.grant
  takingPart : r'.takingPart = r.takingPart

section
variable {u v : BudgetUnit}

theorem GrantSound.kept {a : Option Capture} {i : ConsumerIx} {r r' : Consumer} (h : GrantSound a i r)
    (k : GrantKept r r') : GrantSound a i r' := by
  obtain ⟨cls, state, grant, takingPart⟩ := k
  constructor
  · rw [cls]; exact h.cls
  · rw [state, grant, takingPart]; exact h.idle
  · rw [takingPart, grant]; exact h.unmarked
  · rw [takingPart]; exact h.marked
  · exact h.captured

/-- A record whose mark is clear is sound where no allocation is in flight. -/
theorem GrantSound.idled {a : Option Capture} {i : ConsumerIx} {r : Consumer} (h : GrantSound a i r) :
    GrantSound none i { r with takingPart := false } :=
  ⟨h.cls, fun hs => ⟨(h.idle hs).1, rfl⟩, by rintro _ ⟨⟩, by rintro _ ⟨⟩, by rintro _ ⟨⟩⟩

theorem BudgetSound.kept (h : BudgetSound u) (hu : v.usable = u.usable) (ha : v.allocation = u.allocation)
    (hr : ∀ i : ConsumerIx, GrantKept u.consumers[i] v.consumers[i]) : BudgetSound v := by
  refine ⟨?_, fun i => ha ▸ (h.records i).kept (hr i)⟩
  rw [hu]
  simpa only [(hr _).grant] using h.within

/-- One record replaced by a sound one with no greater grant. -/
theorem BudgetSound.set (h : BudgetSound u) {i : ConsumerIx} {r : Consumer} (hg : r.grant ≤ u.consumers[i].grant)
    (hr : GrantSound u.allocation i r) : BudgetSound { u with consumers := u.consumers.set i r } := by
  have grants (j : ConsumerIx) : (u.consumers.set i r)[j].grant ≤ u.consumers[j].grant :=
    forall_set (P := fun j (r : Consumer) => r.grant ≤ u.consumers[j].grant) hg (fun _ => Nat.le_refl _) j
  exact ⟨(Finset.sum_le_sum fun j _ => grants j).trans h.within,
    forall_set (P := fun j r => GrantSound u.allocation j r) hr h.records⟩

theorem budgetSound_of_eq {s t : State} (e : t.budget = s.budget) (h : BudgetSound s.budget) : BudgetSound t.budget :=
  e ▸ h

/-! ### The allocation (R65 to R67, R70) -/

/-- R66: an allocation captures every ENABLED consumer, and marks it. -/
theorem captured_sound (s : State) (h : BudgetSound s.budget) (i : ConsumerIx) :
    GrantSound (some (captureInputs s)) i (markTakingPart s.budget.consumers[i]) := by
  have record := h.records i
  have captured : (captureInputs s).consumers[i] = captureConsumer s s.budget.consumers[i] := Vector.getElem_map ..
  refine ⟨record.cls, fun hs => ⟨(record.idle hs).1, decide_eq_false hs⟩, ?_, ?_, ?_⟩
  all_goals rintro _ ⟨⟩
  · exact fun hm => (record.idle (of_decide_eq_false hm)).1
  · intro hm
    rw [captured, captureConsumer, if_pos (of_decide_eq_true hm)]
    rfl
  · intro k hk
    rw [captured, captureConsumer] at hk
    split at hk
    · cases hk
      exact record.cls
    · cases hk

theorem startAllocation_sound (s : State) (h : BudgetSound s.budget) : BudgetSound (startAllocation s).budget := by
  refine ⟨?_, fun i => ?_⟩
  · simpa [startAllocation, markTakingPart] using h.within
  · have record := captured_sound s h i
    simpa [startAllocation] using record

theorem requestAllocation_sound (s : State) (h : BudgetSound s.budget) : BudgetSound (requestAllocation s).budget := by
  unfold requestAllocation
  split
  · exact startAllocation_sound s h
  · exact h.kept rfl rfl fun _ => ⟨rfl, rfl, rfl, rfl⟩

theorem allocationPeriod_sound (s : State) (h : BudgetSound s.budget) : BudgetSound (allocationPeriod s).budget := by
  unfold allocationPeriod
  split
  · exact h
  · exact requestAllocation_sound _ (h.kept rfl rfl fun _ => ⟨rfl, rfl, rfl, rfl⟩)

/-- R67, R70: a record published has no more than its grant of the division: a marked one has that grant, and an unmarked
one has none. -/
theorem completedConsumer_sound {c : Capture} {grants : List Nat} {i : ConsumerIx} {r : Consumer}
    (h : GrantSound (some c) i r) : (completedConsumer c grants i r).grant ≤ grants.getD i 0 ∧
      GrantSound (some c) i (completedConsumer c grants i r) := by
  cases hm : r.takingPart with
  | false =>
    rw [completedConsumer_unmarked hm, h.unmarked c rfl hm]
    exact ⟨Nat.zero_le _, h⟩
  | true =>
    obtain ⟨k, hk⟩ := Option.isSome_iff_exists.1 (h.marked c rfl hm)
    rw [completedConsumer_marked hm hk]
    refine ⟨Nat.le_refl _, h.cls, fun hs => ?_, fun _ _ hf => ?_, fun d hd _ => h.marked d hd hm, h.captured⟩
    · exact absurd ((h.idle hs).2.symm.trans hm) (by decide)
    · exact absurd (hf.symm.trans hm) (by decide)

theorem publishedBudget_sound {c : Capture} (h : BudgetSound u) (ha : u.allocation = some c) :
    BudgetSound (publishedBudget c u) := by
  have records (i : ConsumerIx) := completedConsumer_sound (grants := grantsOf c (usableAfter c u.smoothed))
    (ha ▸ h.records i)
  have record (i : ConsumerIx) : (publishedBudget c u).consumers[i] =
      completedConsumer c (grantsOf c (usableAfter c u.smoothed)) i u.consumers[i] := get_mapTable ..
  have classes : ClassesInRange c := fun i => (h.records i).captured c ha
  refine ⟨?_, fun i => ?_⟩
  · refine le_trans (Finset.sum_le_sum fun i _ => ?_) (grantAt_sum_le classes (usableAfter c u.smoothed))
    have granted := (records i).1
    rwa [← record, grantsOf_eq classes, getD_ofFn] at granted
  · rw [record]
    exact ha.symm ▸ (records i).2

theorem commandedConsumer_kept (r : Consumer) : GrantKept r (commandedConsumer r) := by
  unfold commandedConsumer
  split
  · split <;> exact ⟨rfl, rfl, rfl, rfl⟩
  · exact ⟨rfl, rfl, rfl, rfl⟩

theorem electricFigures_sound (eMax : Nat) (h : BudgetSound u) : BudgetSound (electricFigures eMax u) :=
  h.kept rfl rfl fun _ => ⟨rfl, rfl, rfl, rfl⟩

theorem appliedState_sound {c : Capture} {s : State} (h : BudgetSound s.budget) (ha : s.budget.allocation = some c) :
    BudgetSound (appliedState c s).budget := by
  rw [appliedState_budget, commandedState_budget]
  refine electricFigures_sound _ ((publishedBudget_sound h ha).kept rfl rfl fun i => ?_)
  dsimp only
  rw [get_map]
  exact commandedConsumer_kept _

/-- R65: after a completion the marks are those of the next allocation, or clear. -/
theorem nextAllocation_sound (s : State) (h : BudgetSound s.budget) : BudgetSound (nextAllocation s).budget := by
  rw [nextAllocation_budget]
  refine ⟨?_, fun i => ?_⟩
  · simpa using h.within
  · dsimp only
    rw [get_map]
    cases s.budget.pendingFlag with
    | true => exact captured_sound s h i
    | false => exact (h.records i).idled

theorem completeAllocation_sound (s : State) (h : BudgetSound s.budget) : BudgetSound (completeAllocation s).budget := by
  unfold completeAllocation
  split
  · exact h
  · next c hc =>
    rw [completeWith_eq]
    exact nextAllocation_sound _ (appliedState_sound h hc)

/-! ### Requests (R50, R56 to R58) -/

/-- R56: a definition in range has a class of 0 to 3. -/
theorem consumerArgs_cls {args : List Byte} {d : ConsumerDef} (h : consumerArgs args = some d) : d.cls ≤ 3 := by
  obtain ⟨kind, sheet, cls, weight, floor, cap, design, addr, handling, settle, temp, setpoint, band, clear, watch, fog,
    recover, fan⟩ := d
  simp only [consumerArgs, Option.bind_eq_bind, ite_require, ite_require_two, ite_require_else_two,
    Option.bind_eq_some_iff, require_eq_some, exists_const, Option.some.injEq, ConsumerDef.mk.injEq, existsAndEq,
    Bool.and_eq_true, decide_eq_true_iff, true_and] at h
  obtain ⟨-, -, -, -, ⟨⟨inRange, -⟩, -⟩, -, -, -, -, -, rfl, -⟩ := h
  exact inRange

theorem clearedConsumer_sound {a : Option Capture} {i : ConsumerIx} {r : Consumer} {d : ConsumerDef} {state : RecordState}
    (h : GrantSound a i r) (hd : d.cls ≤ 3) : GrantSound a i (clearedConsumer d state) :=
  ⟨hd, fun _ => ⟨rfl, rfl⟩, fun _ _ _ => rfl, fun _ _ marked => Bool.noConfusion marked, h.captured⟩

end

section
variable {s : State}

theorem writeRecovery_sound (args : List Byte) (h : BudgetSound s.budget) :
    BudgetSound (writeRecovery args s).state.budget := by
  fun_cases writeRecovery args s
  case case2 => exact h.kept rfl rfl fun _ => ⟨rfl, rfl, rfl, rfl⟩
  all_goals exact h

/-- R56: a definition loaded in place of a record that is not ENABLED. -/
theorem loadConsumer_sound {i : ConsumerIx} {d : ConsumerDef} (hd : d.cls ≤ 3) (h : BudgetSound s.budget) :
    BudgetSound (loadConsumer i d s).budget :=
  h.set (Nat.zero_le _) (clearedConsumer_sound (h.records i) hd)

theorem writeConsumer_sound (args : List Byte) (h : BudgetSound s.budget) :
    BudgetSound (writeConsumer args s).state.budget := by
  fun_cases writeConsumer args s
  case case6 hd _ _ => exact loadConsumer_sound (consumerArgs_cls hd) h
  all_goals exact h

/-- R57: a DISABLED consumer has no grant and no mark to take along. -/
theorem enableConsumer_sound (args : List Byte) (h : BudgetSound s.budget) :
    BudgetSound (enableConsumer args s).state.budget := by
  fun_cases enableConsumer args s
  case case4 i _ hs =>
    have record := h.records i
    obtain ⟨grant, mark⟩ := record.idle (by rw [hs]; decide)
    exact h.set (Nat.le_refl _) ⟨record.cls, fun _ => ⟨grant, mark⟩, record.unmarked, record.marked, record.captured⟩
  all_goals exact h

theorem disableConsumer_sound (args : List Byte) (h : BudgetSound s.budget) :
    BudgetSound (disableConsumer args s).state.budget := by
  fun_cases disableConsumer args s
  case case4 i _ _ =>
    have record := h.records i
    exact h.set (Nat.zero_le _) ⟨record.cls, fun _ => ⟨rfl, rfl⟩, fun _ _ _ => rfl,
      fun _ _ marked => Bool.noConfusion marked, record.captured⟩
  all_goals exact h

theorem answerOf_budgetSound (r : Req) (args : List Byte) (h : BudgetSound s.budget) :
    BudgetSound (answerOf r args s).state.budget := by
  cases r with
  | writeRecovery => exact writeRecovery_sound args h
  | writeConsumer => exact writeConsumer_sound args h
  | enableConsumer => exact enableConsumer_sound args h
  | disableConsumer => exact disableConsumer_sound args h
  | _ => exact budgetSound_of_eq (by simp [answerOf]) h

/-! ### The parts of a command -/

/-- R77: RESTART clears every grant and the usable heat. -/
theorem restartEffect_budgetSound (h : BudgetSound s.budget) : BudgetSound (restartEffect s).budget := by
  have restarted : BudgetSound (restartedBudget (profileInForce s).period s.budget) := by
    refine ⟨?_, fun i => ?_⟩
    · simp [restartedBudget, clearedConsumer]
    · dsimp only [restartedBudget]
      rw [get_map]
      exact (clearedConsumer_sound (h.records i) (h.records i).cls).idled
  rw [restartEffect, recomputeElectricSilently_budget]
  refine electricFigures_sound _ (budgetSound_of_eq (s := restartedBlocks s) ?_ restarted)
  simp [restartCaps]

/-- R18, R19: passing entries change requested and last forwarded positions alone. -/
theorem rewriteEntries_budgetSound (dest : Nat) (dup : Bool) (bs : List Byte) (h : BudgetSound s.budget) :
    BudgetSound (rewriteEntries dest dup bs s).2.budget := by
  fun_induction rewriteEntries dest dup bs s with
  | case1 b hi lo rest s p r ih =>
    refine ih ?_
    have passed := passEntry_recordsPassed s dest (b.toNat % 16) dup (hi.toNat * 256 + lo.toNat) (b.getLsbD 7)
    refine h.kept ?_ ?_ fun i => ?_
    · rw [passed.rest]
    · rw [passed.rest]
    · have same := passed.consumers i
      unfold ConsumerPassed at same
      rw [same]
      exact ⟨rfl, rfl, rfl, rfl⟩
  | case2 => exact h

theorem event_budgetSound {c : Instr} {f : State → State} (he : Event c f) (ha : ∀ bytes, c ≠ .frameArrival bytes)
    (hl : c ≠ .lineOutSendComplete) (h : BudgetSound s.budget) : BudgetSound (f s).budget := by
  cases he with
  | frameArrival bytes => exact absurd rfl (ha bytes)
  | lineOutSendComplete => exact absurd rfl hl
  | allocationPeriodExpiry => exact allocationPeriod_sound s h
  | reallocationRequest => exact requestAllocation_sound _ h
  | allocationCompletion => exact completeAllocation_sound s h
  | electricRecompute =>
    rw [recomputeElectric_budget]
    exact electricFigures_sound _ h
  | lightingLoadUpdate load =>
    unfold updateLoad
    rw [recomputeElectric_budget]
    exact electricFigures_sound _ (h.kept rfl rfl fun _ => ⟨rfl, rfl, rfl, rfl⟩)
  | _ => exact budgetSound_of_eq (by simp) h

end

theorem budgetSound_kept : KeptByParts fun s => BudgetSound s.budget where
  pending _ _ h := h
  powerOn own controller l := grantsSound_iff.1 (powerOn_grantsSound own controller l)
  reset _ h := h
  tick _ h := h.kept rfl rfl fun _ => ⟨rfl, rfl, rfl, rfl⟩
  choice _ h := budgetSound_of_eq (by simp) h
  arrival := {
    error := fun _ h => h
    activity := fun _ h => budgetSound_of_eq (by simp) h
    node := fun _ _ _ _ h => h
    overrun := fun _ h => budgetSound_of_eq (by simp) h
    forward := fun _ _ _ h => h
    samples := fun _ _ _ h => budgetSound_of_eq (by simp) h
    entries := fun _ _ _ _ h => rewriteEntries_budgetSound _ _ _ h
    offered := fun _ _ _ h => budgetSound_of_eq (by simp) h }
  completed s h := completeSending_keeps (P := fun t => BudgetSound t.budget) h (fun _ => h)
    (fun _ _ _ _ => budgetSound_of_eq (s := s) (by simp) h)
    (fun _ => restartEffect_budgetSound (budgetSound_of_eq (s := s) (by simp) h))
  event he ha hl _ h := event_budgetSound he ha hl h
  handed _ _ h := h
  answer r args _ h := answerOf_budgetSound r args h
  reply _ _ _ _ _ h := budgetSound_of_eq (by simp [placeReply]) h

end Sys2Proof.Machine
end

section
/-! THEOREMS. The grants along a run. -/

namespace Sys2Proof.Machine

/-- Settles O57: the grants published keep within the usable heat published with them, and every other part of a command
keeps both or takes grants away. -/
theorem stepKeepsTheGrantsWithinTheHeat : Obligations.StepKeepsTheGrantsWithinTheHeat := fun _ _ h hstep =>
  grantsSound_iff.2 (budgetSound_kept.keptByShape.of_step hstep (grantsSound_iff.1 h))

end Sys2Proof.Machine
end

section
/-! SUPPORT. The start of an allocation, and the electric recomputation with what it hands the zones (R64 to R66, R75,
R76, R113, R114). -/

namespace Sys2Proof.Machine

section
variable {s : State}

/-- An event of a part that is not held has its effect, and the arbiter makes its choice. -/
theorem exec_awake {e : Instr} {f : State → State} (event : Event e f) (h : s.line.held = false) :
    exec e s = .next (arbitrate (f s)) := (exec_event event s).trans (perform_awake s f h)

/-! ### The start of an allocation (R64 to R66) -/

theorem requestAllocation_idle (h : s.budget.allocation = none) : requestAllocation s = startAllocation s := by
  rw [requestAllocation, h]

theorem requestAllocation_busy (h : s.budget.allocation ≠ none) :
    requestAllocation s = { s with budget.pendingFlag := true } := by
  obtain ⟨c, hc⟩ := Option.ne_none_iff_exists'.1 h
  rw [requestAllocation, hc]

theorem allocationPeriod_running (h : s.budget.periodTimer ≠ none) :
    allocationPeriod s = requestAllocation { s with budget.periodTimer := none } := by
  obtain ⟨ms, hms⟩ := Option.ne_none_iff_exists'.1 h
  rw [allocationPeriod, hms]

theorem captureInputs_readings {r : Recovery} (h : s.budget.settings = some r) :
    (captureInputs s).supply = readAs s .temperature r.supply ∧ (captureInputs s).ret = readAs s .temperature r.ret ∧
      (captureInputs s).flow = readAs s .flow r.flow := by
  simp only [captureInputs, h, and_self]

/-! ### The electric recomputation (R75, R76, R113, R114) -/

theorem overDemandNotice_handed (before after : BudgetUnit) (s : State) : (overDemandNotice before after s).handed =
    s.handed ++ if after.overDemand = before.overDemand then []
      else [.noticeOffer (if after.overDemand then .overDemandOn else .overDemandOff) 0
        (after.load + after.fanPower : Nat)] := by
  unfold overDemandNotice
  cases after.overDemand <;> cases before.overDemand <;> simp

theorem distributeBoost_taken (a : Nat) (s : State) : (distributeBoost a s).zones.taken = a := by
  rw [distributeBoost_zones]
  rfl

/-- What a handing of the allowance leaves in the Zone Controller depends on the Zone Controller alone. -/
theorem distributeBoost_congr {a : Nat} {s t : State} (h : s.zones = t.zones) :
    (distributeBoost a s).zones = (distributeBoost a t).zones := by
  rw [distributeBoost_zones, distributeBoost_zones, h]

theorem recomputeElectric_zones (s : State) :
    (recomputeElectric s).zones = (distributeBoost (recomputeElectric s).budget.allowance s).zones := by
  rw [recomputeElectric_budget, recomputeElectric]
  exact distributeBoost_congr (by simp)

theorem recomputeElectric_handed (s : State) : (recomputeElectric s).handed = s.handed ++
    if (recomputeElectric s).budget.overDemand = s.budget.overDemand then []
    else [.noticeOffer (if (recomputeElectric s).budget.overDemand then .overDemandOn else .overDemandOff) 0
      (s.budget.load + (recomputeElectric s).budget.fanPower : Nat)] := by
  rw [recomputeElectric_budget, recomputeElectric, (distributeBoost_frame _ _).2.2.2.2.2.2.2.2.2,
    overDemandNotice_handed]
  rfl

/-- The sheds of boost actuators are told by the stages last sent before and the zones after. -/
theorem boostShed_congr {s s' t : State} (h : ∀ i : ZoneIx, s.zones.zones[i].lastStages = s'.zones.zones[i].lastStages) :
    boostShed s t = boostShed s' t := by
  funext i
  unfold boostShed
  rw [h]

/-- R114: a recomputation sheds the boost actuators that the allowance leaves above their stages. -/
theorem recomputeElectric_queue {t : State} (h : t.zones = (recomputeElectric s).zones) :
    (recomputeElectric s).line.queue = enqueueAll ((List.finRange 24).flatMap (boostShed s t)) s.line.queue := by
  let u := electricFigures (profileInForce s).eMax s.budget
  let s' := overDemandNotice s.budget u { s with budget := u }
  have zones : s'.zones = s.zones := (overDemandNotice_frame _ _ _).2.2.2.2.1
  have line : s'.line = s.line := (overDemandNotice_frame _ _ _).1
  have handed : recomputeElectric s = distributeBoost u.allowance s' := rfl
  rw [handed] at h ⊢
  rw [distributeBoost_sheds h, boostShed_congr (s' := s) (fun i => by rw [zones]), line]

/-- An event that leaves all but the Budget Unit, the zones, the points, the Command Queue and what is handed. -/
theorem eq_of_budgetEvent {t : State} (line : LineKept s t) (fog : t.fog = s.fog) (scene : t.scene = s.scene)
    (mode : t.mode = s.mode) (responder : t.responder = s.responder) (notices : t.notices = s.notices)
    (timeBase : t.timeBase = s.timeBase) (pending : t.pending = s.pending) : t = { s with
      budget := t.budget, zones := t.zones, points := t.points, line.queue := t.line.queue, handed := t.handed } := by
  rw [← line.rest, ← fog, ← scene, ← mode, ← responder, ← notices, ← timeBase, ← pending]

/-- A recomputation touches the Budget Unit, the zones, the Command Queue and what is handed. -/
theorem recomputeElectric_eq (s : State) : recomputeElectric s = { s with
    budget := (recomputeElectric s).budget, zones := (recomputeElectric s).zones
    line.queue := (recomputeElectric s).line.queue, handed := (recomputeElectric s).handed } := by
  obtain ⟨points, fog, scene, mode, responder, notices, timeBase, pending⟩ := recomputeElectric_frame s
  have rest := eq_of_budgetEvent (recomputeElectric_lineKept s) fog scene mode responder notices timeBase pending
  rwa [points] at rest

end

end Sys2Proof.Machine
end

section
/-! THEOREMS. The start of an allocation and the electric recomputation. -/

namespace Sys2Proof.Machine

/-- Settles O19: in IDLE both events start an allocation over the inputs now, and in ALLOCATING both set the flag. -/
theorem reallocationStartsOrPends : Obligations.ReallocationStartsOrPends := by
  refine ⟨fun s ha idle => ⟨captureInputs s, rfl, fun r hr => captureInputs_readings hr, rfl, rfl, rfl, rfl, rfl,
    fun i => get_map .., ?_, fun running => ?_⟩, fun s ha busy => ⟨?_, fun running => ?_⟩⟩
  · rw [exec_awake .reallocationRequest ha, requestAllocation_idle (s := takeHanded .reallocationRequest s) idle]
    rfl
  · rw [exec_awake .allocationPeriodExpiry ha, allocationPeriod_running running,
      requestAllocation_idle (s := { s with budget.periodTimer := none }) idle]
    rfl
  · rw [exec_awake .reallocationRequest ha, requestAllocation_busy (s := takeHanded .reallocationRequest s) busy]
    rfl
  · rw [exec_awake .allocationPeriodExpiry ha, allocationPeriod_running running,
      requestAllocation_busy (s := { s with budget.periodTimer := none }) busy]

/-- Settles O23: the figures, what the zones make of the allowance, and the notice of a change. -/
theorem recomputationGivesTheElectricShare : Obligations.RecomputationGivesTheElectricShare := by
  intro s load ha e he
  have run : ∃ f, Event e f ∧ f s = recomputeElectric { takeHanded e s with budget.load := load } := by
    obtain ⟨rfl, rfl⟩ | rfl := he
    · exact ⟨_, .electricRecompute, rfl⟩
    · exact ⟨_, .lightingLoadUpdate load, rfl⟩
  obtain ⟨f, event, effect⟩ := run
  let s' : State := { takeHanded e s with budget.load := load }
  have figures := recomputeElectric_budget s'
  refine ⟨recomputeElectric s', by rw [exec_awake event ha, effect], ?_, ?_, ?_, ?_, ?_, ?_, ?_, ?_, ?_, ?_⟩
  · rw [figures]; rfl
  · rw [figures]; rfl
  · rw [figures]; rfl
  · rw [figures]; exact decide_eq_true_iff
  · exact (recomputeElectric_zones s').trans (distributeBoost_congr rfl)
  · rw [recomputeElectric_zones, distributeBoost_taken]
  · have sheds := recomputeElectric_queue (s := s') (t := recomputeElectric s') rfl
    rwa [boostShed_congr (s := s') (s' := s) fun _ => rfl] at sheds
  · exact recomputeElectric_handed s'
  · rw [figures]; rfl
  · exact recomputeElectric_eq s'

end Sys2Proof.Machine
end

section
/-! SUPPORT. The completion of an allocation part by part: its figures, its records, the commands it queues and what it
hands (R51 to R54, R65, R67, R70 to R76, R114). -/

namespace Sys2Proof.Machine

/-! ### The record of a consumer at a completion (R67, R70 to R73) -/

/-- R72, R73: a command changes the last position sent to a DRIVE valve or forwarded to a GOVERN one, and no more. -/
theorem commandedConsumer_eq {r : Consumer} (h : r.takingPart = true) : commandedConsumer r = { r with
    lastSent := if r.defn.handling = some .drive ∧ r.defn.addr ≠ none then some r.allowed else r.lastSent
    lastForwarded := if r.defn.handling = some .govern ∧ r.defn.addr ≠ none then min r.lastForwarded r.allowed
      else r.lastForwarded } := by
  rw [commandedConsumer, if_pos h]
  cases hh : r.defn.handling with
  | none => simp
  | some handling => cases handling <;> cases ha : r.defn.addr <;> simp

theorem commandedConsumer_unmarked {r : Consumer} (h : r.takingPart = false) : commandedConsumer r = r :=
  if_neg (by simp [h])

@[simp] theorem commandedConsumer_frame (r : Consumer) : (commandedConsumer r).defn = r.defn ∧
    (commandedConsumer r).state = r.state ∧ (commandedConsumer r).requested = r.requested ∧
    (commandedConsumer r).takingPart = r.takingPart ∧ (commandedConsumer r).demand = r.demand ∧
    (commandedConsumer r).effCap = r.effCap ∧ (commandedConsumer r).effDemand = r.effDemand ∧
    (commandedConsumer r).effClass = r.effClass ∧ (commandedConsumer r).grant = r.grant ∧
    (commandedConsumer r).allowed = r.allowed := by
  cases h : r.takingPart with
  | true =>
    rw [commandedConsumer_eq h]
    exact ⟨rfl, rfl, rfl, h, rfl, rfl, rfl, rfl, rfl, rfl⟩
  | false =>
    rw [commandedConsumer_unmarked h]
    exact ⟨rfl, rfl, rfl, h, rfl, rfl, rfl, rfl, rfl, rfl⟩

@[simp] theorem completedConsumer_frame (c : Capture) (grants : List Nat) (i : ConsumerIx) (r : Consumer) :
    (completedConsumer c grants i r).defn = r.defn ∧ (completedConsumer c grants i r).state = r.state ∧
    (completedConsumer c grants i r).requested = r.requested ∧
    (completedConsumer c grants i r).takingPart = r.takingPart ∧
    (completedConsumer c grants i r).lastSent = r.lastSent ∧
    (completedConsumer c grants i r).lastForwarded = r.lastForwarded := by
  cases h : r.takingPart with
  | false => rw [completedConsumer_unmarked h]; exact ⟨rfl, rfl, rfl, h, rfl, rfl⟩
  | true =>
    cases hk : c.consumers[i] with
    | none => rw [completedConsumer_uncaptured hk]; exact ⟨rfl, rfl, rfl, h, rfl, rfl⟩
    | some k => rw [completedConsumer_marked h hk]; exact ⟨rfl, rfl, rfl, h, rfl, rfl⟩

/-- R71: the allowed position of a captured consumer. -/
theorem grantedConsumer_allowed (c : Capture) (k : ConsumerCapture) (g : Nat) (r : Consumer) :
    (grantedConsumer c k g r).allowed =
      if k.defn.handling = none then r.allowed else min (g * 10000 / k.defn.design) 10000 := by
  unfold grantedConsumer positionOf
  cases k.defn.handling <;> rfl

section
variable (c : Capture) (s : State)

/-- R70: the record of a consumer with the result of the allocation, before its command. -/
def resultOf (i : ConsumerIx) : Consumer :=
  completedConsumer c (grantsOf c (usableAfter c s.budget.smoothed)) i s.budget.consumers[i]

theorem publishedBudget_consumer (i : ConsumerIx) :
    (publishedBudget c s.budget).consumers[i] = resultOf c s i := get_mapTable ..

@[simp] theorem resultOf_frame (i : ConsumerIx) : (resultOf c s i).defn = s.budget.consumers[i].defn ∧
    (resultOf c s i).state = s.budget.consumers[i].state ∧
    (resultOf c s i).requested = s.budget.consumers[i].requested ∧
    (resultOf c s i).takingPart = s.budget.consumers[i].takingPart ∧
    (resultOf c s i).lastSent = s.budget.consumers[i].lastSent ∧
    (resultOf c s i).lastForwarded = s.budget.consumers[i].lastForwarded := completedConsumer_frame ..

theorem commandedState_consumer (i : ConsumerIx) :
    (commandedState c s).budget.consumers[i] = commandedConsumer (resultOf c s i) := by
  rw [commandedState_budget, ← publishedBudget_consumer]
  exact get_map ..

theorem appliedState_consumers : (appliedState c s).budget.consumers = (commandedState c s).budget.consumers := by
  rw [appliedState_budget, electricFigures]

theorem appliedState_pendingFlag : (appliedState c s).budget.pendingFlag = s.budget.pendingFlag := by
  rw [appliedState_budget, commandedState_budget]
  rfl

theorem completeWith_consumer (i : ConsumerIx) : (completeWith c s).budget.consumers[i] =
    { commandedConsumer (resultOf c s i) with
      takingPart := s.budget.pendingFlag && decide (s.budget.consumers[i].state = .enabled) } := by
  have state : (commandedConsumer (resultOf c s i)).state = s.budget.consumers[i].state := by simp
  rw [completeWith_eq, nextAllocation_budget, appliedState_pendingFlag, ← state,
    ← commandedState_consumer, ← appliedState_consumers, get_map]

theorem resultOf_granted {i : ConsumerIx} {k : ConsumerCapture} (h : s.budget.consumers[i].takingPart = true)
    (hk : c.consumers[i] = some k) : resultOf c s i =
      grantedConsumer c k ((grantsOf c (usableAfter c s.budget.smoothed)).getD i 0) s.budget.consumers[i] :=
  completedConsumer_marked h hk

theorem completeWith_allowed (i : ConsumerIx) :
    (completeWith c s).budget.consumers[i].allowed = (resultOf c s i).allowed := by
  rw [completeWith_consumer]
  simp

/-! ### The figures of a completion (R51 to R54, R65, R75, R76) -/

/-- The figures of a completion beside its records and the next allocation. -/
theorem completeWith_budget : (completeWith c s).budget =
    { electricFigures (profileInForce s).eMax (commandedState c s).budget with
      consumers := (completeWith c s).budget.consumers
      allocation := (completeWith c s).budget.allocation
      periodTimer := (completeWith c s).budget.periodTimer
      pendingFlag := false } := by
  rw [completeWith_eq, nextAllocation_budget, appliedState_budget]

/-- R75: the fan power after a completion is that of the records it leaves. -/
theorem completeWith_fanPower : (completeWith c s).budget.fanPower = fanPowerNow (completeWith c s).budget := by
  have consumers : (completeWith c s).budget.consumers = (commandedState c s).budget.consumers.map fun r =>
      { r with takingPart := (appliedState c s).budget.pendingFlag && decide (r.state = .enabled) } := by
    rw [completeWith_eq, nextAllocation_budget, appliedState_consumers]
  rw [completeWith_budget]
  unfold fanPowerNow
  dsimp only [electricFigures]
  rw [consumers, Vector.toList_map, List.map_map]
  rfl

/-- R65, R66: the marks and timers of a next allocation are no part of what an allocation captures. -/
theorem captureInputs_nextAllocation : captureInputs (nextAllocation s) = captureInputs s := by
  have rest : nextAllocation s = { s with budget := (nextAllocation s).budget } := by
    have frame := nextAllocation_frame s
    obtain ⟨line, points, fog, zones, scene, mode, responder, notices, timeBase, pending, handed⟩ := frame
    rw [← line, ← points, ← fog, ← zones, ← scene, ← mode, ← responder, ← notices, ← timeBase, ← pending, ← handed]
  rw [rest, nextAllocation_budget]
  unfold captureInputs
  dsimp only
  rw [Vector.map_map]
  rfl

/-- R65, R66: the next allocation captures what the completion leaves. -/
theorem completeWith_allocation : (completeWith c s).budget.allocation =
    if s.budget.pendingFlag then some (captureInputs (completeWith c s)) else none := by
  rw [completeWith_eq, captureInputs_nextAllocation, nextAllocation_budget, appliedState_pendingFlag]

/-- R65: a next allocation restarts the period timer. -/
theorem completeWith_periodTimer : (completeWith c s).budget.periodTimer =
    if s.budget.pendingFlag then some ((profileInForce s).period * 1000) else s.budget.periodTimer := by
  have timer : (appliedState c s).budget.periodTimer = s.budget.periodTimer := by
    rw [appliedState_budget, commandedState_budget]
    rfl
  have mode : (appliedState c s).mode = s.mode := by simp [appliedState, commandedState_mode]
  rw [completeWith_eq, nextAllocation_budget, appliedState_pendingFlag, timer, profileInForce, mode, profileInForce]

/-- The lowest index whose record satisfies a test. -/
theorem findIx_eq_find? {α : Type} {n : Nat} (p : α → Bool) (v : Vector α n) :
    findIx p v = (List.finRange n).find? fun i => p v[i] := by
  rw [findIx, indicesWhere_eq_filter, ← List.head?_filter]
  cases (List.finRange n).filter fun i => p v[i] with
  | nil => rfl
  | cons i l => simp

/-! ### What a completion hands, queues and settles (R51, R72 to R76, R114) -/

theorem heatLostNotice_handed (before : BudgetUnit) : (heatLostNotice c before s).handed = s.handed ++
    if heatInputLost c && !before.inputLost then [.noticeOffer .heatInputLost 0 (heatLostValue c : Nat)] else [] := by
  unfold heatLostNotice
  split <;> simp

theorem commandedState_frame : (commandedState c s).zones = s.zones ∧ (commandedState c s).handed = s.handed ++
    (if heatInputLost c && !s.budget.inputLost then [.noticeOffer .heatInputLost 0 (heatLostValue c : Nat)]
      else []) := by
  simp [commandedState, heatLostNotice_handed]

theorem appliedState_handed : (appliedState c s).handed = (commandedState c s).handed ++
    if (appliedState c s).budget.overDemand = (commandedState c s).budget.overDemand then []
    else [.noticeOffer (if (appliedState c s).budget.overDemand then .overDemandOn else .overDemandOff) 0
      ((commandedState c s).budget.load + (appliedState c s).budget.fanPower : Nat)] := by
  unfold appliedState
  generalize commandedState c s = w
  generalize spectatorGrant w.budget = g
  obtain ⟨-, budget, -, -, -, -, -, -, -, handed⟩ := splitGrant_frame w g
  have after := recomputeElectric_handed (splitGrant g w)
  rwa [budget, handed] at after

theorem completeWith_handed : (completeWith c s).handed = s.handed ++
    (if heatInputLost c && !s.budget.inputLost then [.noticeOffer .heatInputLost 0 (heatLostValue c : Nat)] else []) ++
    (if (completeWith c s).budget.overDemand = s.budget.overDemand then []
    else [.noticeOffer (if (completeWith c s).budget.overDemand then .overDemandOn else .overDemandOff) 0
      (s.budget.load + (completeWith c s).budget.fanPower : Nat)]) := by
  have before : (commandedState c s).budget.overDemand = s.budget.overDemand ∧
      (commandedState c s).budget.load = s.budget.load := by
    rw [commandedState_budget]
    exact ⟨rfl, rfl⟩
  have after : (completeWith c s).budget.overDemand = (appliedState c s).budget.overDemand ∧
      (completeWith c s).budget.fanPower = (appliedState c s).budget.fanPower := by
    rw [completeWith_eq, nextAllocation_budget, and_iff_left rfl]
  obtain ⟨-, handed⟩ := commandedState_frame c s
  rw [after.1, after.2, completeWith_eq, (nextAllocation_frame _).2.2.2.2.2.2.2.2.2.2, appliedState_handed, before.1,
    before.2, handed]

/-- R74: the grant handed to the zones is that of the lowest SPECTATOR that took part. -/
theorem spectatorGrant_commanded : spectatorGrant (commandedState c s).budget =
    ((List.finRange 8).find? fun i =>
      s.budget.consumers[i].takingPart && s.budget.consumers[i].defn.kind = .spectator).map
        fun i => (completeWith c s).budget.consumers[i].grant := by
  have test (i : ConsumerIx) : isSpectatorResult (commandedState c s).budget.consumers[i] =
      (s.budget.consumers[i].takingPart && s.budget.consumers[i].defn.kind = .spectator) := by
    rw [isSpectatorResult, commandedState_consumer]
    simp
  have grant (i : ConsumerIx) : (commandedState c s).budget.consumers[i].grant =
      (completeWith c s).budget.consumers[i].grant := by
    rw [completeWith_consumer, commandedState_consumer]
  rw [spectatorGrant, findIx_eq_find?, funext test, funext grant]

theorem completeWith_zones : (completeWith c s).zones = (distributeBoost (completeWith c s).budget.allowance
    (splitGrant (spectatorGrant (commandedState c s).budget) s)).zones := by
  have split : (splitGrant (spectatorGrant (commandedState c s).budget) (commandedState c s)).zones =
      (splitGrant (spectatorGrant (commandedState c s).budget) s).zones := by
    rw [splitGrant_zones, splitGrant_zones, (commandedState_frame c s).1]
  have allowance : (completeWith c s).budget.allowance = (appliedState c s).budget.allowance := by
    rw [completeWith_eq, nextAllocation_budget]
  rw [allowance, completeWith_eq, (nextAllocation_frame _).2.2.2.1, appliedState, recomputeElectric_zones]
  exact distributeBoost_congr split

theorem splitZones_grant (g : Option Nat) (u : ZoneController) : (splitZones g u).grant = g := by
  cases g <;> rfl

theorem completeWith_zonesGrant : (completeWith c s).zones.grant = spectatorGrant (commandedState c s).budget := by
  have boost (a : Nat) (u : ZoneController) : (boostZones a u).grant = u.grant := rfl
  rw [completeWith_zones, distributeBoost_zones, boost, splitGrant_zones, splitZones_grant]

/-- A zone record once the spectator grant and the allowance of a completion have been applied. -/
theorem completeWith_zone (i : ZoneIx) : ∃ stages, (completeWith c s).zones.zones[i] = shedBoostZone
    { shedValveZone (splitZones (spectatorGrant (commandedState c s).budget) s.zones).zones[i] with
      allowedStages := stages } := by
  rw [completeWith_zones, distributeBoost_zones, splitGrant_zones, get_map, boostZones_get, get_map]
  exact ⟨_, rfl⟩

/-- R114: the valves of the zones that the spectator grant lowers are shed. -/
theorem splitGrant_sheds : (splitGrant (spectatorGrant (commandedState c s).budget) (commandedState c s)).line.queue =
    enqueueAll ((List.finRange 24).flatMap (valveShed s (completeWith c s))) (commandedState c s).line.queue := by
  have shed (i : ZoneIx) : valveShed s (completeWith c s) i =
      valveCommands (splitZones (spectatorGrant (commandedState c s).budget) s.zones).zones[i] := by
    obtain ⟨stages, record⟩ := completeWith_zone c s i
    exact valveShed_eq (by simp [record]) (by simp [record]) (by simp [record]) (splitZones_frame ..).2.2.1
  rw [splitGrant_queue, (commandedState_frame c s).1, funext shed]

/-- R114: the boost actuators of the zones that the allowance lowers are shed. -/
theorem appliedState_sheds : (appliedState c s).line.queue =
    enqueueAll ((List.finRange 24).flatMap (boostShed s (completeWith c s)))
      (splitGrant (spectatorGrant (commandedState c s).budget) (commandedState c s)).line.queue := by
  have stages (i : ZoneIx) : (splitGrant (spectatorGrant (commandedState c s).budget)
      (commandedState c s)).zones.zones[i].lastStages = s.zones.zones[i].lastStages := by
    rw [splitGrant_zones, get_map, (shedValveZone_frame _).2.2.2, (splitZones_frame ..).2.2.2,
      (commandedState_frame c s).1]
  have zones : (completeWith c s).zones = (appliedState c s).zones := by
    rw [completeWith_eq, (nextAllocation_frame _).2.2.2.1]
  rw [appliedState, recomputeElectric_queue zones, boostShed_congr stages]

/-- R72: what makes a DRIVE consumer's command due, told by the records before and after a completion. -/
theorem drives_resultOf (i : ConsumerIx) : Drives (resultOf c s i) ↔ s.budget.consumers[i].takingPart = true ∧
    s.budget.consumers[i].defn.handling = some .drive ∧
    s.budget.consumers[i].lastSent ≠ some (completeWith c s).budget.consumers[i].allowed := by
  rw [completeWith_allowed, Drives]
  simp only [resultOf_frame]

/-- R73: what makes a GOVERN consumer's correction due, told by the records before and after a completion. -/
theorem sheds_resultOf (i : ConsumerIx) : Sheds (resultOf c s i) ↔ s.budget.consumers[i].takingPart = true ∧
    s.budget.consumers[i].defn.handling = some .govern ∧
    (completeWith c s).budget.consumers[i].allowed < s.budget.consumers[i].lastForwarded := by
  rw [completeWith_allowed, Sheds]
  simp only [resultOf_frame]

/-- R70: what the commands of the consumers start from. -/
theorem heatLostNotice_consumer (i : ConsumerIx) : (heatLostNotice c s.budget { s with
    budget := publishedBudget c s.budget }).budget.consumers[i] = resultOf c s i := by
  rw [(heatLostNotice_frame _ _ _).2.2.1, publishedBudget_consumer]

theorem commandedState_queue : (commandedState c s).line.queue =
    enqueueAll ((List.finRange 8).flatMap fun i => consumerCommands (resultOf c s i)) s.line.queue := by
  rw [commandedState, commandConsumers_queue, (heatLostNotice_frame _ _ _).1]
  simp only [heatLostNotice_consumer]

/-- R72, R73, R114: the Command Queue after a completion. -/
theorem completeWith_queue : (completeWith c s).line.queue =
    enqueueAll ((List.finRange 8).flatMap (fun i => consumerCommands (resultOf c s i)) ++
      (List.finRange 24).flatMap (valveShed s (completeWith c s)) ++
      (List.finRange 24).flatMap (boostShed s (completeWith c s))) s.line.queue := by
  have line : (completeWith c s).line = (appliedState c s).line := by
    rw [completeWith_eq, (nextAllocation_frame _).1]
  rw [enqueueAll_append, enqueueAll_append, ← commandedState_queue, ← splitGrant_sheds, ← appliedState_sheds, line]

/-- R45, R72: the settling starts of a completion. -/
theorem completeWith_settled :
    SettledFrom (fun p => ∃ i : ConsumerIx, Settles p (resultOf c s i)) s (completeWith c s) := by
  have points : (completeWith c s).points = (commandedState c s).points := by
    rw [completeWith_eq, (nextAllocation_frame _).2.1, appliedState, (recomputeElectric_frame _).1,
      (splitGrant_frame _ _).1]
  have settled := commandConsumers_settled (heatLostNotice c s.budget { s with budget := publishedBudget c s.budget })
  simp only [heatLostNotice_consumer] at settled
  exact settled.of_points (by rw [(heatLostNotice_frame _ _ _).2.1]) points

/-- A completion touches the Budget Unit, the zones, the points, the Command Queue and what is handed. -/
theorem completeWith_rest (h : s.budget.allocation = some c) : completeWith c s = { s with
    budget := (completeWith c s).budget, zones := (completeWith c s).zones, points := (completeWith c s).points
    line.queue := (completeWith c s).line.queue, handed := (completeWith c s).handed } := by
  obtain ⟨fog, scene, mode, responder, notices, timeBase, pending⟩ := completeWith_frame s c
  have line := completeAllocation_lineKept s
  rw [completeAllocation, h] at line
  exact eq_of_budgetEvent line fog scene mode responder notices timeBase pending

end

end Sys2Proof.Machine
end

section
/-! THEOREMS. The completion of an allocation. -/

namespace Sys2Proof.Machine

/-- Settles O20: the completion clause by clause, from what each of its parts leaves. -/
theorem completionPublishesTheAllocation : Obligations.CompletionPublishesTheAllocation := by
  intro s c ha hc
  have effect : completeAllocation s = completeWith c s := by rw [completeAllocation, hc]
  have figures := completeWith_budget c s
  have before := commandedState_budget c s
  refine ⟨completeWith c s, by rw [exec_awake .allocationCompletion ha, effect], ?_, ?_, ?_, ?_, ?_, ?_, ?_, ?_, ?_, ?_,
    ⟨?_, ?_⟩, ?_, ?_, ?_, ?_, ?_, ?_, ?_, ?_, ?_, ?_, ?_, ?_⟩
  · rw [figures, before]; rfl
  · rw [figures, before]; rfl
  · rw [figures, before]; rfl
  · rw [figures, before]; rfl
  · rw [figures, before]; rfl
  · rw [figures, before]; rfl
  · intro i marked k hk
    have usable : (completeWith c s).budget.usable = usableAfter c s.budget.smoothed := by
      rw [figures, before]
      rfl
    have record := completeWith_consumer c s i
    rw [resultOf_granted c s marked hk, ← usable] at record
    rw [record]
    obtain ⟨-, -, -, -, demand, effCap, effDemand, effClass, grant, allowed⟩ := commandedConsumer_frame
      (grantedConsumer c k ((grantsOf c (completeWith c s).budget.usable).getD i 0) s.budget.consumers[i])
    exact ⟨demand, effCap, effDemand, effClass, grant, by rw [allowed, grantedConsumer_allowed, grant]; rfl⟩
  · intro i marked
    obtain ⟨defn, state, requested, mark, lastSent, lastForwarded⟩ := resultOf_frame c s i
    have record := completeWith_consumer c s i
    rw [commandedConsumer_eq (mark.trans marked), defn, state, requested, lastSent, lastForwarded] at record
    dsimp only
    rw [completeWith_allowed, record]
    exact ⟨rfl, rfl, rfl, rfl, rfl⟩
  · intro i unmarked
    have record := completeWith_consumer c s i
    rw [resultOf, completedConsumer_unmarked unmarked, commandedConsumer_unmarked unmarked] at record
    rw [record]
  · intro i
    rw [completeWith_consumer]
  · have commands (i : ConsumerIx) : consumerCommands (resultOf c s i) =
        if Drives (resultOf c s i) ∨ Sheds (resultOf c s i) then s.budget.consumers[i].defn.addr.toList.map
          fun a => (a, (completeWith c s).budget.consumers[i].allowed) else [] := by
      have addr : (resultOf c s i).defn.addr = s.budget.consumers[i].defn.addr := by rw [(resultOf_frame c s i).1]
      rw [consumerCommands, completeWith_allowed, addr]
    rw [completeWith_queue, funext commands]
    simp only [drives_resultOf, sheds_resultOf]
  · refine (completeWith_settled c s).congr fun p => exists_congr fun i => ?_
    rw [Settles, drives_resultOf, (resultOf_frame c s i).1]
  · rw [completeWith_zonesGrant, spectatorGrant_commanded]
  · rw [completeWith_zonesGrant]
    exact completeWith_zones c s
  · exact completeWith_fanPower c s
  · rw [figures, before]; rfl
  · rw [figures, before]; rfl
  · exact completeWith_allocation c s
  · rw [completeWith_periodTimer]
  · rw [figures]
  · rw [figures, before]; rfl
  · rw [figures, before]; rfl
  · have lost : (completeWith c s).budget.inputLost = heatInputLost c := by
      rw [figures, before]
      rfl
    rw [lost]
    exact completeWith_handed c s
  · exact completeWith_rest c s hc

end Sys2Proof.Machine
end

section
/-! SUPPORT. The grants of an allocation told by sums over the captured consumers (R68 to R70). -/

namespace Sys2Proof.Machine

section
variable (c : Capture)

/-- The sum of a figure over the captured consumers of an effective class. -/
def classSum (q : Nat) (f : ConsumerCapture → Nat) : Nat :=
  captureSum c fun _ k => if effectiveClass c k = q then f k else 0

/-- The sum of a figure over the captured consumers of the effective classes before one. -/
def beforeSum (q : Nat) (f : ConsumerCapture → Nat) : Nat :=
  captureSum c fun _ k => if effectiveClass c k < q then f k else 0

/-- The sum of a figure over the captured consumers of an effective class and of a lower index. -/
def earlierSum (i : ConsumerIx) (q : Nat) (f : ConsumerCapture → Nat) : Nat :=
  captureSum c fun j k => if effectiveClass c k = q ∧ j < i then f k else 0

/-- R69: what a captured consumer needs beyond its floor part. -/
def needOf (k : ConsumerCapture) : Nat := effectiveDemand c k - floorPart c k

/-- The effective class of the consumer captured at an index. -/
abbrev classAt : ConsumerIx → Nat := capturedFigure c (effectiveClass c)

/-- A figure of the consumer captured at an index, where it is of the class. -/
abbrev classFigure (q : Nat) (f : ConsumerCapture → Nat) : ConsumerIx → Nat :=
  classOf (classAt c) (capturedFigure c f) q

section
variable {c : Capture}

/-- A sum over the captured consumers is that of a table which is 0 where none is captured. -/
theorem captureSum_eq {f : ConsumerIx → ConsumerCapture → Nat} {g : ConsumerIx → Nat}
    (captured : ∀ j k, c.consumers[j] = some k → f j k = g j)
    (none : ∀ j : ConsumerIx, c.consumers[j] = none → g j = 0) :
    captureSum c f = ∑ j, g j := by
  rw [captureSum, ← List.ofFn_eq_map, List.sum_ofFn]
  refine Finset.sum_congr rfl fun j _ => ?_
  cases h : c.consumers[j] with
  | none => exact (none j h).symm
  | some k => exact captured j k h

theorem captureSum_figure (f : ConsumerCapture → Nat) : captureSum c (fun _ k => f k) = ∑ j, capturedFigure c f j :=
  captureSum_eq (fun _ _ h => (capturedFigure_some h f).symm) fun _ h => capturedFigure_none h f

theorem beforeSum_eq (q : Nat) (f : ConsumerCapture → Nat) :
    beforeSum c q f = sumBefore (classAt c) (capturedFigure c f) q := by
  refine captureSum_eq (fun j k h => ?_) fun j h => ?_
  · rw [classAt, capturedFigure_some h, capturedFigure_some h]
  · rw [capturedFigure_none h f, ite_self]

theorem classFigure_some {i : ConsumerIx} {k : ConsumerCapture} (h : c.consumers[i] = some k)
    (f : ConsumerCapture → Nat) : classFigure c (effectiveClass c k) f i = f k := by
  rw [classFigure, classOf, classAt, capturedFigure_some h, capturedFigure_some h, if_pos rfl]

end

/-! ### Tables worked out from a figure and the weights -/

section
variable {c} (g : Nat → Nat → Nat) (zero : ∀ w, g 0 w = 0) (q : Nat) (f : ConsumerCapture → Nat)
include zero

/-- A table worked out from a figure of one class, 0 where the figure is, is the figure worked out. -/
theorem workedOut_some {j : ConsumerIx} {k : ConsumerCapture} (h : c.consumers[j] = some k) :
    g (classFigure c q f j) (capturedFigure c (·.defn.weight) j) =
      if effectiveClass c k = q then g (f k) k.defn.weight else 0 := by
  rw [classFigure, classOf, classAt, capturedFigure_some h, capturedFigure_some h, capturedFigure_some h]
  split
  · rfl
  · exact zero _

theorem workedOut_none {j : ConsumerIx} (h : c.consumers[j] = none) :
    g (classFigure c q f j) (capturedFigure c (·.defn.weight) j) = 0 := by
  rw [classFigure, classOf, capturedFigure_none h f, ite_self, zero]

theorem sum_workedOut : ∑ j, g (classFigure c q f j) (capturedFigure c (·.defn.weight) j) =
    classSum c q fun k => g (f k) k.defn.weight :=
  (captureSum_eq (fun _ _ h => (workedOut_some g zero q f h).symm) fun _ h => workedOut_none g zero q f h).symm

theorem earlier_workedOut (i : ConsumerIx) :
    (∑ j, if j < i then g (classFigure c q f j) (capturedFigure c (·.defn.weight) j) else 0) =
      earlierSum c i q fun k => g (f k) k.defn.weight := by
  refine (captureSum_eq (fun j k h => ?_) fun j h => ?_).symm
  · rw [workedOut_some g zero q f h]
    simp only [and_comm, ite_and]
  · rw [workedOut_none g zero q f h, ite_self]

end

theorem sum_classFigure (q : Nat) (f : ConsumerCapture → Nat) : ∑ j, classFigure c q f j = classSum c q f :=
  sum_workedOut (fun x _ => x) (fun _ => rfl) q f

/-! ### What the two passes give a captured consumer (R68, R69) -/

section
variable {c} {i : ConsumerIx} {k : ConsumerCapture} (h : c.consumers[i] = some k) (r : Nat) (f : ConsumerCapture → Nat)
include h

/-- R68: what a class's share by parts gives one of its captured consumers. -/
theorem partGiven_captured : partGiven r (classFigure c (effectiveClass c k) f) i =
    if classSum c (effectiveClass c k) f ≤ r then f k
    else r * f k / classSum c (effectiveClass c k) f +
      if 0 < f k ∧ earlierSum c i (effectiveClass c k) (fun j => if 0 < f j then 1 else 0) <
        r - classSum c (effectiveClass c k) (fun j => r * f j / classSum c (effectiveClass c k) f) then 1 else 0 := by
  have cuts := sum_workedOut (c := c) (fun x _ => r * x / classSum c (effectiveClass c k) f) (by simp)
    (effectiveClass c k) f
  have units := earlier_workedOut (c := c) (fun x _ => if 0 < x then 1 else 0) (by simp) (effectiveClass c k) f i
  unfold partGiven cutPart
  rw [sum_classFigure, classFigure_some h, cuts, units]
  split
  · rfl
  · congr 1
    rcases Nat.eq_zero_or_pos (f k) with none | some
    · simp [none]
    · rw [if_pos some]
      split <;> omega

/-- R69: what a class's share by weight gives one of its captured consumers. -/
theorem needGiven_captured : needGiven (capturedFigure c (·.defn.weight)) r (classFigure c (effectiveClass c k) f) i =
    if classSum c (effectiveClass c k) f ≤ r then f k
    else
      let weights := classSum c (effectiveClass c k) fun j => if 0 < f j then j.defn.weight else 0
      let part := fun j : ConsumerCapture => min (f j) (r * j.defn.weight / weights)
      part k + min (f k - part k) (r - classSum c (effectiveClass c k) part -
        earlierSum c i (effectiveClass c k) fun j => f j - part j) := by
  have weights : needWeights (capturedFigure c (·.defn.weight)) (classFigure c (effectiveClass c k) f) =
      classSum c (effectiveClass c k) fun j => if 0 < f j then j.defn.weight else 0 :=
    sum_workedOut (fun x w => if 0 < x then w else 0) (by simp) (effectiveClass c k) f
  generalize classSum c (effectiveClass c k) (fun j => if 0 < f j then j.defn.weight else 0) = w at weights
  have parts := sum_workedOut (c := c) (fun x y => min x (r * y / w)) (by simp) (effectiveClass c k) f
  have unmet := earlier_workedOut (c := c) (fun x y => x - min x (r * y / w)) (by simp) (effectiveClass c k) f i
  unfold needGiven weighedPart
  rw [weights, sum_classFigure, classFigure_some h, capturedFigure_some h, parts, unmet]

/-- R68 to R70: the grant of a captured consumer. -/
theorem grantAt_captured (usable : Nat) : grantAt c usable i =
    partGiven (usable - beforeSum c (effectiveClass c k) (floorPart c))
        (classFigure c (effectiveClass c k) (floorPart c)) i +
      needGiven (capturedFigure c (·.defn.weight))
        (usable - captureSum c (fun _ j => floorPart c j) - beforeSum c (effectiveClass c k) (needOf c))
        (classFigure c (effectiveClass c k) (needOf c)) i := by
  have needs (j : ConsumerIx) : capturedFigure c (effectiveDemand c) j - capturedFigure c (floorPart c) j =
      capturedFigure c (needOf c) j := by
    cases hj : c.consumers[j] with
    | none => rw [capturedFigure_none hj, capturedFigure_none hj, capturedFigure_none hj]
    | some k => rw [capturedFigure_some hj, capturedFigure_some hj, capturedFigure_some hj, needOf]
  rw [grantAt, funext needs, floorGiven, restGiven, beforeSum_eq, beforeSum_eq, captureSum_figure,
    capturedFigure_some h]

theorem grantAt_le (usable : Nat) : grantAt c usable i ≤ effectiveDemand c k := by
  have floor := floorGiven_le usable (classAt c) (capturedFigure c (floorPart c)) i
  have rest := restGiven_le usable (classAt c) (capturedFigure c (·.defn.weight)) (capturedFigure c (floorPart c))
    (fun j => capturedFigure c (effectiveDemand c) j - capturedFigure c (floorPart c) j) i
  have part : floorPart c k ≤ effectiveDemand c k := Nat.min_le_right ..
  calc grantAt c usable i ≤ floorPart c k + (effectiveDemand c k - floorPart c k) := by
        rw [capturedFigure_some h] at floor
        rw [capturedFigure_some h, capturedFigure_some h] at rest
        exact Nat.add_le_add floor rest
    _ = effectiveDemand c k := Nat.add_sub_cancel' part

theorem floorPart_le_grantAt {usable : Nat} (within : captureSum c (fun _ j => floorPart c j) ≤ usable) :
    floorPart c k ≤ grantAt c usable i := by
  rw [captureSum_figure] at within
  rw [grantAt, floorGiven_full _ _ _ within, capturedFigure_some h]
  exact Nat.le_add_right ..

theorem grantAt_full {usable : Nat} (within : captureSum c (fun _ j => effectiveDemand c j) ≤ usable) :
    grantAt c usable i = effectiveDemand c k := by
  have part (j : ConsumerIx) : capturedFigure c (floorPart c) j +
      (capturedFigure c (effectiveDemand c) j - capturedFigure c (floorPart c) j) =
      capturedFigure c (effectiveDemand c) j := by
    cases hj : c.consumers[j] with
    | none => rw [capturedFigure_none hj, capturedFigure_none hj]
    | some k =>
      rw [capturedFigure_some hj, capturedFigure_some hj]
      exact Nat.add_sub_cancel' (Nat.min_le_right ..)
  rw [captureSum_figure, ← Finset.sum_congr rfl fun j _ => part j, Finset.sum_add_distrib] at within
  rw [grantAt, floorGiven_full _ _ _ ((Nat.le_add_right ..).trans within), restGiven_full _ _ _ _ _ within, part,
    capturedFigure_some h]

end

end

end Sys2Proof.Machine
end

section
/-! THEOREMS. The demands and the grants of an allocation. -/

namespace Sys2Proof.Machine

/-- The demand of a SUBSOIL consumer, by where its temperature stands (R60). -/
theorem demandOf_subsoil (c : Capture) (k : ConsumerCapture) (h : k.defn.kind = .subsoil) :
    demandOf c k = subsoilDemand k.defn k.temp := by
  rw [demandOf, h]

/-- Settles O21: the demands by kind, and the division of the heat told by sums over the captured consumers. -/
theorem grantsKeepWithinHeatAndDemand : Obligations.GrantsKeepWithinHeatAndDemand := by
  refine ⟨fun c k => ⟨fun kind => ?_, fun kind => ?_, fun kind => ?_, fun kind => ?_, rfl, rfl⟩,
    fun c usable classes => ⟨grantsOf_sum_le c usable, fun i k h => ?_⟩⟩
  · rw [demandOf_subsoil c k kind]
    unfold subsoilDemand
    refine ⟨fun none => if_pos none, fun some warm => ?_, fun some below cold => ?_, fun some above below => ?_⟩
    · rw [if_neg some, if_pos warm]
    · rw [if_neg some, if_neg (by omega), if_pos cold]
    · rw [if_neg some, if_neg (by omega), if_neg (by omega)]
  · rw [demandOf, kind]
    rfl
  · rw [demandOf, kind]
  · rcases kind with kind | kind <;> rw [demandOf, kind]
  · have grant : (grantsOf c usable).getD i 0 = grantAt c usable i := by
      rw [grantsOf_eq classes, getD_ofFn]
    rw [grant]
    refine ⟨?_, grantAt_le h usable, floorPart_le_grantAt h, grantAt_full h⟩
    rw [grantAt_captured h, partGiven_captured h, needGiven_captured h]
    rfl

end Sys2Proof.Machine
end

section
/-! SUPPORT. The recovered heat of an allocation and its smoothing (R51 to R53). -/

namespace Sys2Proof.Machine

/-! ### The captured readings (R51, R52) -/

section
variable {c : Capture}

theorem recoveryQualities_contains {q : Quality} : (recoveryQualities c).contains q = true ↔
    ∃ x ∈ [c.supply, c.ret, c.flow], x.quality = q := by
  rw [List.contains_iff_mem]
  exact List.mem_map (f := Reading.quality) (l := [c.supply, c.ret, c.flow])

theorem heatInputLost_iff {r : Recovery} (h : c.settings = some r) :
    heatInputLost c = true ↔ ∃ x ∈ [c.supply, c.ret, c.flow], x.quality = .none := by
  rw [heatInputLost, h, Option.isSome_some, Bool.true_and, recoveryQualities_contains]

theorem heatDegraded_iff {r : Recovery} (h : c.settings = some r) : heatDegraded c = true ↔
    (¬∃ x ∈ [c.supply, c.ret, c.flow], x.quality = .none) ∧
      ∃ x ∈ [c.supply, c.ret, c.flow], x.quality = .held ∨ x.quality = .substituted := by
  rw [heatDegraded, h, Option.isSome_some, Bool.true_and, Bool.and_eq_true, Bool.or_eq_true, Bool.not_eq_true',
    ← Bool.not_eq_true, recoveryQualities_contains, recoveryQualities_contains, recoveryQualities_contains]
  simp only [and_or_left, exists_or]

theorem heatOf_read {r : Recovery} (h : c.settings = some r) (read : ¬heatInputLost c = true) :
    heatOf c = recoveredHeat c.flow.value r.fluid c.supply.value c.ret.value := by
  rw [heatOf, h]
  exact if_neg read

end

/-! ### A smoothing step (R53) -/

section
variable (shift : Nat) {q qf : Nat}

/-- R53: a rise is divided rounding down, and is at least one unit. -/
theorem smoothHeat_below (h : qf < q) : smoothHeat shift q qf = qf + max ((q - qf) / 2 ^ shift) 1 := by
  have step : divFloor ((q : Int) - qf) (2 ^ shift) = ((q - qf) / 2 ^ shift : Nat) := by
    rw [← Nat.cast_sub h.le, divFloor, Int.fdiv_eq_ediv_of_nonneg _ (by positivity)]
    rfl
  unfold smoothHeat smoothStep
  dsimp only
  rw [step]
  generalize (q - qf) / 2 ^ shift = m
  split
  · rw [if_pos (by omega)]
    omega
  · omega

/-- R53: a fall is divided rounding away from zero. -/
theorem smoothHeat_above (h : q < qf) :
    smoothHeat shift q qf = qf - (qf - q + 2 ^ shift - 1) / 2 ^ shift := by
  have pos : 0 < 2 ^ shift := by positivity
  have step : divFloor ((q : Int) - qf) (2 ^ shift) = -((qf - q + 2 ^ shift - 1) / 2 ^ shift : Nat) := by
    obtain ⟨m, rfl⟩ := Nat.exists_eq_add_of_lt h
    have fall : (q : Int) - (q + m + 1 : Nat) = Int.negSucc m := by omega
    have parts : q + m + 1 - q + 2 ^ shift - 1 = m + 2 ^ shift := by omega
    rw [fall, parts, Nat.add_div_right m pos, divFloor, Int.fdiv_eq_ediv_of_nonneg _ (by positivity),
      Int.negSucc_ediv m (by positivity)]
    rfl
  have one : 0 < (qf - q + 2 ^ shift - 1) / 2 ^ shift := Nat.div_pos (by omega) pos
  unfold smoothHeat smoothStep
  dsimp only
  rw [step, if_neg (by omega)]
  omega

theorem smoothHeat_self (q : Nat) : smoothHeat shift q q = q := by
  simp [smoothHeat, smoothStep, divFloor]

/-- A rise never passes Q. -/
theorem smoothHeat_below_le (h : qf < q) : smoothHeat shift q qf ≤ q := by
  have part := Nat.div_le_self (q - qf) (2 ^ shift)
  rw [smoothHeat_below shift h]
  omega

theorem lt_smoothHeat_below (h : qf < q) : qf < smoothHeat shift q qf := by
  rw [smoothHeat_below shift h]
  omega

/-- A fall never passes Q. -/
theorem le_smoothHeat_above (h : q < qf) : q ≤ smoothHeat shift q qf ∧ smoothHeat shift q qf < qf := by
  have pos : 0 < 2 ^ shift := by positivity
  have one : 0 < (qf - q + 2 ^ shift - 1) / 2 ^ shift := Nat.div_pos (by omega) pos
  have part : (qf - q + 2 ^ shift - 1) / 2 ^ shift ≤ qf - q := by
    refine Nat.le_of_lt_succ ((Nat.div_lt_iff_lt_mul pos).2 ?_)
    have more : qf - q ≤ (qf - q) * 2 ^ shift := Nat.le_mul_of_pos_right _ pos
    rw [Nat.succ_mul]
    omega
  rw [smoothHeat_above shift h]
  omega

theorem smoothHeat_unshifted (q qf : Nat) : smoothHeat 0 q qf = q := by
  rcases Nat.lt_trichotomy qf q with h | rfl | h
  · rw [smoothHeat_below 0 h, pow_zero, Nat.div_one]
    omega
  · exact smoothHeat_self 0 qf
  · rw [smoothHeat_above 0 h, pow_zero, Nat.div_one]
    omega

/-- A step stays within what Q and Qf stay within. -/
theorem smoothHeat_le {m : Nat} (hq : q ≤ m) (hqf : qf ≤ m) : smoothHeat shift q qf ≤ m := by
  rcases Nat.lt_trichotomy qf q with h | rfl | h
  · exact (smoothHeat_below_le shift h).trans hq
  · rwa [smoothHeat_self]
  · exact (le_smoothHeat_above shift h).2.le.trans hqf

/-- Each step away from Q shortens the distance to it. -/
theorem smoothHeat_closer (h : qf ≠ q) :
    (q - smoothHeat shift q qf) + (smoothHeat shift q qf - q) < (q - qf) + (qf - q) := by
  rcases Nat.lt_or_gt_of_ne h with h | h
  · have within := smoothHeat_below_le shift h
    have moved := lt_smoothHeat_below shift h
    omega
  · have within := le_smoothHeat_above shift h
    omega

/-- R53: repeated steps reach Q, by induction on the distance to it. -/
theorem smoothHeat_reaches (q : Nat) : ∀ qf : Nat, ∃ n, (smoothHeat shift q)^[n] qf = q := by
  intro qf
  induction h : (q - qf) + (qf - q) using Nat.strong_induction_on generalizing qf with
  | _ distance ih =>
    rcases Classical.em (qf = q) with same | apart
    · exact ⟨0, same⟩
    · obtain ⟨n, reached⟩ := ih _ (h ▸ smoothHeat_closer shift apart) (smoothHeat shift q qf) rfl
      exact ⟨n + 1, reached⟩

end

/-- R77: RESTART clears the smoothed heat. -/
theorem restartEffect_smoothed (s : State) : (restartEffect s).budget.smoothed = 0 := by
  have budget : (restartEffect s).budget = electricFigures (profileInForce (restartCut .two (restartCut .one
      (restartCaps .two (restartCaps .one (checkTransfers (restartedBlocks s))))))).eMax
      (restartedBudget (profileInForce s).period s.budget) := by
    rw [restartEffect, recomputeElectricSilently_budget]
    simp [restartCaps, restartedBlocks]
  rw [budget]
  rfl

end Sys2Proof.Machine
end

section
/-! THEOREMS. The recovered heat and its smoothing. -/

namespace Sys2Proof.Machine

/-- Settles O22: the figures and flags of a capture, the smoothing step in both directions, and its resets. -/
theorem smoothedHeatFollowsTheHeat : Obligations.SmoothedHeatFollowsTheHeat := by
  refine ⟨fun c => ⟨fun unloaded => ?_, fun r loaded => ?_⟩, fun shift q qf => ?_, fun s c ha hc => ?_, fun _ _ _ => rfl,
    restartEffect_smoothed⟩
  · simp [heatOf, shiftOf, heatInputLost, heatDegraded, unloaded]
  · have lost := heatInputLost_iff loaded
    refine ⟨by rw [shiftOf, loaded], lost, heatDegraded_iff loaded, fun none => ?_, fun read idle => ?_,
      fun read drop flow => ?_⟩
    · rw [heatOf, loaded]
      exact if_pos (lost.2 none)
    · rw [heatOf_read loaded (mt lost.1 read), recoveredHeat]
      exact if_pos (by omega)
    · rw [heatOf_read loaded (mt lost.1 read), recoveredHeat]
      exact if_neg (by omega)
  · refine ⟨?_, fun h => ⟨smoothHeat_below shift h, smoothHeat_below_le shift h⟩,
      fun h => ⟨smoothHeat_above shift h, le_smoothHeat_above shift h⟩, smoothHeat_unshifted q qf,
      smoothHeat_le shift, smoothHeat_reaches shift q qf⟩
    rintro rfl
    exact smoothHeat_self shift q
  · have effect : completeAllocation s = completeWith c s := by rw [completeAllocation, hc]
    refine ⟨completeWith c s, by rw [exec_awake .allocationCompletion ha, effect], ?_⟩
    rw [completeWith_budget, commandedState_budget]
    rfl

end Sys2Proof.Machine
end

section
/-! SUPPORT. The requests of the Budget Unit (R50, R56 to R58) and the check of a consumer's address (R17). -/

namespace Sys2Proof.Machine

/-- Some record of a table other than i satisfies a test. -/
theorem anyOther_iff {α : Type} {n : Nat} {p : α → Bool} {v : Vector α n} {i : Fin n} :
    ((indicesWhere p v).any fun k => k != i.val) = true ↔ ∃ j : Fin n, j ≠ i ∧ p v[j] = true := by
  simp only [indicesWhere_eq_filter, List.any_map, List.any_filter, List.any_eq_true, List.mem_finRange, true_and,
    Function.comp_apply, Bool.and_eq_true, bne_iff_ne, ne_eq, Fin.val_inj, and_comm]

section
variable {s : State} {i : ConsumerIx} {d : ConsumerDef}

/-! ### The checks of a definition (R17, R56) -/

/-- R56: another loaded record is of the definition's kind and sheet, and the kind may be held once. -/
def KindHeld (s : State) (i : ConsumerIx) (d : ConsumerDef) : Prop :=
  ∃ j : ConsumerIx, j ≠ i ∧ s.budget.consumers[j].state ≠ .unused ∧ s.budget.consumers[j].defn.kind = d.kind ∧
    s.budget.consumers[j].defn.sheet = d.sheet ∧ (d.kind = .subsoil ∨ d.kind = .regen ∨ d.kind = .spectator)

theorem kindTaken_iff : kindTaken i d s = true ↔ KindHeld s i d := by
  rw [kindTaken, anyOther_iff]
  simp only [sameKindHeld, Bool.and_eq_true, Bool.or_eq_true, bne_iff_ne, decide_eq_true_iff, and_assoc, or_assoc,
    KindHeld]

theorem mineConsumer_iff {o : ActOwner} : mineConsumer i o = true ↔ o = .consumer i := by
  cases o <;> simp [mineConsumer]

theorem checkConsumerAddr_addressed {a : ActAddr} (h : d.addr = some a) :
    checkConsumerAddr i d s = checkAddr s (mineConsumer i) a := by
  rw [checkConsumerAddr, h]

theorem checkConsumerAddr_taken {a : ActAddr} (ha : d.addr = some a) (h : AddrTaken s (· = .consumer i) a) :
    checkConsumerAddr i d s = some .conflict := by
  obtain ⟨near, held, others⟩ := h
  rw [checkConsumerAddr_addressed ha]
  exact checkAddr_of_taken ⟨near, held, fun o ho mine => others o ho (mineConsumer_iff.1 mine)⟩

theorem checkConsumerAddr_free (h : ∀ a, d.addr = some a → AddrFree s (· = .consumer i) a) :
    checkConsumerAddr i d s = none := by
  cases ha : d.addr with
  | none => rw [checkConsumerAddr, ha]
  | some a =>
    obtain ⟨near, mine⟩ := h a ha
    rw [checkConsumerAddr_addressed ha]
    exact checkAddr_of_free ⟨near, fun o ho => mineConsumer_iff.2 (mine o ho)⟩

/-! ### WRITE_CONSUMER (R56) -/

section
variable {args : List Byte} (hi : byteAt args 0 = i.val)
include hi

theorem writeConsumer_enabled (h : s.budget.consumers[i].state = .enabled) :
    writeConsumer args s = refuse .state s := by
  rw [writeConsumer, indexOf_of_lt hi]
  exact if_pos h

section
variable (hs : s.budget.consumers[i].state ≠ .enabled)
include hs

theorem writeConsumer_outOfRange (h : consumerArgs args = none) : writeConsumer args s = refuse .range s := by
  rw [writeConsumer, indexOf_of_lt hi]
  dsimp only
  rw [if_neg hs, h]

variable (hd : consumerArgs args = some d)
include hd

theorem writeConsumer_kindHeld (h : KindHeld s i d) : writeConsumer args s = refuse .conflict s := by
  rw [writeConsumer, indexOf_of_lt hi]
  dsimp only
  rw [if_neg hs, hd]
  exact if_pos (kindTaken_iff.2 h)

variable (hk : ¬KindHeld s i d)
include hk

theorem writeConsumer_refused {st : Status} (h : checkConsumerAddr i d s = some st) :
    writeConsumer args s = refuse st s := by
  rw [writeConsumer, indexOf_of_lt hi]
  dsimp only
  rw [if_neg hs, hd]
  dsimp only
  rw [if_neg (mt kindTaken_iff.1 hk), h]

theorem writeConsumer_loads (h : checkConsumerAddr i d s = none) :
    writeConsumer args s = done (hand .reallocationRequest (loadConsumer i d s)) := by
  rw [writeConsumer, indexOf_of_lt hi]
  dsimp only
  rw [if_neg hs, hd]
  dsimp only
  rw [if_neg (mt kindTaken_iff.1 hk), h]

end

/-! ### ENABLE_CONSUMER and DISABLE_CONSUMER (R57, R58) -/

theorem enableConsumer_unused (h : s.budget.consumers[i].state = .unused) :
    enableConsumer args s = refuse .state s := by
  rw [enableConsumer, indexOf_of_lt hi]
  dsimp only
  rw [h]

theorem enableConsumer_enabled (h : s.budget.consumers[i].state = .enabled) : enableConsumer args s = done s := by
  rw [enableConsumer, indexOf_of_lt hi]
  dsimp only
  rw [h]

theorem enableConsumer_disabled (h : s.budget.consumers[i].state = .disabled) : enableConsumer args s =
    done (hand .reallocationRequest (setConsumer i { s.budget.consumers[i] with state := .enabled } s)) := by
  rw [enableConsumer, indexOf_of_lt hi]
  dsimp only
  rw [h]

theorem disableConsumer_unused (h : s.budget.consumers[i].state = .unused) :
    disableConsumer args s = refuse .state s := by
  rw [disableConsumer, indexOf_of_lt hi]
  dsimp only
  rw [h]

theorem disableConsumer_disabled (h : s.budget.consumers[i].state = .disabled) : disableConsumer args s = done s := by
  rw [disableConsumer, indexOf_of_lt hi]
  dsimp only
  rw [h]

theorem disableConsumer_enabled (h : s.budget.consumers[i].state = .enabled) : disableConsumer args s =
    done (hand .reallocationRequest (setConsumer i (disabledConsumer s.budget.consumers[i]) s)) := by
  rw [disableConsumer, indexOf_of_lt hi]
  dsimp only
  rw [h]

end

theorem writeConsumer_noIndex {args : List Byte} (h : 8 ≤ byteAt args 0) (s : State) :
    writeConsumer args s = refuse .range s := by
  rw [writeConsumer, indexOf_of_ge h]

theorem enableConsumer_noIndex {args : List Byte} (h : 8 ≤ byteAt args 0) (s : State) :
    enableConsumer args s = refuse .range s := by
  rw [enableConsumer, indexOf_of_ge h]

theorem disableConsumer_noIndex {args : List Byte} (h : 8 ≤ byteAt args 0) (s : State) :
    disableConsumer args s = refuse .range s := by
  rw [disableConsumer, indexOf_of_ge h]

/-! ### A consumer loaded -/

/-- R17: an entry is a command for an address that the record holds and the definition does not. -/
theorem gone_any (c : Consumer) (d : ConsumerDef) (e : QueueEntry) :
    (((consumerAddrs c).filter fun a => !d.addr.toList.contains a).any fun a => isCommandFor a e) =
      ((c.state != .unused) && c.defn.addr.any fun a => decide (d.addr ≠ some a) && isCommandFor a e) := by
  have kept (a : ActAddr) : (!d.addr.toList.contains a) = decide (d.addr ≠ some a) := by
    rw [Bool.eq_iff_iff, decide_eq_true_iff, Bool.not_eq_true', ← Bool.not_eq_true, List.contains_iff_mem,
      Option.mem_toList]
  rw [List.any_filter]
  simp only [kept]
  unfold consumerAddrs
  split
  · next hu =>
    rw [hu]
    rfl
  · next hu =>
    rw [bne_iff_ne.2 hu, Bool.true_and]
    cases c.defn.addr <;> simp

/-- R17: the commands a write of a consumer drops are those for the address its record gives up. -/
theorem loadConsumer_queue (i : ConsumerIx) (d : ConsumerDef) (s : State) : (loadConsumer i d s).line.queue =
    s.line.queue.filter fun e => !((s.budget.consumers[i].state != .unused) &&
      s.budget.consumers[i].defn.addr.any fun a => decide (d.addr ≠ some a) && isCommandFor a e) :=
  List.filter_congr fun e _ => congrArg Bool.not (gone_any s.budget.consumers[i] d e)

/-! ### WRITE_RECOVERY (R50) -/

/-- R50: the settings name points of the classes required. -/
def RecoveryFits (s : State) (r : Recovery) : Prop :=
  (s.points[r.supply].state ≠ .unused ∧ s.points[r.supply].defn.cls = .temperature) ∧
    (s.points[r.ret].state ≠ .unused ∧ s.points[r.ret].defn.cls = .temperature) ∧
    (s.points[r.flow].state ≠ .unused ∧ s.points[r.flow].defn.cls = .flow)

section
variable {args : List Byte}

theorem writeRecovery_outOfRange (h : recoveryArgs args = none) (s : State) :
    writeRecovery args s = refuse .range s := by
  rw [writeRecovery, h]

variable {r : Recovery} (hr : recoveryArgs args = some r)
include hr

theorem writeRecovery_read : writeRecovery args s =
    if namesPoint s .temperature r.supply && namesPoint s .temperature r.ret && namesPoint s .flow r.flow then
      done (hand .reallocationRequest { s with budget.settings := some r })
    else refuse .range s := by
  rw [writeRecovery, hr]

theorem writeRecovery_loads (h : RecoveryFits s r) :
    writeRecovery args s = done (hand .reallocationRequest { s with budget.settings := some r }) := by
  obtain ⟨supply, ret, flow⟩ := h
  rw [writeRecovery_read hr, namesPoint_iff.2 supply, namesPoint_iff.2 ret, namesPoint_iff.2 flow]
  rfl

theorem writeRecovery_unfit (h : ¬RecoveryFits s r) : writeRecovery args s = refuse .range s := by
  rw [writeRecovery_read hr]
  refine if_neg fun named => h ?_
  rw [Bool.and_eq_true, Bool.and_eq_true, namesPoint_iff, namesPoint_iff, namesPoint_iff, and_assoc] at named
  exact named

end

end

end Sys2Proof.Machine
end

section
/-! THEOREMS. The requests of the Budget Unit. -/

namespace Sys2Proof.Machine

/-- Settles O24: the checks in their order, and what a definition that passes them loads. -/
theorem writeConsumerLoadsTheDefinition : Obligations.WriteConsumerLoadsTheDefinition := by
  refine ⟨fun slot q s i d h hi hs hd kinds free => ?_, fun slot q s h => ⟨fun hn => ?_, fun i hi => ⟨fun hs => ?_,
    fun hs hd => ?_, fun d hs hd => ⟨fun hk => ?_, fun a hk ha => ⟨fun hf => ?_, fun ht => ?_⟩⟩⟩⟩⟩
  · have single : ¬KindHeld (taken .writeConsumer slot s) i d := by
      rintro ⟨j, other, loaded, kind, sheet, once⟩
      rcases kinds j other loaded kind sheet with shared | shared <;> simp [shared] at once
    have passes : checkConsumerAddr i d (taken .writeConsumer slot s) = none := by
      refine checkConsumerAddr_free fun a ha => ?_
      obtain ⟨own, last, only⟩ := free a ha
      exact ⟨fun foreign => foreign.elim own last, only⟩
    refine ⟨_, h.exec_eq (writeConsumer_loads hi hs hd single passes), rfl, ?_, rfl⟩
    refine (loadConsumer_queue i d (taken .writeConsumer slot s)).trans (List.filter_congr fun e _ => ?_)
    have addr : (taken .writeConsumer slot s).budget.consumers[i].defn.addr = s.budget.consumers[i].defn.addr := rfl
    rw [addr]
    cases s.budget.consumers[i].defn.addr <;> rfl
  · exact h.answersOnly (writeConsumer_noIndex hn _)
  · exact h.answersOnly (writeConsumer_enabled hi hs)
  · exact h.answersOnly (writeConsumer_outOfRange hi hs hd)
  · exact h.answersOnly (writeConsumer_kindHeld hi hs hd hk)
  · have check : checkConsumerAddr i d s = some .range := by
      rw [checkConsumerAddr_addressed ha, checkAddr_of_foreign _ hf]
    exact h.answersOnly (writeConsumer_refused (s := taken .writeConsumer slot s) hi hs hd hk check)
  · have check := checkConsumerAddr_taken ha ht
    exact h.answersOnly (writeConsumer_refused (s := taken .writeConsumer slot s) hi hs hd hk check)

/-- Settles O25. -/
theorem consumerRequestsRaiseReallocation : Obligations.ConsumerRequestsRaiseReallocation := by
  refine ⟨fun slot q s r h hr supply ret flow => ?_, fun slot q s i h hi hs => h.exec_eq (enableConsumer_disabled hi hs),
    fun slot q s i h hi hs => h.exec_eq (disableConsumer_enabled hi hs), fun slot q s =>
    ⟨fun hr h => ?_, fun r hr unfit h => ?_, fun hn => ⟨fun h => ?_, fun h => ?_⟩,
      fun i hi => ⟨fun hs => ⟨fun h => ?_, fun h => ?_⟩, fun hs h => ?_, fun hs h => ?_⟩⟩⟩
  · exact h.exec_eq (writeRecovery_loads hr ⟨supply, ret, flow⟩)
  · exact h.answersOnly (writeRecovery_outOfRange hr _)
  · refine h.answersOnly (writeRecovery_unfit hr fun ⟨supply, ret, flow⟩ => ?_)
    rcases unfit with u | u | u | u | u | u
    · exact supply.1 u
    · exact u supply.2
    · exact ret.1 u
    · exact u ret.2
    · exact flow.1 u
    · exact u flow.2
  · exact h.answersOnly (enableConsumer_noIndex hn _)
  · exact h.answersOnly (disableConsumer_noIndex hn _)
  · exact h.answersOnly (enableConsumer_unused hi hs)
  · exact h.answersOnly (disableConsumer_unused hi hs)
  · exact h.answersOnly (enableConsumer_enabled hi hs)
  · exact h.answersOnly (disableConsumer_disabled hi hs)

end Sys2Proof.Machine
end

section
/-! SUPPORT. The taking-part marks of the consumers (R66, R67): a mark stands on an ENABLED record alone. -/

namespace Sys2Proof.Machine

/-- R66: a consumer that takes part in an allocation is ENABLED. -/
def MarksSound (u : BudgetUnit) : Prop :=
  ∀ i : ConsumerIx, u.consumers[i].takingPart = true → u.consumers[i].state = .enabled

section
variable {s : State}

theorem marksSound_of_eq {s t : State} (e : t.budget = s.budget) (h : MarksSound s.budget) : MarksSound t.budget :=
  e ▸ h

/-- Records that keep their state and their mark keep the marks sound. -/
theorem MarksSound.kept {u v : BudgetUnit} (h : MarksSound u)
    (k : ∀ i : ConsumerIx, v.consumers[i].state = u.consumers[i].state ∧
      v.consumers[i].takingPart = u.consumers[i].takingPart) : MarksSound v := by
  intro i
  rw [(k i).1, (k i).2]
  exact h i

/-- A record replaced by one that is ENABLED, or has no mark. -/
theorem MarksSound.set {u : BudgetUnit} (h : MarksSound u) (i : ConsumerIx) {r : Consumer}
    (hr : r.takingPart = true → r.state = .enabled) :
    MarksSound { u with consumers := u.consumers.set i r } :=
  forall_set (P := fun _ (r : Consumer) => r.takingPart = true → r.state = .enabled) hr h

theorem startAllocation_marksSound (s : State) : MarksSound (startAllocation s).budget := by
  intro i
  simp only [startAllocation, get_map, markTakingPart, decide_eq_true_iff]
  exact id

theorem requestAllocation_marksSound (h : MarksSound s.budget) : MarksSound (requestAllocation s).budget := by
  unfold requestAllocation
  split
  · exact startAllocation_marksSound s
  · exact h

theorem allocationPeriod_marksSound (h : MarksSound s.budget) : MarksSound (allocationPeriod s).budget := by
  unfold allocationPeriod
  split
  · exact h
  · exact requestAllocation_marksSound h

/-- R65: after a completion the marks are those of the next allocation, or clear. -/
theorem nextAllocation_marksSound (s : State) : MarksSound (nextAllocation s).budget := by
  intro i
  simp only [nextAllocation_budget, get_map, Bool.and_eq_true, decide_eq_true_iff]
  exact And.right

theorem completeAllocation_marksSound (h : MarksSound s.budget) : MarksSound (completeAllocation s).budget := by
  unfold completeAllocation
  split
  · exact h
  · rw [completeWith_eq]
    exact nextAllocation_marksSound _

theorem completedConsumer_mark (c : Capture) (grants : List Nat) (i : Nat) (r : Consumer) :
    (completedConsumer c grants i r).takingPart = r.takingPart := by
  unfold completedConsumer
  split
  · split <;> rfl
  · rfl

theorem publishedBudget_marksSound {u : BudgetUnit} (c : Capture) (h : MarksSound u) :
    MarksSound (publishedBudget c u) := by
  refine h.kept fun i => ?_
  dsimp only [publishedBudget]
  rw [get_mapTable]
  exact ⟨(completedConsumer_held c _ i _).1, completedConsumer_mark c _ i _⟩

theorem commandConsumer_marksSound (i : ConsumerIx) (h : MarksSound s.budget) :
    MarksSound (commandConsumer s i).budget := by
  have same := commandedConsumer_kept s.budget.consumers[i]
  rw [commandConsumer_budget]
  refine h.set i ?_
  rw [same.takingPart, same.state]
  exact h i

theorem answerOf_marksSound (r : Req) (args : List Byte) (h : MarksSound s.budget) :
    MarksSound (answerOf r args s).state.budget := by
  cases r with
  | writeRecovery =>
    show MarksSound (writeRecovery args s).state.budget
    fun_cases writeRecovery args s
    all_goals exact h
  | writeConsumer =>
    show MarksSound (writeConsumer args s).state.budget
    obtain e | ⟨i, d, -, -, e⟩ := writeConsumer_cases s args <;> rw [e]
    · exact h
    · exact h.set i nofun
  | enableConsumer =>
    show MarksSound (enableConsumer args s).state.budget
    fun_cases enableConsumer args s
    case case4 i _ _ => exact h.set i fun _ => rfl
    all_goals exact h
  | disableConsumer =>
    show MarksSound (disableConsumer args s).state.budget
    fun_cases disableConsumer args s
    case case4 i _ _ => exact h.set i nofun
    all_goals exact h
  | _ => exact marksSound_of_eq (by simp [answerOf]) h

theorem event_marksSound {c : Instr} {f : State → State} (he : Event c f) (ha : ∀ bytes, c ≠ .frameArrival bytes)
    (hl : c ≠ .lineOutSendComplete) (h : MarksSound s.budget) : MarksSound (f s).budget := by
  cases he with
  | frameArrival bytes => exact absurd rfl (ha bytes)
  | lineOutSendComplete => exact absurd rfl hl
  | allocationPeriodExpiry => exact allocationPeriod_marksSound h
  | reallocationRequest => exact requestAllocation_marksSound h
  | allocationCompletion => exact completeAllocation_marksSound h
  | electricRecompute =>
    rw [recomputeElectric_budget]
    exact h
  | lightingLoadUpdate load =>
    unfold updateLoad
    rw [recomputeElectric_budget]
    exact h
  | _ => exact marksSound_of_eq (by simp) h

/-- R77: RESTART clears every mark. -/
theorem restartEffect_marksSound (s : State) : MarksSound (restartEffect s).budget := by
  have budget : (restartEffect s).budget =
      electricFigures (profileInForce s).eMax (restartedBudget (profileInForce s).period s.budget) := by
    rw [restartEffect, recomputeElectricSilently_budget]
    unfold profileInForce
    simp [restartCaps, restartedBlocks]
    rfl
  intro i
  rw [budget]
  simp [electricFigures, restartedBudget, clearedConsumer]

/-- R18, R19: passing entries change requested and last forwarded positions alone. -/
theorem rewriteEntries_marksSound (dest : Nat) (dup : Bool) (bs : List Byte) (h : MarksSound s.budget) :
    MarksSound (rewriteEntries dest dup bs s).2.budget := by
  fun_induction rewriteEntries dest dup bs s with
  | case1 b hi lo rest s p r ih =>
    have passed := passEntry_recordsPassed s dest (b.toNat % 16) dup (hi.toNat * 256 + lo.toNat) (b.getLsbD 7)
    refine ih (h.kept fun i => ?_)
    have same := passed.consumers i
    unfold ConsumerPassed at same
    rw [same]
    exact ⟨rfl, rfl⟩
  | case2 => exact h

end

theorem marksSound_kept : KeptByParts fun s => MarksSound s.budget where
  pending _ _ h := h
  powerOn own controller l i h := by
    rw [powerOn_consumer] at h
    cases h
  reset _ h := h
  tick _ h := h
  choice _ h := marksSound_of_eq (by simp) h
  arrival := {
    error := fun _ h => h
    activity := fun _ h => marksSound_of_eq (by simp) h
    node := fun _ _ _ _ h => h
    overrun := fun _ h => marksSound_of_eq (by simp) h
    forward := fun _ _ _ h => h
    samples := fun _ _ _ h => marksSound_of_eq (by simp) h
    entries := fun _ _ _ _ h => rewriteEntries_marksSound _ _ _ h
    offered := fun _ _ _ h => marksSound_of_eq (by simp) h }
  completed s h := completeSending_keeps (P := fun t => MarksSound t.budget) h (fun _ => h)
    (fun _ _ _ _ => marksSound_of_eq (s := s) (by simp) h) (fun _ => restartEffect_marksSound _)
  event he ha hl _ h := event_marksSound he ha hl h
  handed _ _ h := h
  answer r args _ h := answerOf_marksSound r args h
  reply _ _ _ _ _ h := marksSound_of_eq (by simp [placeReply]) h

end Sys2Proof.Machine
end

section
/-! SUPPORT. The Fog Monitor's records and transitions (R93, R94, R96): what replacing a sheet record leaves, and what a
transition hands. -/

namespace Sys2Proof.Machine

/-! ### Sheet records -/

section
variable (s : State) (sh : Sheet)

@[simp] theorem sheetRec_setSheet (r : SheetRec) : sheetRec (setSheet sh r s).fog sh = r := by
  cases sh <;> rfl

theorem sheetRec_setSheet_other {sh other : Sheet} (h : other ≠ sh) (r : SheetRec) :
    sheetRec (setSheet sh r s).fog other = sheetRec s.fog other := by
  cases sh <;> cases other
  case one.one | two.two => exact absurd rfl h
  all_goals rfl

@[simp] theorem setSheet_setSheet (r r' : SheetRec) : setSheet sh r (setSheet sh r' s) = setSheet sh r s := by
  cases sh <;> rfl

/-- The table, its loaded flags and the caps stand beside the sheet records. -/
@[simp] theorem setSheet_tables (r : SheetRec) : (setSheet sh r s).fog.dew = s.fog.dew ∧
    (setSheet sh r s).fog.loaded = s.fog.loaded ∧ (setSheet sh r s).fog.caps = s.fog.caps := by
  cases sh <;> exact ⟨rfl, rfl, rfl⟩

end

theorem setSheet_caps {s : State} {sh : Sheet} (r : SheetRec) : (setSheet sh r s).fog.caps = s.fog.caps :=
  (setSheet_tables s sh r).2.2

theorem covered_congr {s t : State} (h : t.mode = s.mode) (sh : Sheet) : covered t sh = covered s sh := by
  cases sh <;> simp only [covered, h]

theorem fogOf_congr {s t : State} (h : t.fog = s.fog) (sh : Sheet) : fogOf t sh = fogOf s sh := by
  rw [fogOf, fogOf, h]

/-! ### Transitions (R93, R94, R96) -/

/-- R93, R94: what a transition of a sheet hands: the notice, the caps of the state entered and, where CLEAR is left, a
haze cut. -/
def transitionHandings (caps : CapTable) (sh : Sheet) (left entered : FogState) : List Instr :=
  [.noticeOffer .fogState (sheetNumber sh) (fogNoticeValue left entered : Nat), .capHanding sh (capsOf caps entered)] ++
    if left = .clear then [.hazeCut sh] else []

theorem fogTransition_eq (sh : Sheet) (entered : FogState) (s : State) : fogTransition sh entered s =
    { setSheet sh { sheetRec s.fog sh with fog := entered } s with
      handed := s.handed ++ transitionHandings s.fog.caps sh (fogOf s sh) entered } := by
  unfold fogTransition transitionHandings handCut handCaps hand offer hand capsInForce fogOf
  dsimp only
  rw [setSheet_caps, sheetRec_setSheet, setSheet_handed]
  split <;> simp only [List.append_assoc, List.cons_append, List.nil_append, List.append_nil]

theorem fogTransitionAlone_eq (sh : Sheet) (entered : FogState) (s : State) : fogTransitionAlone sh entered s =
    { setSheet sh { sheetRec s.fog sh with fog := entered } s with
      handed := s.handed ++ transitionHandings s.fog.caps sh (fogOf s sh) entered ++ [.reallocationRequest] } := by
  rw [fogTransitionAlone, fogTransition_eq]
  rfl

end Sys2Proof.Machine
end

section
/-! SUPPORT. Haze cuts handed and not yet taken (R94): every part of a command but the cut itself, a reset and RESTART
leaves them handed. -/

namespace Sys2Proof.Machine

/-- From s to t no haze cut that has been handed is taken. -/
def CutsKept (s t : State) : Prop := ∀ sh, Instr.hazeCut sh ∈ s.handed → Instr.hazeCut sh ∈ t.handed

theorem CutsKept.of_eq {s t : State} (h : t.handed = s.handed) : CutsKept s t := fun _ => by
  rw [h]
  exact id

theorem CutsKept.refl (s : State) : CutsKept s s := .of_eq rfl

theorem CutsKept.trans {s t u : State} (h : CutsKept s t) (k : CutsKept t u) : CutsKept s u :=
  fun sh hs => k sh (h sh hs)

/-- What is handed joins what has been handed. -/
theorem CutsKept.append {s t u : State} (h : CutsKept s t) {es : List Instr} (e : u.handed = t.handed ++ es) :
    CutsKept s u := fun sh hs => by
  rw [e]
  exact List.mem_append_left _ (h sh hs)

theorem cutsKept_append {s t : State} {es : List Instr} (e : t.handed = s.handed ++ es) : CutsKept s t :=
  (CutsKept.refl s).append e

/-- The taking of another event leaves the cuts. -/
theorem takeHanded_cutsKept {e : Instr} (h : ∀ sh, e ≠ .hazeCut sh) (s : State) : CutsKept s (takeHanded e s) :=
  fun sh => (List.mem_erase_of_ne (h sh).symm).2

theorem takeCommand_ne_hazeCut (r : Req) (slot : SlotIx) (sh : Sheet) : takeCommand r slot ≠ .hazeCut sh := by
  cases r <;> exact nofun

section
variable (s : State)

/-! ### The Point Unit -/

theorem acceptSample_cutsKept (i : PointIx) (p : Point) (v : Int) : CutsKept s (acceptSample i p v s) := by
  have resumed (t : State) (h : CutsKept s t) : CutsKept s (reportValue i v (resumeFollowers i t)) :=
    (h.append (u := resumeFollowers i t) rfl).append rfl
  have recovering : CutsKept s (if p.recovery + 1 = p.defn.recoverCount then
      reportValue i v (resumeFollowers i (offer .pointRecovered i v (setPoint i (freshPoint v p) s)))
    else setPoint i { p with recovery := p.recovery + 1 } s) := by
    split
    · exact resumed _ (cutsKept_append rfl)
    · exact .refl s
  unfold acceptSample
  split
  · exact resumed _ (.refl s)
  · exact cutsKept_append rfl
  · exact .refl s
  · exact recovering
  · exact recovering
  · exact .refl s
  · exact .refl s

theorem takeCandidate_cutsKept (i : PointIx) (p : Point) (raw : Nat) : CutsKept s (takeCandidate i p raw s) := by
  unfold takeCandidate
  dsimp only
  split
  · split
    · exact acceptSample_cutsKept s i _ _
    · split
      · exact acceptSample_cutsKept s i _ _
      · exact .refl s
  · exact acceptSample_cutsKept s i _ _

theorem sampleEntry_cutsKept (source channel : Nat) (fault : Bool) (raw : Nat) :
    CutsKept s (sampleEntry source channel fault raw s) := by
  unfold sampleEntry
  split
  · split
    · unfold sampleEnabled
      dsimp only
      split
      · exact .refl s
      · split
        · exact .refl s
        · exact takeCandidate_cutsKept s _ _ _
    · exact .refl s
  · exact .refl s

theorem sampleEntries_cutsKept (source : Nat) (bs : List Byte) : CutsKept s (sampleEntries source bs s) := by
  fun_induction sampleEntries source bs s with
  | case1 b hi lo rest s ih => exact (sampleEntry_cutsKept s _ _ _ _).trans ih
  | case2 => exact .refl _

theorem goStale_cutsKept (i : PointIx) (p : Point) : CutsKept s (goStale i p s) := by
  have collapsed (t : State) (h : CutsKept s t) : CutsKept s (collapseFollowers i p.presented t) := h.append rfl
  unfold goStale
  dsimp only
  split
  · exact collapsed _ (cutsKept_append rfl)
  · exact collapsed _ (cutsKept_append rfl)

theorem staleExpiry_cutsKept (i : PointIx) : CutsKept s (staleExpiry i s) := by
  fun_cases staleExpiry i s
  case case2 | case3 => exact goStale_cutsKept s i _
  case case4 => exact cutsKept_append rfl
  all_goals exact .refl s

theorem settleExpiry_cutsKept (i : PointIx) : CutsKept s (settleExpiry i s) := by
  fun_cases settleExpiry i s
  case case2 => exact cutsKept_append rfl
  all_goals exact .refl s

/-! ### The Budget Unit, the Scene Unit and the Mode Unit -/

theorem recomputeElectric_cutsKept : CutsKept s (recomputeElectric s) := cutsKept_append (recomputeElectric_handed s)

theorem completeAllocation_cutsKept : CutsKept s (completeAllocation s) := by
  unfold completeAllocation
  split
  · exact .refl s
  · next c _ =>
    have handed := completeWith_handed (c := c) (s := s)
    rw [List.append_assoc] at handed
    exact cutsKept_append handed

/-- R150: the state once the levels of a completion are worked out. -/
def levelledState (step : Nat) (s : State) : State :=
  groupOrder.foldl (levelGroup (searchResults s.scene.view step))
    { s with scene.search := none, scene.results := searchResults s.scene.view step }

/-- What follows the levels of a completion leaves the groups and Line Out, and hands the load. -/
theorem finishSearch_levelled (step : Nat) : (finishSearch step s).scene.groups = (levelledState step s).scene.groups ∧
    (finishSearch step s).line = (levelledState step s).line ∧
    ∃ load, (finishSearch step s).handed = s.handed ++ [.lightingLoadUpdate load] := by
  unfold finishSearch levelledState
  simp [(markCandidates_buffersKept _ step _).groups]

theorem finishSearch_cutsKept (step : Nat) : CutsKept s (finishSearch step s) := by
  obtain ⟨-, -, load, handed⟩ := finishSearch_levelled s step
  exact cutsKept_append handed

theorem completeSearch_cutsKept : CutsKept s (completeSearch s) := by
  unfold completeSearch
  split
  · exact .refl s
  · exact finishSearch_cutsKept s _

/-- R135, R136, R141, R149: the state a step start leaves before a search that completes at once. -/
def stepBegun (s : State) : State :=
  let step := (s.scene.stepCounter + 1) % 64
  let t := checkTransfers (captureStep (abandonSearch
    { s with scene.stepTimer := some s.scene.stepPeriod, scene.stepCounter := step }))
  { t with scene.search := some step }

theorem startStep_cases : startStep s = stepBegun s ∨ ∃ step, startStep s = finishSearch step (stepBegun s) := by
  unfold startStep stepBegun
  dsimp only
  split
  · exact .inr ⟨_, rfl⟩
  · exact .inl rfl

@[simp] theorem stepBegun_frame : (stepBegun s).line = s.line ∧ (stepBegun s).budget = s.budget ∧
    (stepBegun s).fog = s.fog ∧ (stepBegun s).zones = s.zones ∧ (stepBegun s).mode = s.mode ∧
    (stepBegun s).scene.groups = s.scene.groups := by
  unfold stepBegun
  dsimp only
  rw [(checkTransfers_buffersKept _).groups]
  simp [captureStep, (abandonSearch_scene _).2.1]

theorem stepBegun_cutsKept : CutsKept s (stepBegun s) := by
  let t := { s with scene.stepTimer := some s.scene.stepPeriod, scene.stepCounter := (s.scene.stepCounter + 1) % 64 }
  have abandoned : CutsKept t (abandonSearch t) := by
    unfold abandonSearch
    split
    · exact cutsKept_append rfl
    · exact .refl t
  exact abandoned.trans (.of_eq (by simp [stepBegun, t]))

theorem completeTransfer_cutsKept : CutsKept s (completeTransfer s) := by
  unfold completeTransfer
  split
  · exact .refl s
  · unfold finishTransfer
    dsimp only
    exact (cutsKept_append rfl).trans (.of_eq (checkTransfers_frame _).2.2.2.2.2.2.2.2.2.2)

theorem takeReport_cutsKept (i : PointIx) (v : Int) : CutsKept s (takeReport i v s) := by
  unfold takeReport
  split
  · exact cutsKept_append rfl
  · exact .refl s

end

end Sys2Proof.Machine
end

section
/-! SUPPORT. The haze sources of a sheet kept dark (R154, R155): by the walks over the groups, and by the commands that
consumers and zones queue for addresses of their own. -/

namespace Sys2Proof.Machine

/-! ### The Command Queue -/

/-- A command queued is the one command for its address. -/
theorem mem_enqueueCommand_same {a : ActAddr} {v w : Nat} {q : List QueueEntry}
    (h : .actuator a v ∈ enqueueCommand a w q) : v = w := by
  unfold enqueueCommand at h
  split at h
  · obtain ⟨e, -, he⟩ := List.mem_map.1 h
    split at he
    · cases he
      rfl
    · next other =>
      rw [he] at other
      exact absurd (isCommandFor_iff.2 ⟨v, rfl⟩) other
  · next absent =>
    rcases List.mem_append.1 h with old | new
    · exact absurd (List.any_eq_true.2 ⟨_, old, isCommandFor_iff.2 ⟨v, rfl⟩⟩) absent
    · cases List.mem_singleton.1 new
      rfl

/-- A command queued leaves the commands for other addresses as they are. -/
theorem mem_enqueueCommand_other {a b : ActAddr} {v w : Nat} {q : List QueueEntry} (hab : a ≠ b)
    (h : .actuator a v ∈ enqueueCommand b w q) : .actuator a v ∈ q := by
  unfold enqueueCommand at h
  split at h
  · obtain ⟨e, old, he⟩ := List.mem_map.1 h
    split at he
    · cases he
      exact absurd rfl hab
    · rwa [← he]
  · rcases List.mem_append.1 h with old | new
    · exact old
    · cases List.mem_singleton.1 new
      exact absurd rfl hab

/-! ### Groups -/

/-- R154: the group is dark for the sheet, where it is an ENABLED haze source of it. -/
def GroupDark (sh : Sheet) (s : State) (i : GroupIx) : Prop :=
  HazeGroup sh s.scene.groups[i] →
    s.scene.groups[i].level = 0 ∧ ∀ v, .actuator s.scene.groups[i].defn.dimmer v ∈ s.line.queue → v = 0

theorem sheetDark_iff {sh : Sheet} {s : State} : SheetDark sh s ↔ ∀ i, GroupDark sh s i := .rfl

section
variable {s : State} {sh : Sheet} {i j : GroupIx} {g : Group}

/-- Darkness is told by the groups and the pending commands. -/
theorem SheetDark.congr {t : State} (h : SheetDark sh s) (groups : t.scene.groups = s.scene.groups)
    (queue : ∀ a v, .actuator a v ∈ t.line.queue → .actuator a v ∈ s.line.queue) : SheetDark sh t := by
  unfold SheetDark
  rw [groups]
  exact fun i hi => ⟨(h i hi).1, fun v hv => (h i hi).2 v (queue _ v hv)⟩

theorem groupDark_setGroup_other (h : GroupDark sh s j) (hj : j ≠ i) : GroupDark sh (setGroup i g s) j := by
  unfold GroupDark setGroup
  dsimp only
  rw [getElem_set_other hj]
  exact h

theorem groupDark_setGroup_same
    (h : HazeGroup sh g → g.level = 0 ∧ ∀ v, .actuator g.defn.dimmer v ∈ s.line.queue → v = 0) :
    GroupDark sh (setGroup i g s) i := by
  unfold GroupDark setGroup
  dsimp only
  rw [getElem_set_same]
  exact h

/-- A command of 0 lights no group. -/
theorem GroupDark.queueZero (h : GroupDark sh s j) (a : ActAddr) : GroupDark sh (queueCommand a 0 s) j := by
  intro hj
  obtain ⟨level, queue⟩ := h hj
  refine ⟨level, fun v hv => ?_⟩
  rcases Classical.em (s.scene.groups[j].defn.dimmer = a) with rfl | other
  · exact mem_enqueueCommand_same hv
  · exact queue v (mem_enqueueCommand_other other hv)

/-- R145, R155: a group set to level 0 with a command of 0 is dark, and every other group stays as dark as it was. -/
theorem groupDark_cut (hg : g.level = 0) (h : j ≠ i → GroupDark sh s j) :
    GroupDark sh (setGroup i g (queueCommand g.defn.dimmer 0 s)) j := by
  rcases Classical.em (j = i) with rfl | hj
  · exact groupDark_setGroup_same fun _ => ⟨hg, fun _ hv => mem_enqueueCommand_same hv⟩
  · exact groupDark_setGroup_other ((h hj).queueZero _) hj

/-- R17: two loaded groups have dimmers of their own. -/
theorem IndexSound.dimmer_ne (h : IndexSound s) (hi : s.scene.groups[i].state = .enabled)
    (hj : s.scene.groups[j].state = .enabled) (hij : j ≠ i) :
    s.scene.groups[j].defn.dimmer ≠ s.scene.groups[i].defn.dimmer := by
  intro e
  have mine : Owns s s.scene.groups[i].defn.dimmer (.group i) := groupHolds_iff.2 ⟨by rw [hi]; decide, rfl⟩
  have other : Owns s s.scene.groups[i].defn.dimmer (.group j) := groupHolds_iff.2 ⟨by rw [hj]; decide, e⟩
  exact hij (ActOwner.group.inj ((h _ _ mine).1 _ other))

/-- R156: an ENABLED group sent a level of its own leaves the sheet dark, where it stays dark itself. -/
theorem SheetDark.sendLevel (h : SheetDark sh s) (index : IndexSound s) (hi : s.scene.groups[i].state = .enabled)
    (state : g.state = s.scene.groups[i].state) (defn : g.defn = s.scene.groups[i].defn)
    (dark : HazeGroup sh g → g.level = 0) : SheetDark sh (Machine.sendLevel i g s) := by
  have same (hg : HazeGroup sh g) : HazeGroup sh s.scene.groups[i] := by
    unfold HazeGroup at hg ⊢
    rwa [← state, ← defn]
  unfold Machine.sendLevel
  intro j
  split
  · rcases Classical.em (j = i) with rfl | hj
    · refine groupDark_setGroup_same fun hg => ⟨dark hg, ?_⟩
      rw [defn]
      exact (h j (same hg)).2
    · exact groupDark_setGroup_other (h j) hj
  · rcases Classical.em (j = i) with rfl | hj
    · refine groupDark_setGroup_same fun hg => ⟨dark hg, fun v hv => ?_⟩
      rw [mem_enqueueCommand_same hv]
      exact dark hg
    · refine groupDark_setGroup_other (fun hg => ⟨(h j hg).1, fun v hv => (h j hg).2 v ?_⟩) hj
      rw [defn] at hv
      exact mem_enqueueCommand_other (index.dimmer_ne hi hg.1 hj) hv

/-- R154: an ENABLED haze source of an uncovered sheet out of CLEAR is blocked. -/
theorem blockedNow_of_haze (hg : HazeGroup sh g) (uncovered : covered s sh = false) (fog : fogOf s sh ≠ .clear) :
    blockedNow s g.defn = true := by
  obtain ⟨-, haze, sheet⟩ := hg
  simp [blockedNow, haze, sheet, uncovered, fog]

/-- R154: the level of a completion leaves the haze sources of an uncovered sheet out of CLEAR dark. -/
theorem SheetDark.levelGroup (h : SheetDark sh s) (index : IndexSound s) (uncovered : covered s sh = false)
    (fog : fogOf s sh ≠ .clear) (rs : Vector SearchResult 32) (i : GroupIx) : SheetDark sh (levelGroup rs s i) := by
  unfold Machine.levelGroup
  dsimp only
  split
  · next hi =>
    obtain ⟨state, defn⟩ := levelledGroup_held s rs[i] s.scene.groups[i]
    refine h.sendLevel index hi state defn fun hg => ?_
    have hg' : HazeGroup sh s.scene.groups[i] := by
      unfold HazeGroup at hg ⊢
      rwa [← state, ← defn]
    rw [levelledGroup, if_pos (blockedNow_of_haze hg' uncovered fog)]
    rfl
  · exact h

theorem SheetDark.levelGroups (h : SheetDark sh s) (index : IndexSound s) (uncovered : covered s sh = false)
    (fog : fogOf s sh ≠ .clear) (rs : Vector SearchResult 32) (l : List GroupIx) :
    SheetDark sh (l.foldl (Machine.levelGroup rs) s) := by
  induction l generalizing s with
  | nil => exact h
  | cons i l ih =>
    obtain ⟨-, -, hf, -, hm, -⟩ := levelGroup_frame s rs i
    refine ih (h.levelGroup index uncovered fog rs i) ((levelGroup_ownersKept s rs i).indexSound index) ?_ ?_
    · rwa [covered_congr hm]
    · rwa [fogOf_congr hf]

/-- R150, R154: so does a whole completion. -/
theorem SheetDark.finishSearch (h : SheetDark sh s) (index : IndexSound s) (uncovered : covered s sh = false)
    (fog : fogOf s sh ≠ .clear) (step : Nat) : SheetDark sh (finishSearch step s) := by
  obtain ⟨groups, line, -⟩ := finishSearch_levelled s step
  have levels : SheetDark sh (levelledState step s) := by
    unfold levelledState
    refine SheetDark.levelGroups ?_ ?_ ?_ ?_ _ _
    · exact h
    · exact index
    · exact uncovered
    · exact fog
  exact levels.congr groups fun a v hv => by rwa [line] at hv

/-! ### The haze cut (R155) -/

theorem cutGroup_groupDark (x : Sheet) (h : j ≠ i → GroupDark x s j) (hi : x ≠ sh → GroupDark x s j) :
    GroupDark x (cutGroup sh s i) j := by
  unfold cutGroup
  dsimp only
  split
  · exact groupDark_cut rfl h
  · next spared =>
    rcases Classical.em (j = i) with rfl | hj
    · rcases Classical.em (x = sh) with rfl | hx
      · exact fun hg => absurd hg spared
      · exact hi hx
    · exact h hj

theorem SheetDark.cutGroup {x : Sheet} (h : SheetDark x s) (i : GroupIx) : SheetDark x (cutGroup sh s i) := fun j =>
  cutGroup_groupDark x (fun _ => h j) fun _ => h j

theorem SheetDark.reportLoad (h : SheetDark sh s) : SheetDark sh (reportLoad s) := h

/-- R155: a haze cut darkens its sheet. -/
theorem cutHaze_sheetDark (sh : Sheet) (s : State) : SheetDark sh (cutHaze sh s) := by
  have walk (l : List GroupIx) (t : State) (j : GroupIx) (h : j ∈ l ∨ GroupDark sh t j) :
      GroupDark sh (l.foldl (Machine.cutGroup sh) t) j := by
    induction l generalizing t with
    | nil => exact h.resolve_left (by simp)
    | cons i l ih =>
      refine ih _ ?_
      rcases Classical.em (j = i) with rfl | hj
      · exact .inr (cutGroup_groupDark sh (fun hj => absurd rfl hj) fun hx => absurd rfl hx)
      · exact (h.imp_left fun hm => (List.mem_cons.1 hm).resolve_left hj).imp_right fun dark =>
          cutGroup_groupDark sh (fun _ => dark) fun _ => dark
  unfold Machine.cutHaze
  exact SheetDark.reportLoad (sheetDark_iff.2 fun j => walk groupOrder s j (.inl (List.mem_finRange j)))

/-- R155: a haze cut of either sheet leaves a dark one dark. -/
theorem SheetDark.cutHaze {x : Sheet} (h : SheetDark x s) (sh : Sheet) : SheetDark x (cutHaze sh s) := by
  unfold Machine.cutHaze
  exact .reportLoad (foldl_invariant (SheetDark x) (Machine.cutGroup sh) (fun _ i k => k.cutGroup i) groupOrder s h)

/-! ### The requests on groups (R144 to R146) -/

theorem SheetDark.setIdle (h : SheetDark sh s) (hg : g.state ≠ .enabled) : SheetDark sh (setGroup i g s) := fun j => by
  rcases Classical.em (j = i) with rfl | hj
  · exact groupDark_setGroup_same fun e => absurd e.1 hg
  · exact groupDark_setGroup_other (h j) hj

/-- R17: commands dropped light no group. -/
theorem SheetDark.dropCommands (h : SheetDark sh s) (gone : List ActAddr) : SheetDark sh (dropCommands gone s) :=
  h.congr rfl fun _ _ hv => (List.mem_filter.1 hv).1

/-- R145: a group admitted is dark for an uncovered sheet out of CLEAR. -/
theorem SheetDark.admitGroup (h : SheetDark sh s) (uncovered : covered s sh = false) (fog : fogOf s sh ≠ .clear)
    (i : GroupIx) (g : Group) : SheetDark sh (admitGroup i g s) := fun j => by
  unfold Machine.admitGroup
  dsimp only
  split
  · exact groupDark_cut (g := { clearedGroup g.defn .enabled with hazeBlocked := true, lastSent := some 0 }) rfl
      fun _ => h j
  · next unblocked =>
    rcases Classical.em (j = i) with rfl | hj
    · exact groupDark_setGroup_same fun hg => absurd (blockedNow_of_haze hg uncovered fog) unblocked
    · exact groupDark_setGroup_other (h j) hj

end

/-! ### Commands of consumers and zones -/

/-- From s to t the groups stand as they stood, and the Command Queue has gained commands only for addresses that
another record than a group owns. -/
structure DimmersSpared (s t : State) : Prop where
  owners : OwnersKept s t
  groups : t.scene.groups = s.scene.groups
  queue : ∀ a v, .actuator a v ∈ t.line.queue →
    .actuator a v ∈ s.line.queue ∨ ∃ o, Owns s a o ∧ ∀ i, o ≠ .group i

theorem DimmersSpared.of_eq {s t : State} (owners : OwnersKept s t) (groups : t.scene.groups = s.scene.groups)
    (queue : t.line.queue = s.line.queue) : DimmersSpared s t :=
  ⟨owners, groups, fun a v => by rw [queue]; exact .inl⟩

theorem DimmersSpared.refl (s : State) : DimmersSpared s s := .of_eq (.refl s) rfl rfl

theorem DimmersSpared.trans {s t u : State} (h : DimmersSpared s t) (k : DimmersSpared t u) : DimmersSpared s u where
  owners := h.owners.trans k.owners
  groups := k.groups.trans h.groups
  queue a v hv := by
    rcases k.queue a v hv with old | ⟨o, ho, other⟩
    · exact h.queue a v old
    · exact .inr ⟨o, h.owners.owns a o ho, other⟩

theorem DimmersSpared.foldl {β : Type} {f : State → β → State} (h : ∀ s b, DimmersSpared s (f s b)) (l : List β)
    (s : State) : DimmersSpared s (l.foldl f s) :=
  foldl_invariant (DimmersSpared s) f (fun t b k => k.trans (h t b)) l s (.refl s)

/-- R17: an address has one owner, so a command for another record's address lights no group. -/
theorem DimmersSpared.dark {s t : State} {sh : Sheet} (k : DimmersSpared s t) (index : IndexSound s)
    (h : SheetDark sh s) : SheetDark sh t := by
  unfold SheetDark
  rw [k.groups]
  refine fun i hi => ⟨(h i hi).1, fun v hv => ?_⟩
  rcases k.queue _ v hv with old | ⟨o, ho, other⟩
  · exact (h i hi).2 v old
  · have mine : Owns s s.scene.groups[i].defn.dimmer (.group i) := groupHolds_iff.2 ⟨by rw [hi.1]; decide, rfl⟩
    exact absurd ((index _ _ mine).1 o ho) (other i)

section
variable (s : State)

/-- A command for an address that a record other than a group owns. -/
theorem dimmersSpared_queued {t : State} {a : ActAddr} {w : Nat} {o : ActOwner} (owners : OwnersKept s t)
    (groups : t.scene.groups = s.scene.groups) (queue : t.line.queue = enqueueCommand a w s.line.queue)
    (ho : Owns s a o) (other : ∀ i, o ≠ .group i) : DimmersSpared s t := by
  refine ⟨owners, groups, fun b v hv => ?_⟩
  rw [queue] at hv
  rcases Classical.em (b = a) with rfl | hb
  · exact .inr ⟨o, ho, other⟩
  · exact .inl (mem_enqueueCommand_other hb hv)

theorem shedValve_spared (i : ZoneIx) : DimmersSpared s (shedValve s i) := by
  have owners := shedValve_ownersKept s i
  unfold shedValve at owners ⊢
  dsimp only at owners ⊢
  split
  · next h =>
    rw [if_pos h] at owners
    exact dimmersSpared_queued s (o := .zoneValve i) owners rfl rfl
      (valveHolds_iff.2 ⟨by rw [h.1]; decide, rfl⟩) (by simp)
  · exact .refl s

theorem shedBoost_spared (i : ZoneIx) : DimmersSpared s (shedBoost s i) := by
  have owners := shedBoost_ownersKept s i
  unfold shedBoost at owners ⊢
  dsimp only at owners ⊢
  split
  · next a ha =>
    simp only [ha] at owners
    split
    · next h =>
      rw [if_pos h] at owners
      exact dimmersSpared_queued s (o := .zoneBoost i) owners rfl rfl
        (boostHolds_iff.2 ⟨by rw [h.1]; decide, ha⟩) (by simp)
    · exact .refl s
  · exact .refl s

theorem shedBoth_spared (i : ZoneIx) : DimmersSpared s (shedBoth s i) :=
  (shedValve_spared s i).trans (shedBoost_spared _ i)

/-- Every zone record is rewritten, each keeping its state and definition. -/
theorem mapZones_spared {u : ZoneController} {f : Nat → Zone → Zone}
    (hu : u.zones = mapTable f s.zones.zones) (hf : ∀ k z, (f k z).state = z.state ∧ (f k z).defn = z.defn) :
    DimmersSpared s { s with zones := u } := .of_eq (mapZones_ownersKept s hu hf) rfl rfl

theorem applyCaps_spared (sh : Sheet) (c : Caps) : DimmersSpared s (applyCaps sh c s) := by
  unfold applyCaps
  split
  · exact .refl s
  · refine .trans (mapZones_spared s ?_ fun _ z => capHandedZone_held sh c z) (.foldl shedBoth_spared _ _)
    exact congrArg (mapTable fun _ z => capHandedZone sh c z) (setCapSet_zones sh c s.zones)

theorem splitGrant_spared (g : Option Nat) : DimmersSpared s (splitGrant g s) := by
  have splitting : OwnersKept s { s with zones := splitZones g s.zones } := by
    refine .of_zones rfl (fun i => ?_) rfl rfl
    obtain ⟨defn, state, -⟩ := splitZones_frame g s.zones i
    exact .of_eq state defn
  unfold splitGrant
  exact (DimmersSpared.of_eq splitting rfl rfl).trans (.foldl shedValve_spared _ _)

theorem distributeBoost_spared (a : Nat) : DimmersSpared s (distributeBoost a s) := by
  unfold distributeBoost
  exact (mapZones_spared s (u := boostZones a s.zones) rfl fun _ _ => ⟨rfl, rfl⟩).trans (.foldl shedBoost_spared _ _)

theorem recomputeElectric_spared : DimmersSpared s (recomputeElectric s) := by
  unfold recomputeElectric
  refine .trans (.of_eq (.of_eq ?_ ?_ ?_ ?_) ?_ ?_) (distributeBoost_spared _ _) <;> simp [electricFigures]

theorem recomputeElectricSilently_spared : DimmersSpared s (recomputeElectricSilently s) := by
  have figured : DimmersSpared s { s with budget := electricFigures (profileInForce s).eMax s.budget } :=
    .of_eq (.of_eq rfl rfl rfl rfl) rfl rfl
  unfold recomputeElectricSilently
  exact figured.trans (distributeBoost_spared _ _)

/-- R66, R72, R73: a consumer commanded is ENABLED, and owns the address. -/
theorem commandConsumer_spared (i : ConsumerIx) (marks : MarksSound s.budget) :
    DimmersSpared s (commandConsumer s i) := by
  have owned {a : ActAddr} (hm : s.budget.consumers[i].takingPart = true)
      (ha : s.budget.consumers[i].defn.addr = some a) : Owns s a (.consumer i) :=
    consumerHolds_iff.2 ⟨by rw [marks i hm]; decide, ha⟩
  have owners := commandConsumer_ownersKept s i
  have groups : (commandConsumer s i).scene.groups = s.scene.groups := by simp
  obtain ⟨due, a, ha, h⟩ | ⟨due, a, ha, h⟩ | ⟨-, h⟩ := commandConsumer_cases s i rfl
  · exact dimmersSpared_queued s (w := s.budget.consumers[i].allowed) owners groups (by rw [h]; simp)
      (owned due.1 ha) (by simp)
  · exact dimmersSpared_queued s owners groups (by rw [h]; rfl) (owned due.1 ha) (by simp)
  · rw [h]
    exact .refl s

theorem commandConsumers_spared (l : List ConsumerIx) (marks : MarksSound s.budget) :
    DimmersSpared s (l.foldl commandConsumer s) := by
  induction l generalizing s with
  | nil => exact .refl s
  | cons i l ih => exact (commandConsumer_spared s i marks).trans (ih _ (commandConsumer_marksSound i marks))

theorem completeAllocation_spared (marks : MarksSound s.budget) : DimmersSpared s (completeAllocation s) := by
  unfold completeAllocation
  split
  · exact .refl s
  · next c _ =>
    let t := heatLostNotice c s.budget { s with budget := publishedBudget c s.budget }
    have published : DimmersSpared s t :=
      .of_eq ((publishedBudget_ownersKept s c).then_eq (by simp [t]) (by simp [t]) (by simp [t]) (by simp [t]))
        (by simp [t]) (by simp [t])
    have marks' : MarksSound t.budget := by
      simpa [t] using publishedBudget_marksSound c marks
    have commanded : DimmersSpared s (commandedState c s) :=
      published.trans (commandConsumers_spared t consumerOrder marks')
    have applied : DimmersSpared s (appliedState c s) :=
      commanded.trans ((splitGrant_spared _ _).trans (recomputeElectric_spared _))
    rw [completeWith_eq]
    exact applied.trans (.of_eq (nextAllocation_ownersKept _) (by simp) (by simp))

end

end Sys2Proof.Machine
end

section
/-! SUPPORT. The sheets under every part of a command (R83, R94, R97, R154, R155): a covered sheet and one that is not
ENABLED stand in CLEAR, and any other out of CLEAR is dark, or its haze cut is handed. -/

namespace Sys2Proof.Machine

/-! ### Sound sheets -/

/-- What the invariant of the haze says of one sheet. -/
structure SheetSound (s : State) (sh : Sheet) : Prop where
  coveredClear : covered s sh = true → fogOf s sh = .clear
  idleClear : (sheetRec s.fog sh).state ≠ .enabled → fogOf s sh = .clear
  dark : covered s sh = false → fogOf s sh ≠ .clear → Instr.hazeCut sh ∈ s.handed ∨ SheetDark sh s

def SheetsSound (s : State) : Prop := ∀ sh, SheetSound s sh

theorem hazeSound_iff {s : State} : HazeSound s ↔
    IndexSound s ∧ MarksSound s.budget ∧ (s.line.held = true ∨ SheetsSound s) := by
  have sheets : SheetsSound s ↔ ∀ sh, (covered s sh = true → fogOf s sh = .clear) ∧
      ((sheetRec s.fog sh).state ≠ .enabled → fogOf s sh = .clear) ∧
      (covered s sh = false → fogOf s sh ≠ .clear → Instr.hazeCut sh ∈ s.handed ∨ SheetDark sh s) :=
    forall_congr' fun sh => ⟨fun ⟨c, i, d⟩ => ⟨c, i, d⟩, fun ⟨c, i, d⟩ => ⟨c, i, d⟩⟩
  rw [sheets]
  rfl

/-- From s to t the sheet keeps its states and its cover, no haze cut of it is taken, and where it is uncovered and out
of CLEAR it stays dark. -/
structure SheetKept (sh : Sheet) (s t : State) : Prop where
  fog : fogOf t sh = fogOf s sh
  state : (sheetRec t.fog sh).state = (sheetRec s.fog sh).state
  cover : covered t sh = covered s sh
  cut : Instr.hazeCut sh ∈ s.handed → Instr.hazeCut sh ∈ t.handed
  dark : covered s sh = false → fogOf s sh ≠ .clear → SheetDark sh s → SheetDark sh t

/-- Both sheets are kept. -/
def HazeKept (s t : State) : Prop := ∀ sh, SheetKept sh s t

section
variable {s t : State} {sh : Sheet}

theorem SheetKept.sound (k : SheetKept sh s t) (h : SheetSound s sh) : SheetSound t sh := by
  refine ⟨?_, ?_, ?_⟩
  · rw [k.cover, k.fog]
    exact h.coveredClear
  · rw [k.state, k.fog]
    exact h.idleClear
  · rw [k.cover, k.fog]
    exact fun uncovered fog => (h.dark uncovered fog).imp k.cut (k.dark uncovered fog)

theorem HazeKept.sheetsSound (k : HazeKept s t) (h : SheetsSound s) : SheetsSound t := fun sh => (k sh).sound (h sh)

theorem SheetKept.trans {u : State} (h : SheetKept sh s t) (k : SheetKept sh t u) : SheetKept sh s u where
  fog := k.fog.trans h.fog
  state := k.state.trans h.state
  cover := k.cover.trans h.cover
  cut hs := k.cut (h.cut hs)
  dark uncovered fog dark := k.dark (by rwa [h.cover]) (by rwa [h.fog]) (h.dark uncovered fog dark)

theorem HazeKept.trans {u : State} (h : HazeKept s t) (k : HazeKept t u) : HazeKept s u := fun sh =>
  (h sh).trans (k sh)

theorem HazeKept.of_eq (fog : t.fog = s.fog) (mode : t.mode = s.mode) (cuts : CutsKept s t)
    (dark : ∀ sh, covered s sh = false → fogOf s sh ≠ .clear → SheetDark sh s → SheetDark sh t) : HazeKept s t :=
  fun sh => ⟨fogOf_congr fog sh, by rw [fog], covered_congr mode sh, cuts sh, dark sh⟩

/-- A part of a command that touches neither the groups nor what is pending for them leaves a sheet as its record, its
cover and the cuts handed stand. -/
theorem SheetKept.quiet (fog : fogOf t sh = fogOf s sh) (state : (sheetRec t.fog sh).state = (sheetRec s.fog sh).state)
    (cover : covered t sh = covered s sh) (groups : t.scene.groups = s.scene.groups)
    (queue : t.line.queue = s.line.queue) (cuts : CutsKept s t) : SheetKept sh s t :=
  ⟨fog, state, cover, cuts sh, fun _ _ h => h.congr groups fun a v => by rw [queue]; exact id⟩

theorem HazeKept.quiet (fog : t.fog = s.fog) (mode : t.mode = s.mode) (groups : t.scene.groups = s.scene.groups)
    (queue : t.line.queue = s.line.queue) (cuts : CutsKept s t) : HazeKept s t := fun sh =>
  .quiet (fogOf_congr fog sh) (by rw [fog]) (covered_congr mode sh) groups queue cuts

theorem HazeKept.refl (s : State) : HazeKept s s := .quiet rfl rfl rfl rfl (.refl s)

/-- The commands of consumers and zones light no group. -/
theorem DimmersSpared.hazeKept (k : DimmersSpared s t) (index : IndexSound s) (fog : t.fog = s.fog)
    (mode : t.mode = s.mode) (cuts : CutsKept s t) : HazeKept s t :=
  .of_eq fog mode cuts fun _ _ _ => k.dark index

theorem hand_hazeKept (e : Instr) (s : State) : HazeKept s (hand e s) := .quiet rfl rfl rfl rfl (cutsKept_append rfl)

theorem SheetsSound.hand (h : SheetsSound s) (e : Instr) : SheetsSound (hand e s) := (hand_hazeKept e s).sheetsSound h

end

/-! ### Records and transitions (R93, R94) -/

section
variable {s : State} {sh other : Sheet}

theorem sheetSound_of_clear (h : fogOf s sh = .clear) : SheetSound s sh :=
  ⟨fun _ => h, fun _ => h, fun _ fog => absurd h fog⟩

/-- What holds of the sheet concerned and of the other holds of both. -/
theorem sheetsSound_of_sheet (h : SheetSound s sh) (ho : ∀ other, other ≠ sh → SheetSound s other) : SheetsSound s :=
  fun other => by
    rcases Classical.em (other = sh) with rfl | ne
    · exact h
    · exact ho other ne

theorem setSheet_other (ho : other ≠ sh) (r : SheetRec) : SheetKept other s (setSheet sh r s) := by
  have record := sheetRec_setSheet_other s ho r
  exact .quiet (congrArg SheetRec.fog record) (congrArg SheetRec.state record) (covered_congr (by simp) other)
    (by simp) (by simp) (.of_eq (by simp))

/-- A sheet record replaced by one of the same states: figures, flags and timers are free. -/
theorem setSheet_hazeKept {r : SheetRec} (fog : r.fog = fogOf s sh) (state : r.state = (sheetRec s.fog sh).state) :
    HazeKept s (setSheet sh r s) := fun other => by
  rcases Classical.em (other = sh) with rfl | ho
  · refine .quiet ?_ ?_ (covered_congr (by simp) other) (by simp) (by simp) (.of_eq (by simp))
    · rw [fogOf, sheetRec_setSheet, fog]
    · rw [sheetRec_setSheet, state]
  · exact setSheet_other ho r

theorem fogTransition_cutsKept (entered : FogState) (s : State) : CutsKept s (fogTransition sh entered s) := by
  rw [fogTransition_eq]
  exact cutsKept_append rfl

theorem sheetRec_fogTransition (entered : FogState) (s : State) :
    sheetRec (fogTransition sh entered s).fog sh = { sheetRec s.fog sh with fog := entered } := by
  rw [fogTransition_eq]
  exact sheetRec_setSheet s sh _

/-- A transition leaves the other sheet as it stood. -/
theorem fogTransition_other (ho : other ≠ sh) (entered : FogState) :
    SheetKept other s (fogTransition sh entered s) := by
  have record : sheetRec (fogTransition sh entered s).fog other = sheetRec s.fog other := by
    rw [fogTransition_eq]
    exact sheetRec_setSheet_other s ho _
  exact .quiet (congrArg SheetRec.fog record) (congrArg SheetRec.state record) (covered_congr (by simp) other)
    (by simp) (by simp) (fogTransition_cutsKept entered s)

/-- R97: a transition to CLEAR asks nothing of the sheet. -/
theorem transitionClear_sound (h : ∀ other, other ≠ sh → SheetSound s other) :
    SheetsSound (fogTransition sh .clear s) := by
  refine sheetsSound_of_sheet (sh := sh) (sheetSound_of_clear ?_) fun other ho =>
    (fogTransition_other ho .clear).sound (h other ho)
  rw [fogOf, sheetRec_fogTransition]

/-- R94: a transition of an ENABLED, uncovered sheet out of CLEAR hands its haze cut; out of any other state the sheet
is dark already, or its cut is handed. -/
theorem SheetsSound.transition (h : SheetsSound s) (enabled : (sheetRec s.fog sh).state = .enabled)
    (uncovered : covered s sh = false) (entered : FogState) : SheetsSound (fogTransition sh entered s) := by
  refine sheetsSound_of_sheet (sh := sh) ⟨fun cover => ?_, fun idle => absurd ?_ idle, fun _ _ => ?_⟩
    fun other ho => (fogTransition_other ho entered).sound (h other)
  · have same : covered (fogTransition sh entered s) sh = covered s sh := covered_congr (by simp) sh
    rw [same, uncovered] at cover
    cases cover
  · rw [sheetRec_fogTransition]
    exact enabled
  · rcases Classical.em (fogOf s sh = .clear) with clear | fog
    · refine .inl ?_
      rw [fogTransition_eq]
      simp [transitionHandings, clear]
    · exact ((h sh).dark uncovered fog).imp (fogTransition_cutsKept entered s sh) fun dark =>
        dark.congr (by simp) fun a v => by simp

/-! ### The computation and the timers (R85, R86, R91, R92) -/

theorem SheetsSound.evaluateFog (h : SheetsSound s) (enabled : (sheetRec s.fog sh).state = .enabled)
    (uncovered : covered s sh = false) : SheetsSound (evaluateFog sh s) := by
  have timed := setSheet_hazeKept (s := s) (sh := sh) (r := { sheetRec s.fog sh with
    recoverTimer := recoverTimerAfter (sheetRec s.fog sh) (evaluatedFog (sheetRec s.fog sh)) }) rfl rfl
  unfold Machine.evaluateFog
  dsimp only
  split
  · exact h
  · refine SheetsSound.hand ((timed.sheetsSound h).transition ?_ ?_ _) _
    · rw [(timed sh).state, enabled]
    · rw [(timed sh).cover, uncovered]

theorem SheetsSound.loseInput (h : SheetsSound s) (enabled : (sheetRec s.fog sh).state = .enabled)
    (uncovered : covered s sh = false) : SheetsSound (loseInput sh s) := by
  have lost := setSheet_hazeKept (s := s) (sh := sh)
    (r := { sheetRec s.fog sh with inputLost := true, degraded := false }) rfl rfl
  unfold Machine.loseInput
  dsimp only
  split
  · refine SheetsSound.hand ((lost.sheetsSound h).transition ?_ ?_ _) _
    · rw [(lost sh).state, enabled]
    · rw [(lost sh).cover, uncovered]
  · exact lost.sheetsSound h

theorem SheetsSound.computeFog (h : SheetsSound s) (enabled : (sheetRec s.fog sh).state = .enabled)
    (uncovered : covered s sh = false) : SheetsSound (computeFog sh s) := by
  have computed := setSheet_hazeKept (s := s) (sh := sh) (r := computedSheet s (sheetRec s.fog sh)) rfl rfl
  unfold Machine.computeFog
  dsimp only
  split
  · exact h.loseInput enabled uncovered
  · refine (computed.sheetsSound h).evaluateFog ?_ ?_
    · rw [(computed sh).state, enabled]
    · rw [(computed sh).cover, uncovered]

theorem SheetsSound.fogPeriod (h : SheetsSound s) : SheetsSound (fogPeriod sh s) := by
  have timed := setSheet_hazeKept (s := s) (sh := sh)
    (r := { sheetRec s.fog sh with fogTimer := some ((sheetRec s.fog sh).defn.fogPeriod * 1000) }) rfl rfl
  unfold Machine.fogPeriod
  dsimp only
  split
  · next enabled _ =>
    split
    · exact timed.sheetsSound h
    · next uncovered =>
      refine (timed.sheetsSound h).computeFog ?_ (Bool.eq_false_iff.2 uncovered)
      rw [(timed sh).state, enabled]
  all_goals exact h

theorem SheetsSound.recoverExpiry (h : SheetsSound s) : SheetsSound (recoverExpiry sh s) := by
  have stopped := (setSheet_hazeKept (s := s) (sh := sh) (r := { sheetRec s.fog sh with recoverTimer := none })
    rfl rfl).sheetsSound h
  unfold Machine.recoverExpiry
  dsimp only
  split
  · exact h
  · split
    · exact (transitionClear_sound fun other _ => stopped other).hand _
    · exact stopped

/-! ### Covering (R97, R98) -/

theorem covered_setCover (sh : Sheet) (b : Bool) (s : State) : covered (setCover sh b s) sh = b := by
  cases sh <;> rfl

/-- A cover flag changed leaves the other sheet as it stood. -/
theorem setCover_other (ho : other ≠ sh) (b : Bool) : SheetKept other s (setCover sh b s) := by
  refine .quiet (fogOf_congr (by simp) other) (by simp) ?_ (by simp) (by simp) (.of_eq (by simp))
  cases sh <;> cases other
  case one.one | two.two => exact absurd rfl ho
  all_goals rfl

/-- R97: a sheet covered is moved to CLEAR. -/
theorem coverFog_sheetsSound (h : SheetsSound s) : SheetsSound (coverFog sh (setCover sh true s)) := by
  have others (other : Sheet) (ho : other ≠ sh) (r : SheetRec) :
      SheetSound (setSheet sh r (setCover sh true s)) other :=
    ((setCover_other ho true).trans (setSheet_other ho r)).sound (h other)
  unfold coverFog
  dsimp only
  split
  · next clear =>
    exact (sheetsSound_of_sheet (sheetSound_of_clear clear) fun other ho => others other ho _).hand _
  · exact transitionClear_sound fun other ho => others other ho _

/-- R98: a sheet uncovered is found in CLEAR; where it is ENABLED its haze cut is handed. -/
theorem uncoverFog_sheetsSound (h : SheetsSound s) (cover : covered s sh = true) :
    SheetsSound (uncoverFog sh (setCover sh false s)) := by
  have clear : fogOf (setCover sh false s) sh = .clear :=
    (fogOf_congr (by simp) sh).trans ((h sh).coveredClear cover)
  have bared : SheetsSound (setCover sh false s) :=
    sheetsSound_of_sheet (sheetSound_of_clear clear) fun other ho => (setCover_other ho false).sound (h other)
  unfold uncoverFog
  split
  · next enabled => exact bared.transition enabled (covered_setCover sh false s) .watch
  · exact bared.hand _

/-! ### The requests on sheets (R81 to R83, R169, R170) -/

variable (args : List Byte)

theorem SheetsSound.writeSheet (h : SheetsSound s) : SheetsSound (writeSheet args s).state := by
  fun_cases Machine.writeSheet args s
  case case4 sh _ _ d _ _ =>
    refine sheetsSound_of_sheet (sh := sh) (sheetSound_of_clear ?_) fun other ho =>
      (setSheet_other ho _).sound (h other)
    exact congrArg SheetRec.fog (sheetRec_setSheet s sh (clearedSheet d .disabled))
  all_goals exact h

/-- R82: a DISABLED sheet is found in CLEAR, and so stands until the transition that hands its cut. -/
theorem SheetsSound.startFog (h : SheetsSound s) (disabled : (sheetRec s.fog sh).state = .disabled) :
    SheetsSound (startFog sh s) := by
  have clear : fogOf s sh = .clear := (h sh).idleClear (by rw [disabled]; decide)
  unfold Machine.startFog
  dsimp only
  have started (r : SheetRec) (hr : r.fog = fogOf s sh) : SheetsSound (setSheet sh r s) := by
    refine sheetsSound_of_sheet (sh := sh) (sheetSound_of_clear ?_) fun other ho =>
      (setSheet_other ho r).sound (h other)
    rw [fogOf, sheetRec_setSheet, hr, clear]
  refine SheetsSound.hand ?_ _
  split
  · exact started _ rfl
  · next uncovered =>
    refine (started _ ?_).transition ?_ (Bool.eq_false_iff.2 uncovered) .watch
    · rfl
    · rw [sheetRec_setSheet]

theorem SheetsSound.enableFog (h : SheetsSound s) : SheetsSound (enableFog args s).state := by
  fun_cases Machine.enableFog args s
  case case4 sh _ disabled _ => exact h.startFog disabled
  all_goals exact h

/-- R83: a sheet disabled is moved to CLEAR. -/
theorem SheetsSound.stopFog (h : SheetsSound s) : SheetsSound (stopFog sh s) := by
  unfold Machine.stopFog
  dsimp only
  refine SheetsSound.hand ?_ _
  split
  · next clear =>
    refine sheetsSound_of_sheet (sh := sh) (sheetSound_of_clear ?_) fun other ho =>
      (setSheet_other ho _).sound (h other)
    rw [fogOf, sheetRec_setSheet]
    exact clear
  · exact transitionClear_sound fun other ho => (setSheet_other ho _).sound (h other)

theorem SheetsSound.disableFog (h : SheetsSound s) : SheetsSound (disableFog args s).state := by
  fun_cases Machine.disableFog args s
  case case4 => exact h.stopFog
  all_goals exact h

theorem SheetsSound.coverSheet (h : SheetsSound s) : SheetsSound (coverSheet args s).state := by
  fun_cases Machine.coverSheet args s
  case case3 => exact (coverFog_sheetsSound h).hand _
  all_goals exact h

theorem SheetsSound.uncoverSheet (h : SheetsSound s) : SheetsSound (uncoverSheet args s).state := by
  fun_cases Machine.uncoverSheet args s
  case case2 cover => exact (uncoverFog_sheetsSound h cover).hand _
  all_goals exact h

end

end Sys2Proof.Machine
end

section
/-! SUPPORT. The haze under every shape of command (R94, R97, R154, R155). -/

namespace Sys2Proof.Machine

section
variable {s : State}

/-! ### Requests -/

/-- The requests that change the record or the cover of a sheet. -/
def isSheetRequest : Req → Bool
  | .writeSheet | .enableFog | .disableFog | .coverSheet | .uncoverSheet => true
  | _ => false

variable (args : List Byte)

/-- No request takes a haze cut that has been handed. -/
theorem answerOf_cutsKept {r : Req} (hr : isSheetRequest r = false) : CutsKept s (answerOf r args s).state := by
  cases r with
  | writeSheet | enableFog | disableFog | coverSheet | uncoverSheet => cases hr
  | disablePoint =>
    show CutsKept s (disablePoint args s).state
    fun_cases disablePoint args s
    case case4 | case5 => exact cutsKept_append rfl
    all_goals exact .refl s
  | writeRecovery =>
    show CutsKept s (writeRecovery args s).state
    fun_cases writeRecovery args s
    case case2 => exact cutsKept_append rfl
    all_goals exact .refl s
  | writeConsumer =>
    show CutsKept s (writeConsumer args s).state
    obtain e | ⟨i, d, -, -, e⟩ := writeConsumer_cases s args <;> rw [e]
    · exact .refl s
    · exact cutsKept_append rfl
  | enableConsumer =>
    show CutsKept s (enableConsumer args s).state
    fun_cases enableConsumer args s
    case case4 => exact cutsKept_append rfl
    all_goals exact .refl s
  | disableConsumer =>
    show CutsKept s (disableConsumer args s).state
    fun_cases disableConsumer args s
    case case4 => exact cutsKept_append rfl
    all_goals exact .refl s
  | enableZone =>
    show CutsKept s (enableZone args s).state
    fun_cases enableZone args s
    case case4 => exact cutsKept_append rfl
    all_goals exact .refl s
  | disableZone =>
    show CutsKept s (disableZone args s).state
    fun_cases disableZone args s
    case case4 => exact cutsKept_append rfl
    all_goals exact .refl s
  | writeFogCaps =>
    show CutsKept s (writeFogCaps args s).state
    fun_cases writeFogCaps args s
    · exact .refl s
    · exact fun sh hs => List.mem_append_left _ (List.mem_append_left _ hs)
  | writeProfile =>
    show CutsKept s (writeProfile args s).state
    fun_cases writeProfile args s
    case case3 =>
      show CutsKept s (loadProfile _ _ s)
      unfold loadProfile
      dsimp only
      split
      · exact cutsKept_append rfl
      · exact .refl s
    all_goals exact .refl s
  | setMode =>
    show CutsKept s (setMode args s).state
    fun_cases setMode args s
    case case3 =>
      show CutsKept s (enterMode _ s)
      unfold enterMode
      split
      · exact cutsKept_append rfl
      · exact cutsKept_append rfl
    all_goals exact .refl s
  | _ => exact .of_eq (by simp [answerOf])

theorem setProfile_cover (m : Mode) (p : Profile) (u : ModeUnit) :
    (setProfile m p u).cover1 = u.cover1 ∧ (setProfile m p u).cover2 = u.cover2 := by
  cases m <;> exact ⟨rfl, rfl⟩

/-- R163, R164: the Mode Unit's own requests touch no cover. -/
theorem setMode_cover (sh : Sheet) : covered (setMode args s).state sh = covered s sh := by
  fun_cases setMode args s
  case case3 m _ _ =>
    show covered (enterMode m s) sh = covered s sh
    unfold enterMode
    split <;> cases sh <;> rfl
  all_goals rfl

theorem writeProfile_cover (sh : Sheet) : covered (writeProfile args s).state sh = covered s sh := by
  fun_cases writeProfile args s
  case case3 m _ p _ _ =>
    show covered (loadProfile m p s) sh = covered s sh
    obtain ⟨one, two⟩ := setProfile_cover m p s.mode
    unfold loadProfile
    dsimp only
    split
    all_goals cases sh
    · exact one
    · exact two
    · exact one
    · exact two
  all_goals rfl

theorem writeGroup_dark {sh : Sheet} (h : SheetDark sh s) : SheetDark sh (writeGroup args s).state := by
  obtain e | ⟨i, d, -, -, e⟩ := writeGroup_cases s args <;> rw [e]
  · exact h
  · exact (h.dropCommands _).setIdle (by simp [clearedGroup])

theorem enableGroup_dark {sh : Sheet} (uncovered : covered s sh = false) (fog : fogOf s sh ≠ .clear)
    (h : SheetDark sh s) : SheetDark sh (enableGroup args s).state := by
  fun_cases enableGroup args s
  case case4 i _ _ => exact h.admitGroup uncovered fog i _
  all_goals exact h

theorem disableGroup_dark {sh : Sheet} (h : SheetDark sh s) : SheetDark sh (disableGroup args s).state := by
  fun_cases disableGroup args s
  case case4 => exact h.setIdle (by simp [disabledGroup])
  all_goals exact h

/-- R17: a request that only drops commands for other addresses leaves the sheets. -/
theorem hazeKept_of_dropped {t : State} (gone : List ActAddr) (fog : t.fog = s.fog) (mode : t.mode = s.mode)
    (scene : t.scene = s.scene) (line : t.line = (dropCommands gone s).line) (cuts : CutsKept s t) : HazeKept s t :=
  .of_eq fog mode cuts fun _ _ _ h => (h.dropCommands gone).congr (by rw [scene]; rfl) fun a v => by rw [line]; exact id

theorem writeConsumer_hazeKept : HazeKept s (writeConsumer args s).state := by
  have cuts := answerOf_cutsKept (s := s) args (r := .writeConsumer) rfl
  obtain e | ⟨i, d, -, -, e⟩ := writeConsumer_cases s args
  · rw [e]
    exact .refl s
  · rw [answerOf, e] at cuts
    rw [e]
    exact hazeKept_of_dropped _ rfl rfl rfl rfl cuts

theorem writeZone_hazeKept : HazeKept s (writeZone args s).state := by
  obtain e | ⟨i, d, -, -, e⟩ := writeZone_cases s args <;> rw [e]
  · exact .refl s
  · exact hazeKept_of_dropped _ rfl rfl rfl rfl (.refl s)

/-- A part of a command that touches the Mode Unit beside the covers. -/
theorem HazeKept.ofCover {t : State} (fog : t.fog = s.fog) (cover : ∀ sh, covered t sh = covered s sh)
    (groups : t.scene.groups = s.scene.groups) (queue : t.line.queue = s.line.queue) (cuts : CutsKept s t) :
    HazeKept s t := fun sh => .quiet (fogOf_congr fog sh) (by rw [fog]) (cover sh) groups queue cuts

/-- R79, R96: the tables stand beside the sheets. -/
theorem loadDewTable_hazeKept : HazeKept s (loadDewTable args s).state := by
  fun_cases loadDewTable args s
  case case4 => exact fun sh => by cases sh <;> exact .quiet rfl rfl rfl rfl rfl (.refl s)
  all_goals exact .refl s

theorem writeFogCaps_hazeKept : HazeKept s (writeFogCaps args s).state := by
  have cuts := answerOf_cutsKept (s := s) args (r := .writeFogCaps) rfl
  rw [answerOf] at cuts
  fun_cases writeFogCaps args s
  case case1 => exact .refl s
  case case2 t h =>
    rw [writeFogCaps, h] at cuts
    exact fun sh => by cases sh <;> exact .quiet rfl rfl rfl rfl rfl cuts

theorem readStatus_queue : (readStatus args s).state.line.queue = s.line.queue := by
  unfold readStatus
  dsimp only
  split
  · rfl
  · rw [doneWith_state, (clearCause_frame _).1]
  · rfl

theorem writeRights_queue : (writeRights args s).state.line.queue = s.line.queue := by
  fun_cases writeRights args s
  all_goals rfl

/-- Every request but those on sheets keeps the sheets. -/
theorem answerOf_hazeKept {r : Req} (hr : isSheetRequest r = false) : HazeKept s (answerOf r args s).state := by
  have cuts := answerOf_cutsKept (s := s) args hr
  cases hb : isBufferRequest r with
  | true =>
    have groups := (answerOf_buffersKept s args hb).groups
    cases r with
    | configureBuffer | lockBuffer | unlockBuffer | writeScene | commit | enableBuffer | disableBuffer
    | setStepPeriod => exact .quiet (by simp [answerOf]) (by simp [answerOf]) groups (by simp [answerOf]) cuts
    | _ => cases hb
  | false =>
    cases r with
    | configureBuffer | lockBuffer | unlockBuffer | writeScene | commit | enableBuffer | disableBuffer
    | setStepPeriod => cases hb
    | writeSheet | enableFog | disableFog | coverSheet | uncoverSheet => cases hr
    | setMode => exact .ofCover (by simp [answerOf]) (setMode_cover args) (by simp [answerOf]) (by simp [answerOf]) cuts
    | writeProfile =>
      exact .ofCover (by simp [answerOf]) (writeProfile_cover args) (by simp [answerOf]) (by simp [answerOf]) cuts
    | writeConsumer => exact writeConsumer_hazeKept args
    | writeZone => exact writeZone_hazeKept args
    | writeGroup => exact .of_eq (by simp [answerOf]) (by simp [answerOf]) cuts fun _ _ _ => writeGroup_dark args
    | enableGroup => exact .of_eq (by simp [answerOf]) (by simp [answerOf]) cuts fun _ => enableGroup_dark args
    | disableGroup => exact .of_eq (by simp [answerOf]) (by simp [answerOf]) cuts fun _ _ _ => disableGroup_dark args
    | loadDewTable => exact loadDewTable_hazeKept args
    | writeFogCaps => exact writeFogCaps_hazeKept args
    | readStatus =>
      exact .quiet (by simp [answerOf]) (by simp [answerOf]) (by simp [answerOf]) (readStatus_queue args) cuts
    | writeRights =>
      exact .quiet (by simp [answerOf]) (by simp [answerOf]) (by simp [answerOf]) (writeRights_queue args) cuts
    | _ => exact .quiet (by simp [answerOf]) (by simp [answerOf]) (by simp [answerOf]) (by simp [answerOf]) cuts

theorem SheetsSound.answerOf (h : SheetsSound s) (r : Req) : SheetsSound (answerOf r args s).state := by
  cases hr : isSheetRequest r with
  | false => exact (answerOf_hazeKept args hr).sheetsSound h
  | true =>
    cases r with
    | writeSheet => exact h.writeSheet args
    | enableFog => exact h.enableFog args
    | disableFog => exact h.disableFog args
    | coverSheet => exact h.coverSheet args
    | uncoverSheet => exact h.uncoverSheet args
    | _ => cases hr

end

end Sys2Proof.Machine
end

section
/-! SUPPORT. The haze under the events, the arrival of a frame, RESTART and the arbiter (R15, R94, R99, R154, R155). -/

namespace Sys2Proof.Machine

section
variable {s t : State}

/-- A part of a command that leaves the groups and queues no command. -/
theorem HazeKept.unlit (fog : t.fog = s.fog) (mode : t.mode = s.mode) (groups : t.scene.groups = s.scene.groups)
    (cuts : CutsKept s t) (queue : ∀ a v, .actuator a v ∈ t.line.queue → .actuator a v ∈ s.line.queue) :
    HazeKept s t := .of_eq fog mode cuts fun _ _ _ h => h.congr groups queue

/-- A reply, a BUSY reply or any other entry of the queue that is no command lights no group. -/
theorem mem_queue_entry {e : QueueEntry} (he : ∀ a v, e ≠ .actuator a v) (a : ActAddr) (v : Nat)
    (h : .actuator a v ∈ (queueEntry e s).line.queue) : .actuator a v ∈ s.line.queue :=
  (List.mem_append.1 h).resolve_right fun new => he a v (List.mem_singleton.1 new).symm

/-- A part of a command that touches neither the groups, nor what is pending for them, nor what is handed. -/
theorem HazeKept.plain (fog : t.fog = s.fog) (mode : t.mode = s.mode) (groups : t.scene.groups = s.scene.groups)
    (queue : t.line.queue = s.line.queue) (handed : t.handed = s.handed) : HazeKept s t :=
  .quiet fog mode groups queue (.of_eq handed)

theorem SheetsSound.plain (h : SheetsSound s) (fog : t.fog = s.fog) (mode : t.mode = s.mode)
    (groups : t.scene.groups = s.scene.groups) (queue : t.line.queue = s.line.queue) (handed : t.handed = s.handed) :
    SheetsSound t := (HazeKept.plain fog mode groups queue handed).sheetsSound h

theorem queueEntry_hazeKept (e : QueueEntry) (he : ∀ a v, e ≠ .actuator a v) : HazeKept s (queueEntry e s) :=
  .unlit rfl rfl rfl (.refl s) (mem_queue_entry he)

theorem setSlot_hazeKept (slot : SlotIx) (v : SlotState) (s : State) : HazeKept s (setSlot slot v s) :=
  .plain (by simp) (by simp) (by simp) (by simp) (by simp)

theorem placeReply_hazeKept (slot : SlotIx) (dest : Nat) (p : List Byte) (restart : Bool) (s : State) :
    HazeKept s (placeReply slot dest p restart s) :=
  (queueEntry_hazeKept (.reply slot dest p restart) nofun).trans (setSlot_hazeKept slot .replying _)

theorem takeHanded_hazeKept (e : Instr) (he : ∀ sh, e ≠ .hazeCut sh) (s : State) : HazeKept s (takeHanded e s) :=
  .quiet rfl rfl rfl rfl (takeHanded_cutsKept he s)

/-! ### Events -/

/-- R166: a wake changes the mode in force and no cover. -/
theorem takeReport_hazeKept (i : PointIx) (v : Int) (s : State) : HazeKept s (takeReport i v s) := by
  refine .ofCover (by simp) (fun sh => ?_) (by simp) (by simp) (takeReport_cutsKept s i v)
  unfold takeReport
  split <;> cases sh <;> rfl

theorem silenceExpiry_cutsKept (s : State) : CutsKept s (silenceExpiry s) := by
  fun_cases silenceExpiry s
  case case1 => exact cutsKept_append rfl
  all_goals exact .refl s

/-- Line Out's queue is touched by no event of the line but the arrival of a frame and the completion of a sending. -/
theorem event_queue {c : Instr} {f : State → State} (he : Event c f) (hc : isLineEvent c = true)
    (ha : ∀ bytes, c ≠ .frameArrival bytes) (hl : c ≠ .lineOutSendComplete) : (f s).line.queue = s.line.queue := by
  cases he with
  | frameArrival bytes => exact absurd rfl (ha bytes)
  | lineOutSendComplete => exact absurd rfl hl
  | silenceTimerExpiry =>
    unfold silenceExpiry
    split <;> rfl
  | wakeTimerExpiry =>
    unfold wakeExpiry
    split <;> rfl
  | statusPeriodExpiry =>
    unfold statusPeriod
    split
    · rfl
    · dsimp only
      split <;> rfl
  | _ => cases hc

theorem recomputeElectric_hazeKept (index : IndexSound s) : HazeKept s (recomputeElectric s) :=
  (recomputeElectric_spared s).hazeKept index (by simp) (by simp) (recomputeElectric_cutsKept s)

theorem updateLoad_hazeKept (load : Nat) (s : State) (index : IndexSound s) : HazeKept s (updateLoad load s) := by
  unfold updateLoad
  exact HazeKept.trans (t := { s with budget.load := load }) (.plain rfl rfl rfl rfl rfl)
    (recomputeElectric_hazeKept index)

/-- R155: a taken haze cut darkens its sheet; the other sheet stays dark, or its own cut stays handed. -/
theorem SheetsSound.takeCut (h : SheetsSound s) (sh : Sheet) :
    SheetsSound (cutHaze sh (takeHanded (.hazeCut sh) s)) := by
  refine fun x => ⟨?_, ?_, ?_⟩
  · rw [covered_congr (s := s) (by simp), fogOf_congr (s := s) (by simp)]
    exact (h x).coveredClear
  · have record : (cutHaze sh (takeHanded (.hazeCut sh) s)).fog = s.fog := by simp
    rw [fogOf_congr record, record]
    exact (h x).idleClear
  · rw [covered_congr (s := s) (by simp), fogOf_congr (s := s) (by simp)]
    intro uncovered fog
    rcases Classical.em (x = sh) with rfl | other
    · exact .inr (cutHaze_sheetDark x _)
    · refine ((h x).dark uncovered fog).imp (fun hx => ?_) fun dark => SheetDark.cutHaze (s := takeHanded _ s) dark sh
      have kept : Instr.hazeCut x ∈ s.handed.erase (.hazeCut sh) :=
        (List.mem_erase_of_ne (by simpa using other)).2 hx
      unfold cutHaze reportLoad
      simp [kept]

/-- R136, R150: a step start leaves the sheets, and so does a search it completes at once. -/
theorem startStep_hazeKept (index : IndexSound s) : HazeKept s (startStep s) := by
  have begun : HazeKept s (stepBegun s) :=
    .quiet (by simp) (by simp) (by simp) (by simp) (stepBegun_cutsKept s)
  have index' : IndexSound (stepBegun s) :=
    (OwnersKept.of_eq (by simp) (by simp) (by simp) (by simp)).indexSound index
  obtain e | ⟨step, e⟩ := startStep_cases s <;> rw [e]
  · exact begun
  · exact begun.trans (.of_eq (by simp) (by simp) (finishSearch_cutsKept _ step) fun _ uncovered fog dark =>
      dark.finishSearch index' uncovered fog step)

theorem completeSearch_hazeKept (index : IndexSound s) : HazeKept s (completeSearch s) := by
  refine .of_eq (by simp) (by simp) (completeSearch_cutsKept s) fun _ uncovered fog dark => ?_
  unfold completeSearch
  split
  · exact dark
  · exact dark.finishSearch index uncovered fog _

/-- Every event but the arrival of a frame and the completion of a sending leaves the sheets sound. -/
theorem SheetsSound.event (h : SheetsSound s) (index : IndexSound s) (marks : MarksSound s.budget) {c : Instr}
    {f : State → State} (he : Event c f) (ha : ∀ bytes, c ≠ .frameArrival bytes) (hl : c ≠ .lineOutSendComplete) :
    SheetsSound (f s) := by
  have queue := event_queue (s := s) he
  cases he with
  | frameArrival bytes => exact absurd rfl (ha bytes)
  | lineOutSendComplete => exact absurd rfl hl
  | fogPeriodExpiry => exact h.fogPeriod
  | recoverTimerExpiry => exact h.recoverExpiry
  | hazeCut sheet => exact h.takeCut sheet
  | valueReport i v =>
    exact ((takeHanded_hazeKept (.valueReport i v) nofun s).trans (takeReport_hazeKept i v _)).sheetsSound h
  | silenceTimerExpiry =>
    exact (HazeKept.quiet (by simp) (by simp) (by simp) (queue rfl nofun nofun)
      (silenceExpiry_cutsKept s)).sheetsSound h
  | wakeTimerExpiry =>
    exact h.plain (by simp) (by simp) (by simp) (queue rfl nofun nofun) (by simp)
  | statusPeriodExpiry =>
    exact h.plain (by simp) (by simp) (by simp) (queue rfl nofun nofun) (by simp)
  | staleTimerExpiry i =>
    exact (HazeKept.quiet (by simp) (by simp) (by simp) (by simp) (staleExpiry_cutsKept s i)).sheetsSound h
  | settleTimerExpiry i =>
    exact (HazeKept.quiet (by simp) (by simp) (by simp) (by simp) (settleExpiry_cutsKept s i)).sheetsSound h
  | allocationPeriodExpiry =>
    exact h.plain (by simp) (by simp) (by simp) (by simp) (by simp)
  | reallocationRequest =>
    exact ((takeHanded_hazeKept .reallocationRequest nofun s).trans
      (.plain (by simp) (by simp) (by simp) (by simp) (by simp))).sheetsSound h
  | allocationCompletion =>
    exact ((completeAllocation_spared s marks).hazeKept index (by simp) (by simp)
      (completeAllocation_cutsKept s)).sheetsSound h
  | electricRecompute =>
    exact ((takeHanded_hazeKept .electricRecompute nofun s).trans
      (recomputeElectric_hazeKept (s := takeHanded _ s) index)).sheetsSound h
  | lightingLoadUpdate load =>
    exact ((takeHanded_hazeKept (.lightingLoadUpdate load) nofun s).trans
      (updateLoad_hazeKept load _ index)).sheetsSound h
  | capHanding sheet caps =>
    exact ((takeHanded_hazeKept (.capHanding sheet caps) nofun s).trans
      ((applyCaps_spared _ sheet caps).hazeKept index (by simp) (by simp) (.of_eq (by simp)))).sheetsSound h
  | stepStart => exact (startStep_hazeKept index).sheetsSound h
  | searchCompletion => exact (completeSearch_hazeKept index).sheetsSound h
  | transferCompletion =>
    exact (HazeKept.quiet (by simp) (by simp) (completeTransfer_buffersKept s).groups (by simp)
      (completeTransfer_cutsKept s)).sheetsSound h
  | noticeOffer kind subject value =>
    exact ((takeHanded_hazeKept (.noticeOffer kind subject value) nofun s).sheetsSound h).plain rfl rfl rfl rfl rfl
  | secondsTick => exact h.plain rfl rfl rfl rfl rfl

/-! ### The arrival of a frame -/

theorem lineActivity_hazeKept (s : State) : HazeKept s (lineActivity s) := by
  unfold lineActivity
  split
  · exact .quiet rfl rfl rfl rfl (.refl s)
  · exact .quiet rfl rfl rfl rfl (cutsKept_append rfl)

theorem overrun_hazeKept (s : State) : HazeKept s (overrun s) := by
  unfold overrun
  dsimp only
  split
  · exact .quiet rfl rfl rfl rfl (cutsKept_append rfl)
  · exact .quiet rfl rfl rfl rfl (.refl s)

theorem stageRequest_hazeKept (slot : SlotIx) (source : Nat) (payload : List Byte) (r : Req) (s : State) :
    HazeKept s (stageRequest slot source payload r s) := by
  unfold stageRequest
  refine .quiet (by simp) (by simp) (by simp) (by simp) (cutsKept_append (es := [takeCommand r slot]) ?_)
  simp

theorem sheetsSound_arrival : KeptByArrival SheetsSound where
  error _ h := h.plain rfl rfl rfl rfl rfl
  activity s := (lineActivity_hazeKept s).sheetsSound
  node _ _ _ _ h := h.plain rfl rfl rfl rfl rfl
  overrun s := (overrun_hazeKept s).sheetsSound
  forward _ _ _ h := h.plain rfl rfl rfl rfl rfl
  samples source payload s :=
    (HazeKept.quiet (by simp) (by simp) (by simp) (by simp) (sampleEntries_cutsKept s source payload)).sheetsSound
  entries _ _ _ _ h := h.plain (by simp) (by simp) (by simp) (by simp) (by simp)
  offered source payload s h := offerRequest_keeps
    (fun p _ => (queueEntry_hazeKept (.busy source p) nofun).sheetsSound h)
    (h.plain rfl rfl rfl rfl rfl)
    (fun slot p _ => (placeReply_hazeKept slot source p false s).sheetsSound h)
    (fun slot r _ => (stageRequest_hazeKept slot source payload r s).sheetsSound h)

/-! ### RESTART (R99) -/

theorem restartCaps_spared (sh : Sheet) (s : State) : DimmersSpared s (restartCaps sh s) := applyCaps_spared s sh _

theorem restartCut_ownersKept (sh : Sheet) (s : State) : OwnersKept s (restartCut sh s) := by
  unfold restartCut
  split
  · exact cutHaze_ownersKept s sh
  · exact .refl s

theorem restartCut_fog (sh : Sheet) (s : State) : (restartCut sh s).fog = s.fog := by
  unfold restartCut
  split <;> simp

theorem restartCut_mode (sh : Sheet) (s : State) : (restartCut sh s).mode = s.mode := by
  unfold restartCut
  split <;> simp

theorem SheetDark.restartCut {x : Sheet} (h : SheetDark x s) (sh : Sheet) : SheetDark x (restartCut sh s) := by
  unfold Machine.restartCut
  split
  · exact h.cutHaze sh
  · exact h

theorem restartCut_sheetDark {sh : Sheet} (enabled : (sheetRec s.fog sh).state = .enabled)
    (uncovered : covered s sh = false) : SheetDark sh (restartCut sh s) := by
  unfold restartCut
  rw [if_pos ⟨enabled, by rw [uncovered]; rfl⟩]
  exact cutHaze_sheetDark sh s

/-- The state RESTART's haze cuts start from. -/
def restartCapped (s : State) : State := restartCaps .two (restartCaps .one (checkTransfers (restartedBlocks s)))

theorem restartCapped_fog (s : State) : (restartCapped s).fog = restartedFog s.mode s.fog := by
  simp [restartCapped, restartCaps, restartedBlocks]

theorem restartCapped_mode (s : State) : (restartCapped s).mode = s.mode := by
  simp [restartCapped, restartCaps, restartedBlocks]

theorem restartCapped_indexSound (index : IndexSound s) : IndexSound (restartCapped s) := by
  have checked : OwnersKept (restartedBlocks s) (checkTransfers (restartedBlocks s)) :=
    .of_eq (by simp) (by simp) (by simp) (checkTransfers_buffersKept _).groups
  exact ((restartedBlocks_ownersKept s).trans (checked.trans ((restartCaps_spared .one _).owners.trans
    (restartCaps_spared .two _).owners))).indexSound index

theorem restartEffect_fog (s : State) : (restartEffect s).fog = restartedFog s.mode s.fog := by
  simp [restartEffect, restartCaps, restartedBlocks]

theorem sheetRec_restartedFog (s : State) (sh : Sheet) :
    sheetRec (restartedFog s.mode s.fog) sh = restartedSheet (covered s sh) (sheetRec s.fog sh) := by
  cases sh <;> rfl

theorem restartedSheet_cases (cover : Bool) (r : SheetRec) :
    (restartedSheet cover r).fog = .clear ∨ (restartedSheet cover r).state = .enabled ∧ cover = false := by
  unfold restartedSheet
  dsimp only
  split
  · next enabled =>
    cases cover
    · exact .inr ⟨enabled, rfl⟩
    · exact .inl rfl
  · exact .inl rfl

/-- R99: RESTART leaves a sheet in CLEAR, or cuts its haze. -/
theorem restartEffect_sheetsSound (index : IndexSound s) : SheetsSound (restartEffect s) := by
  intro sh
  have fog : fogOf (restartEffect s) sh = fogOf (restartCapped s) sh :=
    fogOf_congr (by rw [restartEffect_fog, restartCapped_fog]) sh
  have choice := restartedSheet_cases (covered s sh) (sheetRec s.fog sh)
  rw [← sheetRec_restartedFog, ← restartCapped_fog] at choice
  obtain clear | ⟨enabled, cover⟩ := choice
  · exact sheetSound_of_clear (fog.trans clear)
  · have uncovered : covered (restartCapped s) sh = false := by
      rw [covered_congr (s := s) (restartCapped_mode s), cover]
    have cutDark : SheetDark sh (restartCut .two (restartCut .one (restartCapped s))) := by
      cases sh with
      | one => exact (restartCut_sheetDark enabled uncovered).restartCut .two
      | two =>
        refine restartCut_sheetDark ?_ ?_
        · rw [restartCut_fog]
          exact enabled
        · rw [covered_congr (restartCut_mode .one _)]
          exact uncovered
    have index' := ((restartCut_ownersKept .one _).trans (restartCut_ownersKept .two _)).indexSound
      (restartCapped_indexSound index)
    refine ⟨fun hc => ?_, fun idle => ?_, fun _ _ => .inr ?_⟩
    · have mode : (restartEffect s).mode = (restartCapped s).mode :=
        (restartEffect_mode s).trans (restartCapped_mode s).symm
      rw [covered_congr mode, uncovered] at hc
      cases hc
    · rw [restartEffect_fog, ← restartCapped_fog] at idle
      exact absurd enabled idle
    · exact (recomputeElectricSilently_spared _).dark index' cutDark

theorem completeSending_sheetsSound (index : IndexSound s) (h : SheetsSound s) : SheetsSound (completeSending s) := by
  have freed (slot : SlotIx) : HazeKept s (setSlot slot .free { s with line.sending := none }) :=
    .plain (by simp) (by simp) (by simp) (by simp) (by simp)
  refine completeSending_keeps h (fun _ => h.plain rfl rfl rfl rfl rfl)
    (fun _ slot _ _ => (freed slot).sheetsSound h) fun slot => restartEffect_sheetsSound ?_
  exact (OwnersKept.of_eq (by simp) (by simp) (by simp) (by simp)).indexSound index

/-! ### Time and the arbiter -/

theorem tickMs_hazeKept (s : State) : HazeKept s (tickMs s) := fun sh => by
  cases sh <;> exact .quiet rfl rfl rfl rfl rfl (.refl s)

/-- R15: the arbiter takes entries off the queue alone. -/
theorem arbitrate_queue (s : State) {e : QueueEntry} (h : e ∈ (arbitrate s).line.queue) : e ∈ s.line.queue := by
  revert h
  refine arbitrate_keeps (P := fun t => e ∈ t.line.queue → e ∈ s.line.queue) id (fun _ _ _ _ _ _ => id) (fun _ => id)
    (fun first rest _ hq => ?_) (fun _ _ _ _ => id) (fun _ _ => id) fun _ => id
  rw [hq]
  cases first <;> exact List.mem_cons_of_mem _

theorem arbitrate_hazeKept (s : State) : HazeKept s (arbitrate s) :=
  .unlit (by simp) (by simp) (by simp) (.of_eq (by simp)) fun _ _ => arbitrate_queue s

theorem takeRequest_sheetsSound (r : Req) (slot : SlotIx) (h : SheetsSound s) :
    SheetsSound (takeRequest r slot (decide (r = .restart)) (answerOf r) s) := by
  have taken : SheetsSound (takeHanded (takeCommand r slot) s) :=
    (takeHanded_hazeKept _ (takeCommand_ne_hazeCut r slot) s).sheetsSound h
  unfold takeRequest
  split
  · split
    · exact h
    · exact (placeReply_hazeKept slot _ _ _ _).sheetsSound (taken.answerOf _ r)
  · exact taken

end

/-- The haze invariant under every shape of command. -/
theorem hazeSound_kept : KeptByShape HazeSound where
  pending _ _ h := h
  powerOn := powerOn_hazeSound
  reset _ h := ⟨h.1, h.2.1, .inl rfl⟩
  tick s awake h := by
    obtain ⟨index, marks, held | sheets⟩ := hazeSound_iff.1 h
    · rw [awake] at held
      cases held
    · exact hazeSound_iff.2 ⟨indexSound_kept.tick s index, marksSound_kept.tick s marks,
        .inr ((tickMs_hazeKept s).sheetsSound sheets)⟩
  choice s h := by
    obtain ⟨index, marks, sound⟩ := hazeSound_iff.1 h
    refine hazeSound_iff.2 ⟨indexSound_kept.choice s index, marksSound_kept.choice s marks, sound.imp (fun held => ?_)
      (arbitrate_hazeKept s).sheetsSound⟩
    exact (arbitrate_line s).1.trans held
  event c f s he awake h := by
    obtain ⟨index, marks, held | sheets⟩ := hazeSound_iff.1 h
    · rw [awake] at held
      cases held
    · refine hazeSound_iff.2 ⟨indexSound_kept.keptByShape.event c f s he awake index,
        marksSound_kept.keptByShape.event c f s he awake marks, .inr ?_⟩
      rcases Classical.em (∃ bytes, c = .frameArrival bytes) with ⟨bytes, rfl⟩ | arrival
      · cases he
        exact sheetsSound_arrival.of_arrive bytes s sheets
      · rcases Classical.em (c = .lineOutSendComplete) with rfl | completion
        · cases he
          exact completeSending_sheetsSound index sheets
        · exact sheets.event index marks he (fun bytes e => arrival ⟨bytes, e⟩) completion
  request r slot s awake h := by
    obtain ⟨index, marks, held | sheets⟩ := hazeSound_iff.1 h
    · rw [awake] at held
      cases held
    · exact hazeSound_iff.2 ⟨indexSound_kept.keptByShape.request r slot s awake index,
        marksSound_kept.keptByShape.request r slot s awake marks, .inr (takeRequest_sheetsSound r slot sheets)⟩

end Sys2Proof.Machine
end

section
/-! THEOREMS. The haze under every step. -/

namespace Sys2Proof.Machine

/-- Settles O60: the sheets are sound in the state each shape of command leaves. -/
theorem stepKeepsTheSheetsDark : Obligations.StepKeepsTheSheetsDark := fun _ _ h hstep =>
  hazeSound_kept.of_step hstep h

end Sys2Proof.Machine
end

section
/-! SUPPORT. The enabling and disabling of the fog monitor (R82, R83). -/

namespace Sys2Proof.Machine

theorem sheetOf_sheetNumber (sh : Sheet) : sheetOf (sheetNumber sh) = some sh := by
  cases sh <;> rfl

theorem sheetOf_of_ne {n : Nat} (one : n ≠ 1) (two : n ≠ 2) : sheetOf n = none := by
  unfold sheetOf
  split <;> simp_all

/-- What is handed stands beside the sheet records. -/
theorem setSheet_from_handed (sh : Sheet) (r : SheetRec) (l l' : List Instr) (s : State) :
    { setSheet sh r { s with handed := l } with handed := l' } = { setSheet sh r s with handed := l' } := by
  cases sh <;> rfl

section
variable {s : State} {sh : Sheet}

/-- R82: a sheet found in CLEAR starts in CLEAR where it is covered, and moves to WATCH where it is not. -/
theorem startFog_eq (clear : fogOf s sh = .clear) : startFog sh s =
    { setSheet sh { sheetRec s.fog sh with
        state := .enabled, fog := if covered s sh then .clear else .watch
        fogTimer := some ((sheetRec s.fog sh).defn.fogPeriod * 1000) } s with
      handed := s.handed ++ (if covered s sh then [] else
        [.noticeOffer .fogState (sheetNumber sh) 1, .capHanding sh s.fog.caps.watch, .hazeCut sh]) ++
        [.reallocationRequest] } := by
  have cover (r : SheetRec) : covered (setSheet sh r s) sh = covered s sh := covered_congr (by simp) sh
  have fog : (sheetRec s.fog sh).fog = .clear := clear
  unfold startFog
  dsimp only
  rw [cover]
  cases covered s sh
  · rw [if_neg Bool.false_ne_true, if_neg Bool.false_ne_true, if_neg Bool.false_ne_true, fogTransition_eq]
    simp [fogOf, fog, transitionHandings, fogNoticeValue, fogCode, capsOf, hand]
  · rw [if_pos rfl, if_pos rfl, if_pos rfl, ← fog]
    simp [hand]

/-- R83: a sheet disabled moves to CLEAR out of any other state, and keeps its figures. -/
theorem stopFog_eq : stopFog sh s =
    { setSheet sh { sheetRec s.fog sh with
        state := .disabled, fog := .clear, fogTimer := none, recoverTimer := none } s with
      handed := s.handed ++ (if fogOf s sh = .clear then [] else
        [.noticeOffer .fogState (sheetNumber sh) (4 * fogCode (fogOf s sh) : Nat), .capHanding sh s.fog.caps.clear]) ++
        [.reallocationRequest] } := by
  unfold stopFog
  dsimp only
  unfold fogOf
  by_cases clear : (sheetRec s.fog sh).fog = .clear
  · rw [if_pos clear, if_pos clear, ← clear]
    simp [hand]
  · rw [if_neg clear, if_neg clear, fogTransition_eq]
    simp [fogOf, clear, transitionHandings, fogNoticeValue, capsOf, hand, fogCode]

end

/-! ### The requests -/

section
variable {s : State} {sh : Sheet} {args : List Byte} (hi : byteAt args 0 = sheetNumber sh)
include hi

theorem enableFog_unused (h : (sheetRec s.fog sh).state = .unused) : enableFog args s = refuse .state s := by
  rw [enableFog, hi, sheetOf_sheetNumber]
  dsimp only
  rw [h]

theorem enableFog_enabled (h : (sheetRec s.fog sh).state = .enabled) : enableFog args s = done s := by
  rw [enableFog, hi, sheetOf_sheetNumber]
  dsimp only
  rw [h]

theorem enableFog_disabled (h : (sheetRec s.fog sh).state = .disabled) :
    enableFog args s = if dewValid s.fog then done (startFog sh s) else refuse .state s := by
  rw [enableFog, hi, sheetOf_sheetNumber]
  dsimp only
  rw [h]

theorem disableFog_unused (h : (sheetRec s.fog sh).state = .unused) : disableFog args s = refuse .state s := by
  rw [disableFog, hi, sheetOf_sheetNumber]
  dsimp only
  rw [h]

theorem disableFog_disabled (h : (sheetRec s.fog sh).state = .disabled) : disableFog args s = done s := by
  rw [disableFog, hi, sheetOf_sheetNumber]
  dsimp only
  rw [h]

theorem disableFog_enabled (h : (sheetRec s.fog sh).state = .enabled) :
    disableFog args s = done (stopFog sh s) := by
  rw [disableFog, hi, sheetOf_sheetNumber]
  dsimp only
  rw [h]

end

section
variable {args : List Byte} (one : byteAt args 0 ≠ 1) (two : byteAt args 0 ≠ 2) (s : State)
include one two

theorem enableFog_noSheet : enableFog args s = refuse .range s := by
  rw [enableFog, sheetOf_of_ne one two]

theorem disableFog_noSheet : disableFog args s = refuse .range s := by
  rw [disableFog, sheetOf_of_ne one two]

end

end Sys2Proof.Machine
end

section
/-! THEOREMS. The enabling and disabling of the fog monitor. -/

namespace Sys2Proof.Machine

/-- Settles O30: each request by the state it finds the sheet in. -/
theorem fogMonitorIsEnabledAndDisabled : Obligations.FogMonitorIsEnabledAndDisabled := by
  refine ⟨fun slot q s sh h hi hs loaded clear => h.exec_eq ?_, fun slot q s sh h hi hs => h.exec_eq ?_,
    fun slot q s => ⟨fun one two => ⟨fun h => ?_, fun h => ?_⟩, fun sh hi => ⟨fun hs => ⟨fun h => ?_, fun h => ?_⟩,
      fun hs ⟨b, missing⟩ h => ?_, fun hs h => ?_, fun hs h => ?_⟩⟩⟩
  · have valid : dewValid (taken .enableFog slot s).fog = true := (dewValid_iff s.fog).2 loaded
    have started := startFog_eq (s := taken .enableFog slot s) (sh := sh) clear
    refine (enableFog_disabled (s := taken .enableFog slot s) hi hs).trans
      ((if_pos valid).trans (congrArg done (started.trans ?_)))
    exact setSheet_from_handed sh _ _ _ s
  · have stopped := stopFog_eq (s := taken .disableFog slot s) (sh := sh)
    refine (disableFog_enabled (s := taken .disableFog slot s) hi hs).trans (congrArg done (stopped.trans ?_))
    exact setSheet_from_handed sh _ _ _ s
  · exact h.answersOnly (enableFog_noSheet one two _)
  · exact h.answersOnly (disableFog_noSheet one two _)
  · exact h.answersOnly (enableFog_unused hi hs)
  · exact h.answersOnly (disableFog_unused hi hs)
  · refine h.answersOnly ((enableFog_disabled (s := taken .enableFog slot s) hi hs).trans (if_neg fun valid => ?_))
    exact absurd ((dewValid_iff s.fog).1 valid b) (by rw [missing]; exact Bool.false_ne_true)
  · exact h.answersOnly (enableFog_enabled hi hs)
  · exact h.answersOnly (disableFog_disabled hi hs)

end Sys2Proof.Machine
end

section
/-! SUPPORT. The fog period and the recover timer (R85, R86, R91 to R94). -/

namespace Sys2Proof.Machine

section
variable {s : State} {sh : Sheet}

/-- A quality that some reading has. -/
theorem anyQuality_iff {q : Quality} {rs : List Reading} : anyQuality q rs = true ↔ ∃ r ∈ rs, r.quality = q := by
  simp [anyQuality]

/-- A state that differs in one sheet record and in what is handed. -/
theorem setSheet_handed_eq (r : SheetRec) (l : List Instr) : { setSheet sh r s with handed := l } =
    { s with fog := (setSheet sh r s).fog, handed := l } := by
  cases sh <;> rfl

/-- Such a state, part by part. -/
theorem setSheet_parts {t : State} {r : SheetRec} {l : List Instr} (h : t = { setSheet sh r s with handed := l }) :
    sheetRec t.fog sh = r ∧ (∀ other, other ≠ sh → sheetRec t.fog other = sheetRec s.fog other) ∧
      t.fog.dew = s.fog.dew ∧ t.fog.loaded = s.fog.loaded ∧ t.fog.caps = s.fog.caps ∧ t.handed = l ∧
      t = { s with fog := t.fog, handed := l } := by
  subst h
  obtain ⟨dew, loaded, caps⟩ := setSheet_tables s sh r
  exact ⟨sheetRec_setSheet s sh r, fun other ho => sheetRec_setSheet_other s ho r, dew, loaded, caps, rfl,
    setSheet_handed_eq r l⟩

/-- Replacing a sheet record by itself. -/
theorem setSheet_same : setSheet sh (sheetRec s.fog sh) s = s := by
  cases sh <;> rfl

/-- The readings and the covers stand beside the sheet records. -/
theorem mainReadings_setSheet (r : SheetRec) (d : SheetDef) : mainReadings (setSheet sh r s) d = mainReadings s d := by
  cases sh <;> rfl

theorem covered_setSheet (r : SheetRec) (other : Sheet) : covered (setSheet sh r s) other = covered s other :=
  covered_congr (by simp) other

/-! ### The fog period (R85) -/

/-- R85: the record with its fog period timer running on. -/
def timedSheet (r : SheetRec) : SheetRec := { r with fogTimer := some (r.defn.fogPeriod * 1000) }

section
variable (enabled : (sheetRec s.fog sh).state = .enabled) (running : (sheetRec s.fog sh).fogTimer ≠ none)
include enabled running

theorem fogPeriod_running : fogPeriod sh s =
    let t := setSheet sh (timedSheet (sheetRec s.fog sh)) s
    if covered t sh then t else computeFog sh t := by
  unfold fogPeriod
  dsimp only
  split
  · rfl
  · next stopped => exact absurd stopped running
  all_goals
    next idle =>
      rw [enabled] at idle
      cases idle

theorem fogPeriod_covered (cover : covered s sh = true) :
    fogPeriod sh s = setSheet sh (timedSheet (sheetRec s.fog sh)) s := by
  rw [fogPeriod_running enabled running]
  dsimp only
  rw [covered_setSheet, if_pos cover]

theorem fogPeriod_uncovered (uncovered : covered s sh = false) :
    fogPeriod sh s = computeFog sh (setSheet sh (timedSheet (sheetRec s.fog sh)) s) := by
  rw [fogPeriod_running enabled running]
  dsimp only
  rw [covered_setSheet, uncovered]
  rfl

end

/-! ### A lost input (R86) -/

theorem computeFog_lost (h : ∃ r ∈ mainReadings s (sheetRec s.fog sh).defn, r.quality = .none) :
    computeFog sh s = loseInput sh s := by
  unfold computeFog
  dsimp only
  rw [if_pos (anyQuality_iff.2 h)]

/-- R86: a lost input keeps the figures, and moves CLEAR alone. -/
theorem loseInput_eq : loseInput sh s =
    { setSheet sh { sheetRec s.fog sh with
        inputLost := true, degraded := false
        fog := if fogOf s sh = .clear then .watch else fogOf s sh } s with
      handed := s.handed ++ if fogOf s sh = .clear then
        [.noticeOffer .fogState (sheetNumber sh) 1, .capHanding sh s.fog.caps.watch, .hazeCut sh,
          .reallocationRequest] else [] } := by
  unfold loseInput fogOf
  dsimp only
  by_cases clear : (sheetRec s.fog sh).fog = .clear
  · rw [if_pos clear, if_pos clear, if_pos clear, fogTransitionAlone_eq]
    simp [fogOf, clear, transitionHandings, fogNoticeValue, fogCode, capsOf]
  · rw [if_neg clear, if_neg clear, if_neg clear, List.append_nil, ← setSheet_handed]

/-- R85, R86: the whole expiry that finds an input lost. -/
theorem fogPeriod_lost (enabled : (sheetRec s.fog sh).state = .enabled)
    (running : (sheetRec s.fog sh).fogTimer ≠ none) (uncovered : covered s sh = false)
    (lost : ∃ r ∈ mainReadings s (sheetRec s.fog sh).defn, r.quality = .none) : fogPeriod sh s =
    { setSheet sh { sheetRec s.fog sh with
        inputLost := true, degraded := false
        fogTimer := some ((sheetRec s.fog sh).defn.fogPeriod * 1000)
        fog := if fogOf s sh = .clear then .watch else fogOf s sh } s with
      handed := s.handed ++ if fogOf s sh = .clear then
        [.noticeOffer .fogState (sheetNumber sh) 1, .capHanding sh s.fog.caps.watch, .hazeCut sh,
          .reallocationRequest] else [] } := by
  have lost' (r : SheetRec) (hr : r.defn = (sheetRec s.fog sh).defn) :
      ∃ m ∈ mainReadings (setSheet sh r s) (sheetRec (setSheet sh r s).fog sh).defn, m.quality = .none := by
    rw [sheetRec_setSheet, mainReadings_setSheet, hr]
    exact lost
  rw [fogPeriod_uncovered enabled running uncovered, computeFog_lost (lost' (timedSheet _) rfl), loseInput_eq,
    setSheet_setSheet, sheetRec_setSheet, fogOf, sheetRec_setSheet, setSheet_handed, setSheet_caps]
  rfl

/-! ### The recover timer (R92) -/

theorem recoverExpiry_eq (running : (sheetRec s.fog sh).recoverTimer ≠ none) (recover : fogOf s sh = .recover) :
    recoverExpiry sh s =
      { setSheet sh { sheetRec s.fog sh with recoverTimer := none, fog := .clear } s with
        handed := s.handed ++ [.noticeOffer .fogState (sheetNumber sh) 12, .capHanding sh s.fog.caps.clear,
          .reallocationRequest] } := by
  obtain ⟨n, timer⟩ := Option.ne_none_iff_exists'.1 running
  have fog : (sheetRec s.fog sh).fog = .recover := recover
  unfold recoverExpiry
  dsimp only
  rw [timer]
  dsimp only
  rw [if_pos fog, fogTransitionAlone_eq]
  simp [fogOf, fog, transitionHandings, fogNoticeValue, fogCode, capsOf]

/-! ### The evaluation (R91) -/

theorem computeFog_read (h : ∀ r ∈ mainReadings s (sheetRec s.fog sh).defn, r.quality ≠ .none) :
    computeFog sh s = evaluateFog sh (setSheet sh (computedSheet s (sheetRec s.fog sh)) s) := by
  unfold computeFog
  dsimp only
  refine if_neg fun lost => ?_
  obtain ⟨r, hr, none⟩ := anyQuality_iff.1 lost
  exact h r hr none

theorem recoverTimerAfter_eq (r : SheetRec) (entered : FogState) : recoverTimerAfter r entered =
    if r.fog = .fog ∧ entered = .recover then some (r.defn.recoverTime * 1000)
    else if r.fog = .recover ∧ entered = .fog then none
    else r.recoverTimer := by
  unfold recoverTimerAfter
  split <;> simp_all

/-- The record of a sheet after its evaluation. -/
def evaluatedSheet (r : SheetRec) : SheetRec :=
  { r with fog := evaluatedFog r, recoverTimer := recoverTimerAfter r (evaluatedFog r) }

/-- An evaluation that finds its state changes nothing of the record. -/
theorem evaluatedSheet_same {r : SheetRec} (h : evaluatedFog r = r.fog) : evaluatedSheet r = r := by
  have timer : recoverTimerAfter r r.fog = r.recoverTimer := by
    rw [recoverTimerAfter_eq]
    cases r.fog <;> simp
  unfold evaluatedSheet
  rw [h, timer]

theorem evaluateFog_eq : evaluateFog sh s =
    { setSheet sh (evaluatedSheet (sheetRec s.fog sh)) s with
      handed := s.handed ++ if evaluatedFog (sheetRec s.fog sh) = fogOf s sh then [] else
        transitionHandings s.fog.caps sh (fogOf s sh) (evaluatedFog (sheetRec s.fog sh)) ++
          [.reallocationRequest] } := by
  unfold evaluateFog fogOf
  dsimp only
  by_cases same : evaluatedFog (sheetRec s.fog sh) = (sheetRec s.fog sh).fog
  · rw [if_pos same, if_pos same, evaluatedSheet_same same, List.append_nil, setSheet_same]
  · rw [if_neg same, if_neg same, fogTransitionAlone_eq, fogOf, sheetRec_setSheet, setSheet_setSheet, setSheet_handed,
      setSheet_caps, List.append_assoc]
    rfl

/-- The computation stands beside the sheet records. -/
theorem computedSheet_setSheet (r r' : SheetRec) : computedSheet (setSheet sh r s) r' = computedSheet s r' := by
  cases sh <;> rfl

/-- The record an expiry evaluates: its timer runs on, and every figure and flag is computed. -/
def periodSheet (s : State) (r : SheetRec) : SheetRec := computedSheet s (timedSheet r)

/-- R85 to R91: the whole expiry that finds every input. -/
theorem fogPeriod_computes (enabled : (sheetRec s.fog sh).state = .enabled)
    (running : (sheetRec s.fog sh).fogTimer ≠ none) (uncovered : covered s sh = false)
    (inputs : ∀ r ∈ mainReadings s (sheetRec s.fog sh).defn, r.quality ≠ .none) : fogPeriod sh s =
    { setSheet sh (evaluatedSheet (periodSheet s (sheetRec s.fog sh))) s with
      handed := s.handed ++ if evaluatedFog (periodSheet s (sheetRec s.fog sh)) = fogOf s sh then [] else
        transitionHandings s.fog.caps sh (fogOf s sh) (evaluatedFog (periodSheet s (sheetRec s.fog sh))) ++
          [.reallocationRequest] } := by
  have inputs' (r : SheetRec) (hr : r.defn = (sheetRec s.fog sh).defn) :
      ∀ m ∈ mainReadings (setSheet sh r s) (sheetRec (setSheet sh r s).fog sh).defn, m.quality ≠ .none := by
    rw [sheetRec_setSheet, mainReadings_setSheet, hr]
    exact inputs
  rw [fogPeriod_uncovered enabled running uncovered, computeFog_read (inputs' (timedSheet _) rfl), evaluateFog_eq,
    setSheet_setSheet, setSheet_setSheet, sheetRec_setSheet, sheetRec_setSheet, computedSheet_setSheet, fogOf,
    sheetRec_setSheet, setSheet_handed, setSheet_handed, setSheet_caps, setSheet_caps]
  rfl

/-- R91: the fog condition. -/
theorem fogCondition_iff {r : SheetRec} : fogCondition r = true ↔
    r.margin < r.defn.fogMargin ∨ (r.hazeValid = true ∧ r.defn.hazeLimit < r.hazeValue) := by
  simp [fogCondition]

theorem hazeIsClear_iff {r : SheetRec} : hazeIsClear r = true ↔
    r.hazeValid = false ∨ r.hazeValue ≤ r.defn.hazeClear := by
  simp [hazeIsClear]

end

section
variable {r : SheetRec}

/-- R91, the rows of CLEAR. -/
theorem evaluatedFog_clear (fog : r.fog = .clear) (h : ¬fogCondition r = true) :
    evaluatedFog r = if r.margin < r.defn.watchMargin then .watch else .clear := by
  rw [evaluatedFog, fog]
  exact if_neg h

/-- R91, the rows of WATCH. -/
theorem evaluatedFog_watch (fog : r.fog = .watch) (h : ¬fogCondition r = true) :
    evaluatedFog r = if r.defn.watchMargin + r.defn.hysteresis ≤ r.margin then .clear else .watch := by
  rw [evaluatedFog, fog]
  exact if_neg h

/-- R91, the rows of FOG. -/
theorem evaluatedFog_fog (fog : r.fog = .fog) : evaluatedFog r =
    if r.defn.fogMargin + r.defn.hysteresis ≤ r.margin ∧ hazeIsClear r then .recover else .fog := by
  rw [evaluatedFog, fog]

/-- R91, the rows of RECOVER. -/
theorem evaluatedFog_recover (fog : r.fog = .recover) (h : ¬fogCondition r = true) : evaluatedFog r = .recover := by
  rw [evaluatedFog, fog]
  exact if_neg h

/-- R91: the fog condition moves every state but FOG to FOG. -/
theorem evaluatedFog_of_condition (fog : r.fog = .clear ∨ r.fog = .watch ∨ r.fog = .recover)
    (h : fogCondition r = true) : evaluatedFog r = .fog := by
  rw [evaluatedFog]
  rcases fog with fog | fog | fog <;> rw [fog] <;> exact if_pos h

end

/-! ### The figures (R87 to R90) -/

section
variable {s : State} {d : SheetDef}

theorem airLimitFlag_iff {air : Int} : airLimitFlag air = true ↔ air < -2000 ∨ 4300 < air := by
  unfold airLimitFlag saturate
  rw [bne_iff_ne]
  split
  · omega
  · split <;> omega

theorem hazeTerm_isSome : (hazeTerm s d).isSome = true ↔
    ∃ i, d.haze = some i ∧ s.points[i].state = .fresh ∧ s.points[i].defn.cls = .haze := by
  unfold hazeTerm
  split
  · next h => simp [h]
  · next i h =>
    rw [h]
    split
    · next fresh => simpa using fresh
    · next stale => simpa using stale

theorem hazeTerm_of_fresh {i : PointIx} (h : d.haze = some i) (fresh : s.points[i].state = .fresh)
    (cls : s.points[i].defn.cls = .haze) : hazeTerm s d = some (presentedValue s i).toNat := by
  rw [hazeTerm, h]
  exact if_pos ⟨fresh, cls⟩

theorem dewLowFlag_iff {dew : Vector Nat 64} {e : Nat} : dewLowFlag dew e = true ↔ e < dewEntry dew 0 :=
  decide_eq_true_iff

theorem dewHighFlag_iff {dew : Vector Nat 64} {e : Nat} :
    dewHighFlag dew e = true ↔ dewEntry dew 0 ≤ e ∧ dewEntry dew 63 ≤ e := by
  simp [dewHighFlag, dewLowFlag]

/-- R86: a computation is degraded by a main reading that is held or substituted. -/
theorem computedSheet_degraded (s : State) (r : SheetRec) : (computedSheet s r).degraded = true ↔
    ∃ m ∈ mainReadings s r.defn, m.quality = .held ∨ m.quality = .substituted := by
  have flag : (computedSheet s r).degraded =
      (anyQuality .held (mainReadings s r.defn) || anyQuality .substituted (mainReadings s r.defn)) := rfl
  rw [flag, Bool.or_eq_true, anyQuality_iff, anyQuality_iff, ← exists_or]
  exact exists_congr fun m => and_or_left.symm

/-- R90: the haze value of a valid term. -/
theorem computedSheet_hazeValue (r : SheetRec) {i : PointIx} (h : r.defn.haze = some i)
    (fresh : s.points[i].state = .fresh) (cls : s.points[i].defn.cls = .haze) :
    (computedSheet s r).hazeValue = (presentedValue s i).toNat :=
  congrArg (Option.getD · r.hazeValue) (hazeTerm_of_fresh h fresh cls)

/-- R90: an invalid term keeps the haze value. -/
theorem computedSheet_hazeKept (r : SheetRec) (invalid : (computedSheet s r).hazeValid = false) :
    (computedSheet s r).hazeValue = r.hazeValue := by
  have none : hazeTerm s r.defn = .none := Option.isNone_iff_eq_none.1 (Option.isSome_eq_false_iff.1 invalid)
  exact congrArg (Option.getD · r.hazeValue) none

end

end Sys2Proof.Machine
end

section
/-! THEOREMS. The fog period and the recover timer. -/

namespace Sys2Proof.Machine

/-- Settles O28: the two expiries by their equations. -/
theorem lostInputAndRecoveryMoveTheSheet : Obligations.LostInputAndRecoveryMoveTheSheet := by
  refine ⟨fun s sh awake enabled running uncovered lost => ⟨fogPeriod sh s, ?_, ?_⟩,
    fun s sh awake running recover => ?_⟩
  · rw [exec_event (.fogPeriodExpiry sh), perform_awake s _ awake]
  · obtain ⟨record, others, dew, loaded, caps, -, whole⟩ :=
      setSheet_parts (fogPeriod_lost enabled running uncovered lost)
    exact ⟨record, others, dew, loaded, caps, whole⟩
  · rw [exec_event (.recoverTimerExpiry sh), perform_awake s _ awake, recoverExpiry_eq running recover]

/-- Settles O26: the record an expiry computes and evaluates, and the rows of R91. -/
theorem fogPeriodComputesAndEvaluates : Obligations.FogPeriodComputesAndEvaluates := by
  refine ⟨fun s sh awake enabled running uncovered inputs => ⟨fogPeriod sh s, ?_, ?_⟩,
    fun s sh awake enabled running cover => ?_, fun r => ?_⟩
  · rw [exec_event (.fogPeriodExpiry sh), perform_awake s _ awake]
  · obtain ⟨record, others, dew, loaded, caps, handed, whole⟩ :=
      setSheet_parts (fogPeriod_computes enabled running uncovered inputs)
    have fog : fogOf (fogPeriod sh s) sh = evaluatedFog (periodSheet s (sheetRec s.fog sh)) :=
      congrArg SheetRec.fog record
    refine ⟨?_, others, dew, loaded, caps, ?_, ?_⟩
    · rw [record]
      exact ⟨rfl, enabled, rfl, rfl, airLimitFlag_iff, rfl, dewLowFlag_iff, dewHighFlag_iff, rfl, rfl,
        computedSheet_degraded s (timedSheet _), hazeTerm_isSome, fun i => computedSheet_hazeValue (timedSheet _),
        computedSheet_hazeKept (timedSheet _), rfl, recoverTimerAfter_eq _ _⟩
    · rw [handed, fog, capsInForce, caps, fog]
      rfl
    · rw [handed]
      exact whole
  · rw [exec_event (.fogPeriodExpiry sh), perform_awake s _ awake, fogPeriod_covered enabled running cover]
    rfl
  · dsimp only
    rw [← fogCondition_iff, ← hazeIsClear_iff]
    refine ⟨evaluatedFog_of_condition, fun fog h => ?_, fun fog h => ?_, fun fog h => ?_, fun fog h => ?_,
      fun fog => ?_, fun fog => ?_, evaluatedFog_recover⟩
    · simp [evaluatedFog_clear fog h]
    · simp [evaluatedFog_clear fog h]
    · simp [evaluatedFog_watch fog h]
    · simp [evaluatedFog_watch fog h]
    · simp [evaluatedFog_fog fog]
    · simp [evaluatedFog_fog fog]

end Sys2Proof.Machine
end

section
/-! SUPPORT. The writes of the Fog Monitor's tables and sheet records (R79, R81, R96). -/

namespace Sys2Proof.Machine

/-! ### LOAD_DEW_TABLE (R79) -/

theorem dewArgs_length (a : List Byte) : (dewArgs a).length = 16 := by
  simp [dewArgs]

theorem dewArgs_getD (a : List Byte) {k : Nat} (h : k < 16) : (dewArgs a).getD k 0 = wordAt a (2 + 2 * k) := by
  simp [dewArgs, h]

theorem strictlyRising_iff {l : List Nat} : strictlyRising l = true ↔
    ∀ k, k + 1 < l.length → l.getD k 0 < l.getD (k + 1) 0 := by
  fun_induction strictlyRising l with
  | case1 => simp
  | case2 => simp
  | case3 x y rest ih =>
    rw [Bool.and_eq_true, decide_eq_true_iff, ih]
    constructor
    · rintro ⟨first, later⟩ k hk
      cases k with
      | zero => exact first
      | succ k => exact later k (Nat.lt_of_succ_lt_succ hk)
    · exact fun h => ⟨h 0 (by simp), fun k hk => h (k + 1) (Nat.succ_lt_succ hk)⟩

/-- R79: the entries of a segment rise strictly. -/
theorem dewArgs_rising {a : List Byte} : strictlyRising (dewArgs a) = true ↔
    ∀ k, k < 15 → wordAt a (2 + 2 * k) < wordAt a (4 + 2 * k) := by
  rw [strictlyRising_iff, dewArgs_length]
  refine forall_congr' fun k => ⟨fun h hk => ?_, fun h hk => ?_⟩
  · have rising := h (by omega)
    rwa [dewArgs_getD a (by omega), dewArgs_getD a (by omega), show 2 + 2 * (k + 1) = 4 + 2 * k by omega] at rising
  · rw [dewArgs_getD a (by omega), dewArgs_getD a hk, show 2 + 2 * (k + 1) = 4 + 2 * k by omega]
    exact h (by omega)

theorem loaded_getD (u : FogMonitor) (b : Fin 4) : u.loaded.toList.getD b.val false = u.loaded[b] := by
  simp

/-- R79: the segment fits its loaded neighbours. -/
theorem dewFits_iff {u : FogMonitor} {g : Fin 4} {es : List Nat} : dewFits u g.val es = true ↔
    (∀ b : Fin 4, b.val + 1 = g.val → u.loaded[b] = true → dewEntry u.dew (16 * g.val - 1) < es.getD 0 0) ∧
      ∀ b : Fin 4, b.val = g.val + 1 → u.loaded[b] = true → es.getD 15 0 < dewEntry u.dew (16 * b.val) := by
  unfold dewFits
  rw [Bool.and_eq_true]
  refine and_congr ?_ ?_
  · rcases Nat.eq_zero_or_pos g.val with first | later
    · simp [first]
    · have below (b : Fin 4) : b.val + 1 = g.val ↔ b = ⟨g.val - 1, by omega⟩ := by
        simp only [Fin.ext_iff]
        omega
      have flag := loaded_getD u ⟨g.val - 1, by omega⟩
      simp only [below, forall_eq, ← flag]
      simp [Nat.ne_of_gt later, imp_iff_not_or]
  · rcases Nat.lt_or_ge g.val 3 with earlier | last
    · have above (b : Fin 4) : b.val = g.val + 1 ↔ b = ⟨g.val + 1, by omega⟩ := by
        rw [Fin.ext_iff]
      have flag := loaded_getD u ⟨g.val + 1, by omega⟩
      simp only [above, forall_eq, ← flag]
      simp [Nat.ne_of_lt earlier, imp_iff_not_or, Nat.mul_add]
    · have top : g.val = 3 := by omega
      have none (b : Fin 4) : b.val ≠ 4 := by omega
      simp [top, none]

/-- Neither sheet is ENABLED. -/
def SheetsIdle (u : FogMonitor) : Prop := u.sheet1.state ≠ .enabled ∧ u.sheet2.state ≠ .enabled

theorem anySheetEnabled_iff {u : FogMonitor} : anySheetEnabled u = true ↔ ¬SheetsIdle u := by
  simp [anySheetEnabled, SheetsIdle, imp_iff_not_or]

/-- R79: what the range check of LOAD_DEW_TABLE refuses. -/
def DewArgsBad (a : List Byte) : Prop :=
  3 < byteAt a 0 ∨ 1 < byteAt a 1 ∨ wordAt a 2 = 0 ∨ ∃ k, k < 15 ∧ wordAt a (4 + 2 * k) ≤ wordAt a (2 + 2 * k)

theorem dewArgsBad_iff {a : List Byte} : DewArgsBad a ↔
    3 < byteAt a 0 ∨ 1 < byteAt a 1 ∨ (dewArgs a).getD 0 0 = 0 ∨ (!strictlyRising (dewArgs a)) = true := by
  rw [Bool.not_eq_true', ← Bool.not_eq_true, dewArgs_rising, dewArgs_getD a (by omega)]
  simp [DewArgsBad]

/-- R79: the table after a load of a segment. -/
def loadedFog (fresh : Bool) (g : Nat) (es : List Nat) (u : FogMonitor) : FogMonitor :=
  { u with dew := mapTable (loadedEntry fresh g es) u.dew, loaded := mapTable (loadedFlag fresh g) u.loaded }

section
variable {args : List Byte} {s : State}

theorem loadDewTable_enabled (h : ¬SheetsIdle s.fog) : loadDewTable args s = refuse .state s :=
  if_pos (anySheetEnabled_iff.2 h)

section
variable (idle : SheetsIdle s.fog)
include idle

theorem loadDewTable_bad (h : DewArgsBad args) : loadDewTable args s = refuse .range s := by
  unfold loadDewTable
  dsimp only
  rw [if_neg (mt anySheetEnabled_iff.1 (not_not_intro idle)), if_pos (dewArgsBad_iff.1 h)]

theorem loadDewTable_good (h : ¬DewArgsBad args) : loadDewTable args s =
    if !decide (byteAt args 1 = 1) && !dewFits s.fog (byteAt args 0) (dewArgs args) then refuse .range s
    else done { s with fog := loadedFog (decide (byteAt args 1 = 1)) (byteAt args 0) (dewArgs args) s.fog } := by
  unfold loadDewTable
  dsimp only
  rw [if_neg (mt anySheetEnabled_iff.1 (not_not_intro idle)), if_neg (mt dewArgsBad_iff.2 h)]
  rfl

/-- R79: a segment that does not fit its loaded neighbours is refused, unless NEW_TABLE is set. -/
theorem loadDewTable_unfit (old : byteAt args 1 = 0) (h : ¬dewFits s.fog (byteAt args 0) (dewArgs args) = true) :
    loadDewTable args s = refuse .range s := by
  rcases Classical.em (DewArgsBad args) with bad | good
  · exact loadDewTable_bad idle bad
  · rw [loadDewTable_good idle good]
    exact if_pos (by simp [old, h])

theorem loadDewTable_loads {g : Fin 4} {fresh : Bool} (hg : byteAt args 0 = g.val)
    (hf : byteAt args 1 = if fresh then 1 else 0) (h : ¬DewArgsBad args)
    (fits : fresh = false → dewFits s.fog g.val (dewArgs args) = true) :
    loadDewTable args s = done { s with fog := loadedFog fresh g.val (dewArgs args) s.fog } := by
  have flag : decide (byteAt args 1 = 1) = fresh := by
    rw [hf]
    cases fresh <;> rfl
  rw [loadDewTable_good idle h, flag, hg]
  refine if_neg fun unfit => ?_
  rw [Bool.and_eq_true, Bool.not_eq_true', Bool.not_eq_true'] at unfit
  obtain ⟨old, misfit⟩ := unfit
  rw [fits old] at misfit
  cases misfit

end

/-- R79: every entry of the table after a load. -/
theorem loadedFog_dew (fresh : Bool) (g : Nat) (a : List Byte) (u : FogMonitor) (k : Fin 64) :
    (loadedFog fresh g (dewArgs a) u).dew[k] =
      if k.val / 16 = g then wordAt a (2 + 2 * (k.val % 16)) else if fresh then 0 else u.dew[k] := by
  unfold loadedFog
  dsimp only
  rw [get_mapTable, loadedEntry, dewArgs_getD a (Nat.mod_lt _ (by decide))]

/-- R79: every loaded flag after a load. -/
theorem loadedFog_loaded (fresh : Bool) (g : Fin 4) (es : List Nat) (u : FogMonitor) (b : Fin 4) :
    (loadedFog fresh g.val es u).loaded[b] = (decide (b = g) || (!fresh && u.loaded[b])) := by
  unfold loadedFog
  dsimp only
  rw [get_mapTable, loadedFlag]
  simp only [Fin.ext_iff]
  split
  · next same => simp [same]
  · next other => cases fresh <;> simp [other]

/-! ### WRITE_SHEET (R81) -/

/-- R81: the points of a definition are non-UNUSED and of the classes required. -/
def SheetFits (s : State) (d : SheetDef) : Prop :=
  (∀ i, i = d.ice ∨ i = d.near ∨ i = d.air → s.points[i].state ≠ .unused ∧ s.points[i].defn.cls = .temperature) ∧
    (s.points[d.humidity].state ≠ .unused ∧ s.points[d.humidity].defn.cls = .humidity) ∧
    ∀ i, d.haze = some i → s.points[i].state ≠ .unused ∧ s.points[i].defn.cls = .haze

theorem sheetPointsFit_iff {d : SheetDef} : sheetPointsFit s d = true ↔ SheetFits s d := by
  unfold sheetPointsFit SheetFits
  cases d.haze with
  | none => simp [namesPoint_iff, and_assoc]
  | some i => simp [namesPoint_iff, and_assoc]

/-- A point of the definition that is UNUSED or of another class. -/
def SheetMisfit (s : State) (d : SheetDef) : Prop :=
  ∃ i cls, ((i = d.ice ∨ i = d.near ∨ i = d.air) ∧ cls = .temperature ∨ i = d.humidity ∧ cls = .humidity ∨
    d.haze = some i ∧ cls = .haze) ∧ (s.points[i].state = .unused ∨ s.points[i].defn.cls ≠ cls)

theorem SheetMisfit.not_fits {d : SheetDef} (h : SheetMisfit s d) : ¬SheetFits s d := by
  obtain ⟨i, cls, named, bad⟩ := h
  rintro ⟨temperatures, humidity, haze⟩
  have fits : s.points[i].state ≠ .unused ∧ s.points[i].defn.cls = cls := by
    rcases named with ⟨hi, rfl⟩ | ⟨rfl, rfl⟩ | ⟨hi, rfl⟩
    · exact temperatures i hi
    · exact humidity
    · exact haze i hi
  exact bad.elim fits.1 fun other => other fits.2

section
variable {sh : Sheet} (hi : byteAt args 0 = sheetNumber sh)
include hi

theorem writeSheet_enabled (h : (sheetRec s.fog sh).state = .enabled) : writeSheet args s = refuse .state s := by
  rw [writeSheet, hi, sheetOf_sheetNumber]
  exact if_pos h

variable (idle : (sheetRec s.fog sh).state ≠ .enabled)
include idle

theorem writeSheet_outOfRange (h : sheetArgs args = none) : writeSheet args s = refuse .range s := by
  rw [writeSheet, hi, sheetOf_sheetNumber]
  dsimp only
  rw [if_neg idle, h]

theorem writeSheet_read {d : SheetDef} (h : sheetArgs args = some d) : writeSheet args s =
    if sheetPointsFit s d then done (setSheet sh (clearedSheet d .disabled) s) else refuse .range s := by
  rw [writeSheet, hi, sheetOf_sheetNumber]
  dsimp only
  rw [if_neg idle, h]

end

theorem writeSheet_noSheet (one : byteAt args 0 ≠ 1) (two : byteAt args 0 ≠ 2) (s : State) :
    writeSheet args s = refuse .range s := by
  rw [writeSheet, sheetOf_of_ne one two]

/-! ### WRITE_FOG_CAPS (R96) -/

theorem writeFogCaps_outOfRange (h : capTableArgs args = none) (s : State) :
    writeFogCaps args s = refuse .range s := by
  rw [writeFogCaps, h]

theorem writeFogCaps_loads {t : CapTable} (h : capTableArgs args = some t) (s : State) : writeFogCaps args s =
    done { s with
      fog.caps := t
      handed := s.handed ++
        [.capHanding .one (capsOf t (fogOf s .one)), .capHanding .two (capsOf t (fogOf s .two))] } := by
  rw [writeFogCaps, h, List.append_cons]
  rfl

end

end Sys2Proof.Machine
end

section
/-! THEOREMS. The writes of the Fog Monitor's tables and sheet records. -/

namespace Sys2Proof.Machine

/-- Settles O29: each write by its checks, in their order. -/
theorem fogWritesReplaceTheirTables : Obligations.FogWritesReplaceTheirTables := by
  refine ⟨fun slot q s g fresh h hg hf idle1 idle2 first rising fits => ?_,
    fun slot q s sh d h hi idle hd temperatures humidity haze => h.exec_eq ?_,
    fun slot q s t h ht => h.exec_eq (writeFogCaps_loads ht _), fun slot q s => ⟨fun enabled h => ?_,
      fun idle bad h => ?_, fun g idle hg old misfit h => ?_, fun one two h => ?_,
      fun sh hi => ⟨fun enabled h => ?_, fun idle hd h => ?_, fun d idle hd misfit h => ?_⟩, fun ht h => ?_⟩⟩
  · have good : ¬DewArgsBad q.args := by
      rintro (segment | flag | zero | ⟨k, hk, falling⟩)
      · omega
      · rw [hf] at flag
        split at flag <;> omega
      · omega
      · exact absurd (rising k hk) (Nat.not_lt_of_le falling)
    have fits' (old : fresh = false) : dewFits s.fog g.val (dewArgs q.args) = true := by
      rw [dewFits_iff, dewArgs_getD q.args (by omega), dewArgs_getD q.args (by omega)]
      exact fits old
    refine ⟨_, h.exec_eq (loadDewTable_loads (s := taken .loadDewTable slot s) ⟨idle1, idle2⟩ hg hf good fits'),
      fun k => loadedFog_dew fresh g.val q.args s.fog k, fun b => loadedFog_loaded fresh g _ s.fog b, rfl⟩
  · refine (writeSheet_read (s := taken .writeSheet slot s) hi idle hd).trans (if_pos (sheetPointsFit_iff.2 ?_))
    exact ⟨temperatures, humidity, haze⟩
  · exact h.answersOnly (loadDewTable_enabled enabled)
  · exact h.answersOnly (loadDewTable_bad idle bad)
  · refine h.answersOnly (loadDewTable_unfit (s := taken .loadDewTable slot s) idle old ?_)
    rw [hg, dewFits_iff, dewArgs_getD q.args (by omega), dewArgs_getD q.args (by omega)]
    rintro ⟨below, above⟩
    obtain ⟨b, loaded, ⟨hb, low⟩ | ⟨hb, high⟩⟩ := misfit
    · exact absurd (below b hb loaded) (Nat.not_lt_of_le low)
    · exact absurd (above b hb loaded) (Nat.not_lt_of_le high)
  · exact h.answersOnly (writeSheet_noSheet one two _)
  · exact h.answersOnly (writeSheet_enabled hi enabled)
  · exact h.answersOnly (writeSheet_outOfRange hi idle hd)
  · refine h.answersOnly ((writeSheet_read (s := taken .writeSheet slot s) hi idle hd).trans (if_neg fun fit => ?_))
    exact SheetMisfit.not_fits misfit (sheetPointsFit_iff.1 fit)
  · exact h.answersOnly (writeFogCaps_outOfRange ht _)

end Sys2Proof.Machine
end

section
/-! SUPPORT. The lookups over a rising Dew Table (R87, R88). -/

namespace Sys2Proof.Machine

/-- R79: the Dew Table rises strictly. -/
def DewRising (dew : Vector Nat 64) : Prop := ∀ k, k < 63 → dewEntry dew k < dewEntry dew (k + 1)

section
variable {dew : Vector Nat 64} {e : Nat}

theorem DewRising.mono (h : DewRising dew) {j k : Nat} (hjk : j ≤ k) (hk : k ≤ 63) :
    dewEntry dew j ≤ dewEntry dew k := by
  induction k, hjk using Nat.le_induction with
  | base => exact Nat.le_refl _
  | succ k _ ih => exact (ih (by omega)).trans (h k (by omega)).le

/-! ### The forward lookup (R87) -/

theorem saturate_high {air : Int} (h : 4300 ≤ air) : saturate (-2000) 4300 air = 4300 := by
  unfold saturate
  rw [if_neg (by omega)]
  split <;> omega

theorem saturate_low {air : Int} (h : air ≤ -2000) : saturate (-2000) 4300 air = -2000 := by
  unfold saturate
  split
  · rfl
  · rw [if_neg (by omega)]
    omega

theorem saturate_between {air : Int} (low : -2000 ≤ air) (high : air ≤ 4300) : saturate (-2000) 4300 air = air := by
  unfold saturate
  rw [if_neg (by omega), if_neg (by omega)]

theorem saturationPressure_high {air : Int} (h : 4300 ≤ air) : saturationPressure dew air = dewEntry dew 63 :=
  if_pos (saturate_high h)

/-- R87: the degree and the hundredths of a temperature below the last. -/
theorem saturationPressure_between {air : Int} {k f : Nat} (hk : k < 63) (hf : f < 100)
    (h : air = 100 * ((k : Int) - 20) + f) : saturationPressure dew air =
      dewEntry dew k + (dewEntry dew (k + 1) - dewEntry dew k) * f / 100 := by
  have degree : divFloor air 100 = (k : Int) - 20 := by
    rw [divFloor, Int.fdiv_eq_ediv_of_nonneg _ (by decide)]
    omega
  have hundredths : (air - 100 * ((k : Int) - 20)).toNat = f := by omega
  have position : ((k : Int) - 20 + 20).toNat = k := by omega
  unfold saturationPressure
  rw [saturate_between (by omega) (by omega)]
  dsimp only
  rw [if_neg (by omega), degree, hundredths, position]

theorem saturationPressure_low {air : Int} (h : air ≤ -2000) : saturationPressure dew air = dewEntry dew 0 := by
  have limit : saturationPressure dew air = saturationPressure dew (-2000) := by
    unfold saturationPressure
    rw [saturate_low h, saturate_low (Int.le_refl _)]
  rw [limit, saturationPressure_between (k := 0) (f := 0) (by decide) (by decide) (by decide)]
  simp

/-! ### The vapour pressure (R88) -/

theorem vapourPressure_le {air humidity : Int} (h : humidity ≤ 10000) :
    vapourPressure dew air humidity ≤ saturationPressure dew air :=
  Nat.div_le_of_le_mul (by rw [Nat.mul_comm]; exact Nat.mul_le_mul_right _ (by omega))

/-- Saturated air has the saturation pressure. -/
theorem vapourPressure_saturated (air : Int) : vapourPressure dew air 10000 = saturationPressure dew air :=
  Nat.mul_div_cancel _ (by decide)

/-! ### The inverse lookup (R88) -/

theorem dewLowFlag_of_le (h : dewEntry dew 0 ≤ e) : dewLowFlag dew e = false :=
  decide_eq_false (Nat.not_lt_of_le h)

theorem dewPointOf_low (h : e < dewEntry dew 0) :
    dewPointOf dew e = -2000 ∧ dewLowFlag dew e = true ∧ dewHighFlag dew e = false := by
  have low := dewLowFlag_iff.2 h
  exact ⟨if_pos low, low, by rw [dewHighFlag, low]; rfl⟩

theorem dewPointOf_high (rising : DewRising dew) (h : dewEntry dew 63 ≤ e) :
    dewPointOf dew e = 4300 ∧ dewLowFlag dew e = false ∧ dewHighFlag dew e = true := by
  have first : dewEntry dew 0 ≤ e := (rising.mono (Nat.zero_le 63) (Nat.le_refl 63)).trans h
  have low := dewLowFlag_of_le first
  have high := dewHighFlag_iff.2 ⟨first, h⟩
  refine ⟨?_, low, high⟩
  rw [dewPointOf, low, high]
  rfl

/-- A pressure from the first entry to the last lies between two neighbouring entries. -/
theorem dewEntry_about (first : dewEntry dew 0 ≤ e) (last : e < dewEntry dew 63) :
    ∃ k, k < 63 ∧ dewEntry dew k ≤ e ∧ e < dewEntry dew (k + 1) := by
  by_contra none
  have reached (k : Nat) (hk : k ≤ 63) : dewEntry dew k ≤ e := by
    induction k with
    | zero => exact first
    | succ k ih => exact Nat.le_of_not_lt fun h => none ⟨k, hk, ih (by omega), h⟩
  exact absurd (reached 63 (Nat.le_refl 63)) (Nat.not_le_of_lt last)

section
variable (rising : DewRising dew) {k : Nat} (hk : k < 63) (lower : dewEntry dew k ≤ e)
  (upper : e < dewEntry dew (k + 1))
include rising hk lower upper

/-- The entries a pressure has reached are those up to its degree. -/
theorem dewEntry_le_iff {m : Nat} (hm : m ≤ 63) : dewEntry dew m ≤ e ↔ m ≤ k := by
  refine ⟨fun h => ?_, fun h => (rising.mono h (by omega)).trans lower⟩
  by_contra beyond
  have above := rising.mono (j := k + 1) (k := m) (by omega) hm
  omega

/-- R88: the search finds the degree. -/
theorem dewIndex_eq : dewIndex dew e = k := by
  have search (n : Nat) (hn : n ≤ 63) :
      (List.range n).foldl (fun best k => if dewEntry dew k ≤ e then k else best) 0 = min k (n - 1) := by
    induction n with
    | zero => simp
    | succ n ih =>
      rw [List.range_succ, List.foldl_append, ih (by omega), List.foldl_cons, List.foldl_nil]
      simp only [dewEntry_le_iff rising hk lower upper (show n ≤ 63 by omega)]
      split <;> omega
  exact (search 63 (Nat.le_refl 63)).trans (by omega)

theorem dewPointOf_between :
    dewPointOf dew e = 100 * ((k : Int) - 20)
      + (100 * (e - dewEntry dew k) / (dewEntry dew (k + 1) - dewEntry dew k) : Nat) ∧
    100 * (e - dewEntry dew k) / (dewEntry dew (k + 1) - dewEntry dew k) < 100 ∧
    dewLowFlag dew e = false ∧ dewHighFlag dew e = false := by
  have low := dewLowFlag_of_le ((rising.mono (Nat.zero_le k) (by omega)).trans lower)
  have last : e < dewEntry dew 63 := upper.trans_le (rising.mono (by omega) (Nat.le_refl 63))
  have high : dewHighFlag dew e = false :=
    Bool.eq_false_iff.2 fun h => absurd (dewHighFlag_iff.1 h).2 (Nat.not_le_of_lt last)
  refine ⟨?_, (Nat.div_lt_iff_lt_mul (by omega)).2 (by omega), low, high⟩
  rw [dewPointOf, low, high, dewIndex_eq rising hk lower upper]
  rfl

end

theorem dewPointOf_range (rising : DewRising dew) (e : Nat) : -2000 ≤ dewPointOf dew e ∧ dewPointOf dew e ≤ 4300 := by
  rcases Nat.lt_or_ge e (dewEntry dew 0) with below | first
  · rw [(dewPointOf_low below).1]
    decide
  · rcases Nat.lt_or_ge e (dewEntry dew 63) with last | above
    · obtain ⟨k, hk, lower, upper⟩ := dewEntry_about first last
      obtain ⟨point, hundredths, -⟩ := dewPointOf_between rising hk lower upper
      rw [point]
      generalize 100 * (e - dewEntry dew k) / (dewEntry dew (k + 1) - dewEntry dew k) = quotient at hundredths
      omega
    · rw [(dewPointOf_high rising above).1]
      decide

end

end Sys2Proof.Machine
end

section
/-! THEOREMS. The lookups over a rising Dew Table. -/

namespace Sys2Proof.Machine

/-- Settles O27: the two lookups, case by case along the table. -/
theorem dewPointLiesOnTheTable : Obligations.DewPointLiesOnTheTable := by
  intro dew rising
  refine ⟨fun air => ⟨airLimitFlag_iff, saturationPressure_high, fun low => saturationPressure_low low.le,
      fun k f hk hf h => ?_⟩, fun air humidity => ⟨rfl, vapourPressure_le, fun high wet => ?_, fun low wet => ?_⟩,
    fun e => ⟨(dewPointOf_range rising e).1, (dewPointOf_range rising e).2, dewPointOf_low, dewPointOf_high rising,
      fun k hk => dewPointOf_between rising hk⟩⟩
  · have within : (dewEntry dew (k + 1) - dewEntry dew k) * f / 100 ≤ dewEntry dew (k + 1) - dewEntry dew k :=
      Nat.div_le_of_le_mul (by rw [Nat.mul_comm]; exact Nat.mul_le_mul_right _ hf.le)
    have step := rising k hk
    rw [saturationPressure_between hk hf h]
    exact ⟨rfl, by omega, by omega⟩
  · subst wet
    rw [vapourPressure_saturated, saturationPressure_high high]
    obtain ⟨point, -, flag⟩ := dewPointOf_high rising (Nat.le_refl _)
    exact ⟨point, flag⟩
  · subst wet
    rw [vapourPressure_saturated, saturationPressure_low low]
    obtain ⟨point, -, flags⟩ := dewPointOf_between rising (k := 0) (by decide) (Nat.le_refl _) (rising 0 (by decide))
    refine ⟨point.trans ?_, flags⟩
    simp

end Sys2Proof.Machine
end

section
/-! SUPPORT. One zone record under the sheds, the walks that shed, and what an event of the Zone Controller leaves alone
(R114). -/

namespace Sys2Proof.Machine

/-! ### One record shed -/

section
variable (z : Zone)

theorem shedValveZone_eq : shedValveZone z =
    { z with lastForwarded := if z.state = .enabled then min z.lastForwarded z.allowed else z.lastForwarded } := by
  unfold shedValveZone
  split
  · next above => rw [if_pos above.1, Nat.min_eq_right above.2.le]
  · next within =>
    split
    · next on => rw [Nat.min_eq_left (Nat.le_of_not_lt fun lt => within ⟨on, lt⟩)]
    · rfl

theorem shedBoostZone_eq : shedBoostZone z = { z with
    lastStages := if z.state = .enabled ∧ z.defn.boost ≠ none then min z.lastStages z.allowedStages
      else z.lastStages } := by
  unfold shedBoostZone
  split
  · next above => rw [if_pos ⟨above.2.1, Option.isSome_iff_ne_none.1 above.1⟩, Nat.min_eq_right above.2.2.le]
  · next within =>
    split
    · next on =>
      rw [Nat.min_eq_left (Nat.le_of_not_lt fun lt => within ⟨Option.isSome_iff_ne_none.2 on.2, on.1, lt⟩)]
    · rfl

theorem boostCommands_shedValveZone : boostCommands (shedValveZone z) = boostCommands z := by
  unfold shedValveZone
  split <;> rfl

end

/-! ### A walk over some of the records -/

/-- A walk that meets no record twice queues the commands of the records it meets, in its order. -/
theorem TableWalk.queue_of_nodup {α : Type} {n : Nat} {f : State → Fin n → State} {table : State → Vector α n}
    {g : α → α} {commands : α → List (ActAddr × Nat)} (w : TableWalk f table g commands) {l : List (Fin n)}
    (once : l.Nodup) (s : State) : (l.foldl f s).line.queue =
      enqueueAll (l.flatMap fun i => commands (table s)[i]) s.line.queue := by
  refine foldl_enqueues f (fun i => commands (table s)[i])
    (fun l t => l.Nodup ∧ ∀ i ∈ l, (table t)[i] = (table s)[i]) (fun i l t ⟨once, same⟩ => ?_) l s
    ⟨once, fun _ _ => rfl⟩
  obtain ⟨ahead, once⟩ := List.nodup_cons.1 once
  refine ⟨by rw [w.queued, same i List.mem_cons_self], once, fun j hj => ?_⟩
  rw [w.get_step_other t (ne_of_mem_of_not_mem hj ahead), same j (List.mem_cons_of_mem i hj)]

/-- R114: at a cap handing a zone's valve is shed, then its boost actuator. -/
theorem both_walk : TableWalk shedBoth (fun s => s.zones.zones) (fun z => shedBoostZone (shedValveZone z))
    (fun z => valveCommands z ++ boostCommands z) where
  record s i := by
    have valve := valves_walk.record s i
    have boost := boosts_walk.record (shedValve s i) i
    beta_reduce at valve boost ⊢
    rw [shedBoth, boost, valve, getElem_set_same, Vector.set_set]
  queued s i := by
    have valve := valves_walk.record s i
    beta_reduce at valve ⊢
    rw [shedBoth, boosts_walk.queued, valves_walk.queued, enqueueAll_append, valve, getElem_set_same,
      boostCommands_shedValveZone]

theorem shedBoth_zones (s : State) (i : ZoneIx) :
    (shedBoth s i).zones = { s.zones with zones := (shedBoth s i).zones.zones } := by
  rw [shedBoth, shedBoost_zones, shedValve_zones]

/-! ### The frame -/

/-- An event that keeps the line and leaves every other block alone touches the zones and the Command Queue. -/
theorem eq_of_zoneEvent {s t : State} (line : LineKept s t) (rest : t.points = s.points ∧ t.budget = s.budget ∧
    t.fog = s.fog ∧ t.scene = s.scene ∧ t.mode = s.mode ∧ t.responder = s.responder ∧ t.notices = s.notices ∧
    t.timeBase = s.timeBase ∧ t.pending = s.pending ∧ t.handed = s.handed) :
    t = { s with zones := t.zones, line.queue := t.line.queue } := by
  obtain ⟨points, budget, fog, scene, mode, responder, notices, timeBase, pending, handed⟩ := rest
  rw [← line.rest, ← points, ← budget, ← fog, ← scene, ← mode, ← responder, ← notices, ← timeBase, ← pending, ← handed]

end Sys2Proof.Machine
end

section
/-! SUPPORT. The boost distribution: what its walk gives each zone of the allowance left (R113, R114). -/

namespace Sys2Proof.Machine

/-! ### The stages of one zone -/

section
variable {left : Nat} {z : Zone}

theorem stagesFor_off (h : z.state ≠ .enabled ∨ z.defn.boost = none) : stagesFor left z = 0 := by
  refine if_neg fun on => ?_
  simp only [boosted, Bool.and_eq_true, decide_eq_true_iff, Option.isSome_iff_ne_none] at on
  exact h.elim (absurd on.1) on.2

theorem stagesFor_on (h : z.state = .enabled) (hb : z.defn.boost ≠ none) (hp : 0 < z.defn.stagePower) :
    stagesFor left z = min (permittedStages z) (left / z.defn.stagePower) := by
  have on : boosted z = true := by simp [boosted, h, Option.isSome_iff_ne_none, hb]
  rw [stagesFor, if_pos on, stagesWithin, if_neg hp.ne']

/-- The stages of a zone never take more than is left. -/
theorem stagesFor_mul_le (left : Nat) (z : Zone) : stagesFor left z * z.defn.stagePower ≤ left := by
  unfold stagesFor stagesWithin
  split
  · split
    · simp
    · exact (Nat.mul_le_mul_right _ (Nat.min_le_right ..)).trans (Nat.div_mul_le_self ..)
  · simp

/-- The stages given are the most of those permitted that what is left can carry. -/
theorem stagesFor_greatest (h : z.state = .enabled) (hb : z.defn.boost ≠ none) (hp : 0 < z.defn.stagePower) :
    stagesFor left z ≤ permittedStages z ∧
      (stagesFor left z = permittedStages z ∨ left < (stagesFor left z + 1) * z.defn.stagePower) := by
  rw [stagesFor_on h hb hp]
  refine ⟨Nat.min_le_left .., ?_⟩
  rcases Nat.le_total (permittedStages z) (left / z.defn.stagePower) with all | short
  · exact .inl (Nat.min_eq_left all)
  · rw [Nat.min_eq_right short, Nat.mul_comm]
    exact .inr (Nat.lt_mul_div_succ left hp)

end

/-! ### The walk over a table written as a function of the index -/

section
variable {n : Nat} (a : Nat)

/-- The stages that the walk gives the zone of an index. -/
def boostGiven (z : Fin n → Zone) (i : Fin n) : Nat := (boostWalk a (List.ofFn z)).1.getD i 0

/-- The power that the walk gives the zone of an index. -/
def boostPower (z : Fin n → Zone) (i : Fin n) : Nat := boostGiven a z i * (z i).defn.stagePower

variable (z : Fin (n + 1) → Zone)

theorem boostGiven_zero : boostGiven a z 0 = stagesFor a (z 0) := by
  simp [boostGiven, boostWalk, List.ofFn_succ]

theorem boostGiven_succ (i : Fin n) :
    boostGiven a z i.succ = boostGiven (a - boostPower a z 0) (fun j => z j.succ) i := by
  rw [boostPower, boostGiven_zero]
  simp [boostGiven, boostWalk, List.ofFn_succ]

theorem boostPower_succ (i : Fin n) :
    boostPower a z i.succ = boostPower (a - boostPower a z 0) (fun j => z j.succ) i := by
  rw [boostPower, boostGiven_succ]
  rfl

theorem boostWalk_left_succ : (boostWalk a (List.ofFn z)).2 =
    (boostWalk (a - boostPower a z 0) (List.ofFn fun j => z j.succ)).2 := by
  rw [boostPower, boostGiven_zero]
  simp [boostWalk, List.ofFn_succ]

end

/-- R113: each zone takes its stages of what those before it have left. -/
theorem boostGiven_eq {n : Nat} (a : Nat) (z : Fin n → Zone) (i : Fin n) :
    boostGiven a z i = stagesFor (a - ∑ j, if j < i then boostPower a z j else 0) (z i) := by
  induction n generalizing a with
  | zero => exact i.elim0
  | succ n ih =>
    refine Fin.cases ?_ (fun i => ?_) i
    · rw [boostGiven_zero]
      simp
    · rw [boostGiven_succ, ih, Fin.sum_univ_succ, if_pos i.succ_pos, Nat.sub_sub]
      simp only [Fin.succ_lt_succ_iff, boostPower_succ]

/-- R113: what the walk gives and what it leaves are the allowance together. -/
theorem boostWalk_left {n : Nat} (a : Nat) (z : Fin n → Zone) :
    (boostWalk a (List.ofFn z)).2 + ∑ i, boostPower a z i = a := by
  induction n generalizing a with
  | zero => simp [boostWalk]
  | succ n ih =>
    have first : boostPower a z 0 ≤ a := by
      rw [boostPower, boostGiven_zero]
      exact stagesFor_mul_le a (z 0)
    have rest := ih (a - boostPower a z 0) fun j => z j.succ
    rw [Fin.sum_univ_succ, boostWalk_left_succ]
    simp only [boostPower_succ]
    omega

/-! ### The zones after a distribution -/

theorem toList_eq_ofFn {α : Type} {n : Nat} (v : Vector α n) : v.toList = List.ofFn fun i : Fin n => v[i] := by
  have same := toList_map_eq_ofFn id v
  rwa [List.map_id] at same

section
variable (a : Nat) (s : State)

/-- R113, R114: a zone record after a distribution. -/
theorem distributeBoost_zone (i : ZoneIx) : (distributeBoost a s).zones.zones[i] = shedBoostZone
    { s.zones.zones[i] with allowedStages := boostGiven a (fun j : ZoneIx => s.zones.zones[j]) i } := by
  rw [distributeBoost_zones]
  dsimp only
  rw [get_map, boostZones_get, toList_eq_ofFn]
  rfl

theorem distributeBoost_stages (i : ZoneIx) : (distributeBoost a s).zones.zones[i].allowedStages =
    boostGiven a (fun j : ZoneIx => s.zones.zones[j]) i := by
  rw [distributeBoost_zone]
  exact (shedBoostZone_frame _).2.2.2

theorem distributeBoost_power (i : ZoneIx) : stagePowerOf (distributeBoost a s).zones.zones[i] =
    boostPower a (fun j : ZoneIx => s.zones.zones[j]) i := by
  rw [stagePowerOf, distributeBoost_stages, distributeBoost_zone, (shedBoostZone_frame _).1, boostPower]

/-- R113, R114: what a distribution leaves of a zone record, told by the stages it is allowed. -/
theorem distributeBoost_record (i : ZoneIx) : (distributeBoost a s).zones.zones[i] = { s.zones.zones[i] with
    allowedStages := (distributeBoost a s).zones.zones[i].allowedStages
    lastStages := if s.zones.zones[i].state = .enabled ∧ s.zones.zones[i].defn.boost ≠ none then
      min s.zones.zones[i].lastStages (distributeBoost a s).zones.zones[i].allowedStages
    else s.zones.zones[i].lastStages } := by
  rw [distributeBoost_stages, distributeBoost_zone, shedBoostZone_eq]

/-- R113: what a distribution gives and what it leaves are the allowance together. -/
theorem distributeBoost_left : (distributeBoost a s).zones.left +
    ∑ i : ZoneIx, stagePowerOf (distributeBoost a s).zones.zones[i] = a := by
  have left : (distributeBoost a s).zones.left = (boostWalk a s.zones.zones.toList).2 := by
    rw [distributeBoost_zones]
    rfl
  simp only [distributeBoost_power]
  rw [left, toList_eq_ofFn, boostWalk_left]

theorem distributeBoost_eq : distributeBoost a s = { s with
    zones := { s.zones with
      zones := (distributeBoost a s).zones.zones, taken := a, left := (distributeBoost a s).zones.left }
    line.queue := enqueueAll ((List.finRange 24).flatMap (boostShed s (distributeBoost a s))) s.line.queue } := by
  have zones : (distributeBoost a s).zones = { s.zones with
      zones := (distributeBoost a s).zones.zones, taken := a, left := (distributeBoost a s).zones.left } := by
    rw [distributeBoost_zones]
    rfl
  rw [← zones, ← distributeBoost_sheds rfl]
  exact eq_of_zoneEvent (distributeBoost_lineKept s a) (distributeBoost_frame s a)

end

end Sys2Proof.Machine
end

section
/-! THEOREMS. The boost distribution. -/

namespace Sys2Proof.Machine

/-- Settles O33, by what the walk gives the zone of each index. -/
theorem boostGoesToTheZonesInOrder : Obligations.BoostGoesToTheZonesInOrder := by
  intro a s z leftAt
  have stages (i : ZoneIx) : (z i).allowedStages = stagesFor (leftAt i) s.zones.zones[i] := by
    simp only [leftAt, z, ← Fin.sum_univ_def, distributeBoost_power, distributeBoost_stages]
    exact boostGiven_eq ..
  have defn (i : ZoneIx) : (z i).defn = s.zones.zones[i].defn := by
    simp only [z, distributeBoost_zone, shedBoostZone_frame]
  refine ⟨fun i on boost power => ?_, fun i off => ?_, distributeBoost_taken a s, ?_, fun i => ?_,
    distributeBoost_eq a s⟩
  · obtain ⟨permitted, greatest⟩ := stagesFor_greatest (left := leftAt i) on boost power
    have carried := stagesFor_mul_le (leftAt i) s.zones.zones[i]
    rw [← stages] at permitted greatest carried
    exact ⟨permitted, by rwa [stagePowerOf, defn], greatest⟩
  · rw [stages, stagesFor_off off]
  · rw [← Fin.sum_univ_def]
    exact distributeBoost_left a s
  · exact distributeBoost_record a s i

end Sys2Proof.Machine
end

section
/-! SUPPORT. The split of the spectator grant: the shares of a shortage, and what a split leaves (R109, R110, R114). -/

namespace Sys2Proof.Machine

/-! ### The shares -/

/-- The units left over go out until none is left or no room is. -/
theorem spread_sum (left : Nat) (l : List (Nat × Nat)) :
    (spread left l).sum = (l.map Prod.fst).sum + min (l.map Prod.snd).sum left := by
  induction l generalizing left with
  | nil => simp [spread]
  | cons x l ih =>
    simp only [spread, List.map_cons, List.sum_cons, ih]
    omega

section
variable {n : Nat} (r : Nat) (p : Fin n → Nat)

/-- R109: the units left over go one each to the parts above 0, in ascending index. -/
theorem partGiven_eq (i : Fin n) : partGiven r p i = if ∑ j, p j ≤ r then p i
    else cutPart r p i +
      if 0 < p i ∧ (∑ j, if j < i ∧ 0 < p j then 1 else 0) < r - ∑ j, cutPart r p j then 1 else 0 := by
  unfold partGiven
  simp only [← ite_and]
  split
  · rfl
  · rcases Nat.eq_zero_or_pos (p i) with none | some
    · simp [none]
    · rw [if_pos some]
      split <;> omega

/-- Rounding down loses less than a unit of each part above 0, so that the units left over find room. -/
theorem le_cutPart_sum (h : r < ∑ j, p j) : r ≤ ∑ i, (cutPart r p i + if 0 < p i then 1 else 0) := by
  refine Nat.le_of_mul_le_mul_left (?_ : (∑ j, p j) * r ≤ _) (Nat.zero_lt_of_lt h)
  rw [Nat.mul_comm, Finset.mul_sum, Finset.mul_sum]
  refine Finset.sum_le_sum fun i _ => ?_
  rcases Nat.eq_zero_or_pos (p i) with none | some
  · simp [none]
  · rw [if_pos some]
    exact (Nat.lt_mul_div_succ _ (Nat.zero_lt_of_lt h)).le

/-- R109: the shares together are the lesser of what is shared and the sum of the parts. -/
theorem partGiven_sum : ∑ i, partGiven r p i = min r (∑ i, p i) := by
  rcases Nat.lt_or_ge r (∑ j, p j) with short | full
  · have spent := spread_sum (r - ∑ j, cutPart r p j)
      (List.ofFn fun i => (cutPart r p i, if 0 < p i then 1 else 0))
    rw [spread_ofFn, List.sum_ofFn, List.map_ofFn, List.map_ofFn, List.sum_ofFn, List.sum_ofFn] at spent
    have room := le_cutPart_sum r p short
    have cuts := cutPart_sum_le r p
    rw [Finset.sum_add_distrib] at room
    simp only [partGiven, if_neg (Nat.not_le.2 short)]
    rw [spent]
    simp only [Function.comp_def]
    omega
  · simp only [partGiven_full r p full]
    omega

end

section
variable (g : Nat) (u : ZoneController)

/-- R109: the shares of the zones, by the share of a shortage. -/
theorem zoneShares_getD (i : ZoneIx) :
    (zoneShares g u).getD i 0 = partGiven g (fun j : ZoneIx => zoneDemand u.zones[j]) i := by
  rw [zoneShares, toList_map_eq_ofFn, shareByPart_ofFn, getD_ofFn]

theorem zoneShares_sum : (zoneShares g u).sum = min g (u.zones.toList.map zoneDemand).sum := by
  rw [zoneShares, toList_map_eq_ofFn, shareByPart_ofFn, List.sum_ofFn, List.sum_ofFn, partGiven_sum]

end

theorem zoneAggregate_eq (s : State) : zoneAggregate s = ∑ i : ZoneIx, zoneDemand s.zones.zones[i] := by
  rw [zoneAggregate, toList_map_eq_ofFn, List.sum_ofFn]

/-! ### The records after a split -/

section
variable (grant : Option Nat) (u : ZoneController) (i : ZoneIx)

theorem splitZones_some (g : Nat) :
    (splitZones (some g) u).zones[i] = splitZone ((zoneShares g u).getD i 0) u.zones[i] := get_mapTable ..

theorem splitZones_none : (splitZones none u).zones[i] = ungrantedZone u.zones[i] := get_mapTable ..

variable {u i}

/-- R109, R110: a split gives an ENABLED zone a share, and an allowed position that is never above its capped one. -/
theorem splitZones_enabled (h : u.zones[i].state = .enabled) : ∃ share allowed, allowed ≤ u.zones[i].capped ∧
    (splitZones grant u).zones[i] = { u.zones[i] with share := share, allowed := allowed } := by
  cases grant with
  | none =>
    rw [splitZones_none, ungrantedZone, if_pos h]
    exact ⟨_, _, Nat.le_refl _, rfl⟩
  | some g =>
    rw [splitZones_some, splitZone, if_pos h]
    exact ⟨_, _, Nat.min_le_left .., rfl⟩

theorem splitZones_idle (h : u.zones[i].state ≠ .enabled) : (splitZones grant u).zones[i] = u.zones[i] := by
  cases grant with
  | none => rw [splitZones_none, ungrantedZone, if_neg h]
  | some g => rw [splitZones_some, splitZone, if_neg h]

end

section
variable (grant : Option Nat) (s : State)

/-- R109, R110, R114: a zone record after a split. -/
theorem splitGrant_zone (i : ZoneIx) :
    (splitGrant grant s).zones.zones[i] = shedValveZone (splitZones grant s.zones).zones[i] := by
  rw [splitGrant_zones]
  exact get_map ..

/-- R109, R110, R114: what a split leaves of a zone record, told by the position it is allowed. -/
theorem splitGrant_record (i : ZoneIx) : (splitGrant grant s).zones.zones[i] =
    if s.zones.zones[i].state = .enabled then
      { s.zones.zones[i] with
        share := (splitGrant grant s).zones.zones[i].share, allowed := (splitGrant grant s).zones.zones[i].allowed
        lastForwarded := min s.zones.zones[i].lastForwarded (splitGrant grant s).zones.zones[i].allowed }
    else s.zones.zones[i] := by
  split
  · next on =>
    obtain ⟨share, allowed, -, record⟩ := splitZones_enabled grant on
    rw [splitGrant_zone, record, shedValveZone_eq, if_pos on]
  · next idle =>
    rw [splitGrant_zone, splitZones_idle grant idle, shedValveZone_eq, if_neg idle]

theorem splitGrant_share {i : ZoneIx} (g : Nat) (h : s.zones.zones[i].state = .enabled) :
    (splitGrant (some g) s).zones.zones[i].share = (zoneShares g s.zones).getD i 0 ∧
    (splitGrant (some g) s).zones.zones[i].allowed =
      min s.zones.zones[i].capped ((zoneShares g s.zones).getD i 0 * 10000 / s.zones.zones[i].defn.design) := by
  rw [splitGrant_zone, splitZones_some, shedValveZone_eq, splitZone, if_pos h]
  exact ⟨rfl, rfl⟩

theorem splitGrant_ungranted {i : ZoneIx} (h : s.zones.zones[i].state = .enabled) :
    (splitGrant none s).zones.zones[i].share = s.zones.zones[i].demand ∧
    (splitGrant none s).zones.zones[i].allowed = s.zones.zones[i].capped := by
  rw [splitGrant_zone, splitZones_none, shedValveZone_eq, ungrantedZone, if_pos h]
  exact ⟨rfl, rfl⟩

theorem splitGrant_grant : (splitGrant grant s).zones.grant = grant := by
  rw [splitGrant_zones]
  exact splitZones_grant ..

/-- R114: a split sheds the valves that it leaves above their allowed positions. -/
theorem splitGrant_valveSheds : (splitGrant grant s).line.queue =
    enqueueAll ((List.finRange 24).flatMap (valveShed s (splitGrant grant s))) s.line.queue := by
  have shed (i : ZoneIx) : valveShed s (splitGrant grant s) i = valveCommands (splitZones grant s.zones).zones[i] := by
    have record := splitGrant_zone grant s i
    exact valveShed_eq (by simp [record]) (by simp [record]) (by simp [record]) (splitZones_frame ..).2.2.1
  rw [splitGrant_queue, funext shed]

theorem splitGrant_eq : splitGrant grant s = { s with
    zones := { s.zones with zones := (splitGrant grant s).zones.zones, grant := grant }
    line.queue := enqueueAll ((List.finRange 24).flatMap (valveShed s (splitGrant grant s))) s.line.queue } := by
  have zones : (splitGrant grant s).zones =
      { s.zones with zones := (splitGrant grant s).zones.zones, grant := grant } := by
    rw [splitGrant_zones]
    cases grant <;> rfl
  rw [← zones, ← splitGrant_valveSheds]
  exact eq_of_zoneEvent (splitGrant_lineKept s grant) (splitGrant_frame s grant)

end

end Sys2Proof.Machine
end

section
/-! THEOREMS. The split of the spectator grant. -/

namespace Sys2Proof.Machine

/-- Settles O32: the shares by the share of a shortage, and the records by what a split leaves. -/
theorem splitSharesTheGrant : Obligations.SplitSharesTheGrant := by
  intro s
  refine ⟨fun g => ⟨fun i => ?_, zoneShares_sum g s.zones, fun i => ?_, fun within i => ?_,
    splitGrant_grant (some g) s, fun i => splitGrant_share s g⟩,
    ⟨splitGrant_grant none s, fun i => splitGrant_ungranted s⟩,
    fun grant => ⟨splitGrant_record grant s, splitGrant_eq grant s⟩⟩
  · intro d part
    simp only [zoneSum, ← Fin.sum_univ_def, part]
    rw [zoneShares_getD]
    exact partGiven_eq g d i
  · rw [zoneShares_getD]
    exact partGiven_le ..
  · rw [zoneAggregate_eq] at within
    rw [zoneShares_getD, partGiven_full _ _ within]

end Sys2Proof.Machine
end

section
/-! SUPPORT. The caps of a sheet handed to its zones (R106 to R108, R111, R114). -/

namespace Sys2Proof.Machine

/-! ### One record -/

section
variable {sh : Sheet} {z : Zone} (c : Caps)

theorem capHandedZone_other (h : z.defn.sheet ≠ some sh) : capHandedZone sh c z = z := if_neg h

theorem capHandedZone_idle (h : z.defn.sheet = some sh) (hs : z.state ≠ .enabled) :
    capHandedZone sh c z = { z with fogCap := capOf c z.defn.ring } := by
  rw [capHandedZone, if_pos h]
  exact if_neg hs

/-- R107, R108, R111, R112: an ENABLED zone of the sheet is recapped, and its allowed values are lowered. -/
theorem capHandedZone_enabled (h : z.defn.sheet = some sh) (hs : z.state = .enabled) : capHandedZone sh c z =
    let cap := capOf c z.defn.ring
    let capped := min z.reqPosition (10 * cap)
    { z with
      fogCap := cap, capped := capped, demand := capped * z.defn.design / 10000, allowed := min z.allowed capped
      allowedStages := min z.allowedStages
        (if z.defn.boost = none then 0 else min z.reqStages (z.defn.stageCount * cap / 1000)) } := by
  have lowered : capHandedZone sh c z = loweredZone (recappedZone { z with fogCap := capOf c z.defn.ring }) := by
    rw [capHandedZone, if_pos h]
    exact if_pos hs
  rw [lowered]
  cases hb : z.defn.boost <;> simp [loweredZone, recappedZone, permittedStages, stageLimit, capLimit_eq, hs, hb]

end

/-- A handing of caps leaves the sheds to bring the last forwarded values down. -/
theorem capHandedZone_last (sh : Sheet) (c : Caps) (z : Zone) :
    (capHandedZone sh c z).lastForwarded = z.lastForwarded ∧ (capHandedZone sh c z).lastStages = z.lastStages := by
  unfold capHandedZone
  dsimp only
  split
  · split <;> exact ⟨rfl, rfl⟩
  · exact ⟨rfl, rfl⟩

@[simp] theorem shedValveZone_allowedStages (z : Zone) : (shedValveZone z).allowedStages = z.allowedStages := by
  rw [shedValveZone_eq]

/-! ### The cap sets -/

theorem capSet_setCapSet_same (sh : Sheet) (c : Caps) (u : ZoneController) : capSet (setCapSet sh c u) sh = c := by
  cases sh <;> rfl

theorem capSet_setCapSet_other : ∀ {sh other : Sheet}, other ≠ sh → ∀ (c : Caps) (u : ZoneController),
    capSet (setCapSet sh c u) other = capSet u other
  | .one, .one, h, _, _ => absurd rfl h
  | .one, .two, _, _, _ => rfl
  | .two, .one, _, _, _ => rfl
  | .two, .two, h, _, _ => absurd rfl h

@[simp] theorem setCapSet_frame (sh : Sheet) (c : Caps) (u : ZoneController) : (setCapSet sh c u).grant = u.grant ∧
    (setCapSet sh c u).taken = u.taken ∧ (setCapSet sh c u).left = u.left := by
  cases sh <;> exact ⟨rfl, rfl, rfl⟩

/-! ### The handing -/

/-- The zones of a sheet in ascending index. -/
abbrev zonesOn (sh : Sheet) (s : State) : List ZoneIx :=
  (List.finRange 24).filter fun i : ZoneIx => s.zones.zones[i].defn.sheet = some sh

/-- R106, R111: the Zone Controller handed other caps for a sheet, before the sheds. -/
def cappedZones (sh : Sheet) (c : Caps) (u : ZoneController) : ZoneController :=
  { setCapSet sh c u with zones := mapTable (fun _ z => capHandedZone sh c z) (setCapSet sh c u).zones }

section
variable {s : State} {sh : Sheet} {c : Caps}

theorem applyCaps_held (h : capSet s.zones sh = c) : applyCaps sh c s = s := if_pos h

theorem cappedZones_get (u : ZoneController) (i : ZoneIx) :
    (cappedZones sh c u).zones[i] = capHandedZone sh c u.zones[i] := by
  rw [cappedZones, setCapSet_zones]
  exact get_mapTable ..

theorem applyCaps_walk (h : capSet s.zones sh ≠ c) :
    applyCaps sh c s = (zonesOn sh s).foldl shedBoth { s with zones := cappedZones sh c s.zones } := by
  have same : zoneOrder.filter (zoneOn sh { s with zones := cappedZones sh c s.zones }) = zonesOn sh s :=
    List.filter_congr fun i _ => by
      simp only [zoneOn]
      rw [cappedZones_get, (capHandedZone_held ..).2]
  rw [← same, applyCaps, if_neg h]
  rfl

theorem mem_zonesOn {i : ZoneIx} : i ∈ zonesOn sh s ↔ s.zones.zones[i].defn.sheet = some sh := by
  rw [List.mem_filter, decide_eq_true_iff, and_iff_right (List.mem_finRange i)]

theorem zonesOn_nodup (sh : Sheet) (s : State) : (zonesOn sh s).Nodup := (List.nodup_finRange 24).filter _

/-- R106, R111, R114: a zone record of the sheet after a handing of other caps. -/
theorem applyCaps_zone (h : capSet s.zones sh ≠ c) {i : ZoneIx} (on : s.zones.zones[i].defn.sheet = some sh) :
    (applyCaps sh c s).zones.zones[i] = shedBoostZone (shedValveZone (capHandedZone sh c s.zones.zones[i])) := by
  have walked := both_walk.get (zonesOn_nodup sh s) { s with zones := cappedZones sh c s.zones } i
  beta_reduce at walked
  rw [applyCaps_walk h, walked, if_pos (mem_zonesOn.2 on), cappedZones_get]

theorem applyCaps_zone_other (h : capSet s.zones sh ≠ c) {i : ZoneIx} (off : s.zones.zones[i].defn.sheet ≠ some sh) :
    (applyCaps sh c s).zones.zones[i] = s.zones.zones[i] := by
  have walked := both_walk.get (zonesOn_nodup sh s) { s with zones := cappedZones sh c s.zones } i
  beta_reduce at walked
  rw [applyCaps_walk h, walked, if_neg fun on => off (mem_zonesOn.1 on), cappedZones_get, capHandedZone_other c off]

theorem applyCaps_zone_idle (h : capSet s.zones sh ≠ c) {i : ZoneIx} (on : s.zones.zones[i].defn.sheet = some sh)
    (idle : s.zones.zones[i].state ≠ .enabled) :
    (applyCaps sh c s).zones.zones[i] = { s.zones.zones[i] with fogCap := capOf c s.zones.zones[i].defn.ring } := by
  rw [applyCaps_zone h on, capHandedZone_idle c on idle, shedValveZone_eq, shedBoostZone_eq]
  simp only [idle, if_false, false_and]

theorem applyCaps_zone_enabled (h : capSet s.zones sh ≠ c) {i : ZoneIx}
    (on : s.zones.zones[i].defn.sheet = some sh) (enabled : s.zones.zones[i].state = .enabled) :
    (applyCaps sh c s).zones.zones[i] =
      let z := s.zones.zones[i]
      let cap := capOf c z.defn.ring
      let capped := min z.reqPosition (10 * cap)
      let stages := if z.defn.boost = none then 0 else min z.reqStages (z.defn.stageCount * cap / 1000)
      { z with
        fogCap := cap, capped := capped, demand := capped * z.defn.design / 10000
        allowed := min z.allowed capped, lastForwarded := min z.lastForwarded (min z.allowed capped)
        allowedStages := min z.allowedStages stages
        lastStages := if z.defn.boost = none then z.lastStages
          else min z.lastStages (min z.allowedStages stages) } := by
  rw [applyCaps_zone h on, capHandedZone_enabled c on enabled, shedValveZone_eq, shedBoostZone_eq]
  simp only [enabled, if_true, true_and, ne_eq, ite_not]

/-- A handing changes the cap set of its sheet, and of the Zone Controller the zone records besides. -/
theorem applyCaps_controller (h : capSet s.zones sh ≠ c) : (applyCaps sh c s).zones =
    { setCapSet sh c s.zones with zones := (applyCaps sh c s).zones.zones } := by
  rw [applyCaps_walk h, foldl_zones shedBoth_zones]
  rfl

/-- R114: a handing sheds the zones of its sheet in ascending index, each valve before its boost actuator. -/
theorem applyCaps_queue (h : capSet s.zones sh ≠ c) : (applyCaps sh c s).line.queue =
    enqueueAll ((zonesOn sh s).flatMap fun i => valveShed s (applyCaps sh c s) i ++ boostShed s (applyCaps sh c s) i)
      s.line.queue := by
  rw [applyCaps_walk h, both_walk.queue_of_nodup (zonesOn_nodup sh s), ← applyCaps_walk h]
  refine congrArg (enqueueAll · _) (List.flatMap_congr fun i hi => ?_)
  have record := applyCaps_zone h (mem_zonesOn.1 hi)
  obtain ⟨position, stages⟩ := capHandedZone_last sh c s.zones.zones[i]
  rw [cappedZones_get, valveShed_eq (by simp [record]) (by simp [record]) (by simp [record]) position,
    boostShed_eq (by simp [record]) (by simp [record]) (by simp [record]) stages]

theorem applyCaps_eq (sh : Sheet) (c : Caps) (s : State) : applyCaps sh c s =
    { s with zones := (applyCaps sh c s).zones, line.queue := (applyCaps sh c s).line.queue } :=
  eq_of_zoneEvent (applyCaps_lineKept s sh c) (applyCaps_frame s sh c)

end

end Sys2Proof.Machine
end

section
/-! THEOREMS. The cap handings. -/

namespace Sys2Proof.Machine

/-- Settles O31, zone by zone: one of another sheet, one of the sheet that is not ENABLED, and one that is. -/
theorem capHandingLowersTheZones : Obligations.CapHandingLowersTheZones := by
  intro s sh c awake
  let s' := takeHanded (.capHanding sh c) s
  have run : exec (.capHanding sh c) s = .next (arbitrate (applyCaps sh c s')) :=
    exec_awake (.capHanding sh c) awake
  refine ⟨fun held => ?_, fun new => ?_⟩
  · rw [run, applyCaps_held (s := s') held]
    rfl
  · have controller := applyCaps_controller (s := s') new
    refine ⟨applyCaps sh c s', run, ?_, fun other apart => ?_, ?_, ?_, ?_, fun i => applyCaps_zone_other (s := s') new,
      fun i => applyCaps_zone_idle (s := s') new, fun i => applyCaps_zone_enabled (s := s') new, ?_⟩
    · rw [controller]
      exact capSet_setCapSet_same ..
    · rw [controller]
      exact capSet_setCapSet_other apart ..
    · rw [controller]
      exact (setCapSet_frame ..).1
    · rw [controller]
      exact (setCapSet_frame ..).2.1
    · rw [controller]
      exact (setCapSet_frame ..).2.2
    · have rest := applyCaps_eq sh c s'
      rw [applyCaps_queue (s := s') new] at rest
      exact rest

end Sys2Proof.Machine
end

section
/-! SUPPORT. The boost stages within the allowance, and the last forwarded values of the zones, under every part of a
command (R101, R103, R107, R111, R113 to R115). -/

namespace Sys2Proof.Machine

/-! ### One zone record -/

/-- R101, R103, R107, R111, R114, R115: the last forwarded values of a zone record within what it is allowed, and its
positions within its fog cap. -/
structure ZoneWithin (z : Zone) : Prop where
  enabled : z.state = .enabled → z.lastForwarded ≤ z.allowed ∧ z.lastStages ≤ z.allowedStages ∧
    z.capped ≤ 10 * z.fogCap ∧ z.allowed ≤ 10 * z.fogCap
  idle : z.state ≠ .enabled → z.lastForwarded = 0 ∧ z.lastStages = 0 ∧ z.capped = 0 ∧ z.allowed = 0
  unboosted : z.defn.boost = none → z.lastStages = 0

theorem forwardedSound_iff {s : State} : ForwardedSound s ↔ ∀ i : ZoneIx, ZoneWithin s.zones.zones[i] :=
  forall_congr' fun _ => ⟨fun ⟨enabled, idle, unboosted⟩ => ⟨enabled, idle, unboosted⟩,
    fun h => ⟨h.enabled, h.idle, h.unboosted⟩⟩

theorem clearedZone_within (d : ZoneDef) (state : RecordState) (cap : Nat) : ZoneWithin (clearedZone d state cap) :=
  ⟨fun _ => ⟨Nat.le_refl _, Nat.le_refl _, Nat.zero_le _, Nat.zero_le _⟩, fun _ => ⟨rfl, rfl, rfl, rfl⟩, fun _ => rfl⟩

section
variable {z : Zone} (h : ZoneWithin z)
include h

/-- R109, R110, R114: an allowed position within the capped one, the valve shed to it. -/
theorem ZoneWithin.split (on : z.state = .enabled) {share allowed : Nat} (capped : allowed ≤ z.capped) :
    ZoneWithin (shedValveZone { z with share := share, allowed := allowed }) := by
  obtain ⟨-, stages, cap, -⟩ := h.enabled on
  rw [shedValveZone_eq]
  refine ⟨fun _ => ⟨?_, stages, cap, capped.trans cap⟩, fun idle => absurd on idle, h.unboosted⟩
  simp only [on, if_true]
  exact Nat.min_le_right ..

/-- R113, R114: other allowed stages, the boost actuator shed to them. -/
theorem ZoneWithin.boost (n : Nat) : ZoneWithin (shedBoostZone { z with allowedStages := n }) := by
  rw [shedBoostZone_eq]
  refine ⟨fun on => ?_, fun idle => ?_, fun unboosted => ?_⟩
  · obtain ⟨position, -, cap, allowed⟩ := h.enabled on
    refine ⟨position, ?_, cap, allowed⟩
    rcases Classical.em (z.defn.boost = none) with unboosted | boosted
    · simp only [unboosted, not_true, ne_eq, and_false, if_false, h.unboosted unboosted, Nat.zero_le]
    · rw [if_pos ⟨on, boosted⟩]
      exact Nat.min_le_right ..
  · obtain ⟨position, stages, capped, allowed⟩ := h.idle idle
    exact ⟨position, (if_neg fun on => idle on.1).trans stages, capped, allowed⟩
  · exact (if_neg fun on => on.2 unboosted).trans (h.unboosted unboosted)

/-- R115: a command passed to the valve. -/
theorem ZoneWithin.passedValve (on : z.state = .enabled) (dup : Bool) (v : Nat) :
    ZoneWithin (passedValve dup v z) := by
  obtain ⟨-, stages, capped, allowed⟩ := h.enabled on
  rw [passedValve_eq]
  split
  · exact ⟨fun _ => ⟨Nat.min_le_right .., stages, capped, allowed⟩, fun idle => absurd on idle, h.unboosted⟩
  · exact ⟨fun _ => ⟨Nat.min_le_right .., stages, Nat.min_le_right .., allowed⟩, fun idle => absurd on idle,
      h.unboosted⟩

/-- R115: a command passed to the boost actuator. -/
theorem ZoneWithin.passedBoost (on : z.state = .enabled) (boosted : z.defn.boost ≠ none) (dup : Bool) (v : Nat) :
    ZoneWithin (passedBoost dup v z) := by
  obtain ⟨position, -, capped, allowed⟩ := h.enabled on
  exact ⟨fun _ => ⟨position, Nat.min_le_right .., capped, allowed⟩, fun idle => absurd on idle,
    fun unboosted => absurd unboosted boosted⟩

end

/-- From z to z' a zone takes no more electric power, and stays within what it is allowed. -/
structure ZoneKept (z z' : Zone) : Prop where
  power : stagePowerOf z' ≤ stagePowerOf z
  within : ZoneWithin z → ZoneWithin z'

theorem ZoneKept.refl (z : Zone) : ZoneKept z z := ⟨Nat.le_refl _, id⟩

/-- A zone record with every runtime field cleared. -/
theorem ZoneKept.cleared (z : Zone) (d : ZoneDef) (state : RecordState) (cap : Nat) :
    ZoneKept z (clearedZone d state cap) := by
  refine ⟨?_, fun _ => clearedZone_within d state cap⟩
  rw [stagePowerOf, clearedZone, Nat.zero_mul]
  exact Nat.zero_le _

/-- R102: a zone that is not ENABLED stands at 0 throughout, and may be enabled. -/
theorem ZoneKept.enable {z : Zone} (idle : z.state ≠ .enabled) : ZoneKept z { z with state := .enabled } := by
  refine ⟨Nat.le_refl _, fun h => ⟨fun _ => ?_, fun off => absurd rfl off, h.unboosted⟩⟩
  obtain ⟨position, stages, capped, allowed⟩ := h.idle idle
  exact ⟨position ▸ Nat.zero_le _, stages ▸ Nat.zero_le _, capped ▸ Nat.zero_le _, allowed ▸ Nat.zero_le _⟩

/-- R107, R111, R114: a zone recapped, its allowed values lowered and its last forwarded values with them. -/
theorem ZoneKept.lowered {z : Zone} (on : z.state = .enabled) (cap capped demand stages : Nat)
    (within : capped ≤ 10 * cap) : ZoneKept z { z with
      fogCap := cap, capped := capped, demand := demand, allowed := min z.allowed capped
      lastForwarded := min z.lastForwarded (min z.allowed capped), allowedStages := min z.allowedStages stages
      lastStages := if z.defn.boost = none then z.lastStages else min z.lastStages (min z.allowedStages stages) } := by
  refine ⟨Nat.mul_le_mul_right _ (Nat.min_le_left ..), fun h => ⟨fun _ => ⟨Nat.min_le_right .., ?_, within,
    (Nat.min_le_right ..).trans within⟩, fun idle => absurd on idle, fun unboosted => ?_⟩⟩
  · dsimp only
    split
    · next unboosted =>
      rw [h.unboosted unboosted]
      exact Nat.zero_le _
    · exact Nat.min_le_right ..
  · exact (if_pos unboosted).trans (h.unboosted unboosted)

/-- R109, R110, R114: a zone after a split of the spectator grant. -/
theorem ZoneKept.split (grant : Option Nat) (u : ZoneController) (i : ZoneIx) :
    ZoneKept u.zones[i] (shedValveZone (splitZones grant u).zones[i]) := by
  rcases Classical.em (u.zones[i].state = .enabled) with on | idle
  · obtain ⟨share, allowed, capped, record⟩ := splitZones_enabled grant on
    rw [record]
    refine ⟨?_, fun h => h.split on capped⟩
    rw [shedValveZone_eq]
    exact Nat.le_refl _
  · rw [splitZones_idle grant idle, shedValveZone_eq, if_neg idle]
    exact .refl _

/-- R106, R107, R111, R114: a zone after a handing of other caps. -/
theorem ZoneKept.applyCaps {s : State} {sh : Sheet} {c : Caps} (new : capSet s.zones sh ≠ c) (i : ZoneIx) :
    ZoneKept s.zones.zones[i] (applyCaps sh c s).zones.zones[i] := by
  rcases Classical.em (s.zones.zones[i].defn.sheet = some sh) with on | off
  · rcases Classical.em (s.zones.zones[i].state = .enabled) with enabled | idle
    · rw [applyCaps_zone_enabled new on enabled]
      exact .lowered enabled _ _ _ _ (Nat.min_le_right ..)
    · rw [applyCaps_zone_idle new on idle]
      exact ⟨Nat.le_refl _, fun h => ⟨fun enabled => absurd enabled idle, h.idle, h.unboosted⟩⟩
  · rw [applyCaps_zone_other new off]
    exact .refl _

/-! ### The boost stages within the allowance (R113) -/

theorem boostSound_iff {s : State} : BoostSound s ↔
    s.zones.taken = s.budget.allowance ∧ ∑ i : ZoneIx, stagePowerOf s.zones.zones[i] ≤ s.zones.taken := by
  rw [BoostSound, toList_map_eq_ofFn, List.sum_ofFn]

/-- R113: the allowance just taken is distributed within it, whatever was before. -/
theorem boostSound_of_distributed {s t : State} (h : t.zones = (distributeBoost t.budget.allowance s).zones) :
    BoostSound t := by
  rw [boostSound_iff, h, distributeBoost_taken]
  exact ⟨rfl, (Nat.le_add_left ..).trans (distributeBoost_left t.budget.allowance s).le⟩

/-- From s to t the boost stages stay within the allowance, and the forwarded values within what is allowed. -/
structure ZonesKept (s t : State) : Prop where
  boost : BoostSound s → BoostSound t
  forwarded : ForwardedSound s → ForwardedSound t

namespace ZonesKept

theorem of_allowance {s t : State} (zones : t.zones = s.zones) (allowance : t.budget.allowance = s.budget.allowance) :
    ZonesKept s t := by
  constructor
  · unfold BoostSound
    rw [zones, allowance]
    exact id
  · unfold ForwardedSound
    rw [zones]
    exact id

theorem of_eq {s t : State} (zones : t.zones = s.zones) (budget : t.budget = s.budget) : ZonesKept s t :=
  .of_allowance zones (congrArg _ budget)

theorem refl (s : State) : ZonesKept s s := .of_eq rfl rfl

theorem trans {s t u : State} (h : ZonesKept s t) (k : ZonesKept t u) : ZonesKept s u :=
  ⟨fun hs => k.boost (h.boost hs), fun hs => k.forwarded (h.forwarded hs)⟩

theorem from_eq {s t u : State} (k : ZonesKept t u) (zones : t.zones = s.zones)
    (allowance : t.budget.allowance = s.budget.allowance) : ZonesKept s u := (of_allowance zones allowance).trans k

theorem then_eq {s t u : State} (h : ZonesKept s t) (zones : u.zones = t.zones) (budget : u.budget = t.budget) :
    ZonesKept s u := h.trans (.of_eq zones budget)

/-- The zone records change, each kept. -/
theorem of_zones {s t : State} (taken : t.zones.taken = s.zones.taken) (budget : t.budget = s.budget)
    (zones : ∀ i : ZoneIx, ZoneKept s.zones.zones[i] t.zones.zones[i]) : ZonesKept s t := by
  refine ⟨fun h => ?_, fun h => forwardedSound_iff.2 fun i => (zones i).within (forwardedSound_iff.1 h i)⟩
  rw [boostSound_iff] at h ⊢
  rw [taken, budget]
  exact ⟨h.1, (Finset.sum_le_sum fun i _ => (zones i).power).trans h.2⟩

theorem setZone {s : State} {i : ZoneIx} {z : Zone} (zone : ZoneKept s.zones.zones[i] z) :
    ZonesKept s (setZone i z s) :=
  .of_zones rfl rfl (forall_set (P := fun j z => ZoneKept s.zones.zones[j] z) zone fun _ => .refl _)

/-- R113, R114: a handing of the allowance. -/
theorem of_distributed {s t : State} (h : t.zones = (distributeBoost t.budget.allowance s).zones) : ZonesKept s t := by
  refine ⟨fun _ => boostSound_of_distributed h, fun hs => forwardedSound_iff.2 fun i => ?_⟩
  rw [h, distributeBoost_zone]
  exact (forwardedSound_iff.1 hs i).boost _

end ZonesKept

/-! ### The events that change the zones -/

section
variable (s : State)

theorem splitGrant_zonesKept (grant : Option Nat) : ZonesKept s (splitGrant grant s) := by
  refine .of_zones ?_ (splitGrant_frame s grant).2.1 fun i => ?_
  · rw [splitGrant_eq]
  · rw [splitGrant_zone]
    exact .split grant s.zones i

theorem applyCaps_zonesKept (sh : Sheet) (c : Caps) : ZonesKept s (applyCaps sh c s) := by
  rcases Classical.em (capSet s.zones sh = c) with held | new
  · rw [applyCaps_held held]
    exact .refl s
  · refine .of_zones ?_ (applyCaps_frame s sh c).2.1 (ZoneKept.applyCaps new)
    rw [applyCaps_controller new]
    exact (setCapSet_frame ..).2.1

theorem recomputeElectric_zonesKept : ZonesKept s (recomputeElectric s) := .of_distributed (recomputeElectric_zones s)

theorem recomputeElectricSilently_zones : (recomputeElectricSilently s).zones =
    (distributeBoost (recomputeElectricSilently s).budget.allowance s).zones := by
  rw [recomputeElectricSilently_budget, recomputeElectricSilently]
  exact distributeBoost_congr rfl

/-- R109, R113, R114: the zones take the spectator grant of a completion, then its allowance. -/
theorem completeAllocation_zonesKept : ZonesKept s (completeAllocation s) := by
  unfold completeAllocation
  split
  · exact .refl s
  · exact (splitGrant_zonesKept s _).trans (.of_distributed (completeWith_zones _ s))

theorem requestAllocation_zonesKept : ZonesKept s (requestAllocation s) := by
  unfold requestAllocation
  split <;> exact .of_allowance rfl rfl

theorem allocationPeriod_zonesKept : ZonesKept s (allocationPeriod s) := by
  unfold allocationPeriod
  split
  · exact .refl s
  · exact (requestAllocation_zonesKept _).from_eq rfl rfl

/-- R117: the zones of a RESTART take the caps, and last the allowance. -/
theorem restartEffect_zonesKept : ZonesKept s (restartEffect s) := by
  have cleared : ForwardedSound (restartedBlocks s) := forwardedSound_iff.2 fun i => by
    have record : (restartedBlocks s).zones.zones[i] = restartedZone s.zones.zones[i] := get_mapTable ..
    rw [record]
    exact clearedZone_within ..
  have checked := ZonesKept.of_eq (s := restartedBlocks s) (t := checkTransfers (restartedBlocks s)) (by simp) (by simp)
  have caps (sh : Sheet) (s : State) : ZonesKept s (restartCaps sh s) := applyCaps_zonesKept s sh _
  have cut (sh : Sheet) (s : State) : ZonesKept s (restartCut sh s) := .of_eq (by simp) (by simp)
  have before := checked.trans ((caps .one _).trans ((caps .two _).trans ((cut .one _).trans (cut .two _))))
  unfold restartEffect
  exact ⟨fun _ => boostSound_of_distributed (recomputeElectricSilently_zones _),
    fun _ => (before.trans (.of_distributed (recomputeElectricSilently_zones _))).forwarded cleared⟩

/-! ### A COMMAND frame (R105, R115) -/

theorem owns_of_entryOwner {s : State} {dest channel : Nat} {o : ActOwner} (h : entryOwner s dest channel = some o) :
    Owns s ⟨dest, channel⟩ o := by
  unfold entryOwner at h
  split at h
  · cases h
  · exact owns_of_ownerOf h

theorem passValve_zonesKept (i : ZoneIx) (dup : Bool) (v : Nat) (flag : Bool) :
    ZonesKept s (passValve i dup v flag s).state := by
  rcases Classical.em (s.zones.zones[i].state = .enabled) with on | idle
  · rw [passValve_on on]
    refine .setZone ⟨?_, fun h => h.passedValve on dup v⟩
    rw [passedValve_eq]
    split <;> exact Nat.le_refl _
  · rw [passValve_off idle]
    exact .refl s

theorem passBoost_zonesKept {i : ZoneIx} (boosted : s.zones.zones[i].defn.boost ≠ none) (dup : Bool) (v : Nat)
    (flag : Bool) : ZonesKept s (passBoost i dup v flag s).state := by
  rcases Classical.em (s.zones.zones[i].state = .enabled) with on | idle
  · rw [passBoost_on on]
    exact .setZone ⟨Nat.le_refl _, fun h => h.passedBoost on boosted dup v⟩
  · rw [passBoost_off idle]
    exact .refl s

theorem passEntry_zonesKept (dest channel : Nat) (dup : Bool) (v : Nat) (flag : Bool) :
    ZonesKept s (passEntry dest channel dup v flag s).state := by
  cases h : entryOwner s dest channel with
  | none =>
    rw [passEntry_none h]
    exact .refl s
  | some o =>
    cases o with
    | consumer i =>
      have passed := passEntry_recordsPassed s dest channel dup v flag
      refine .of_allowance ?_ (by rw [passed.rest])
      rw [passEntry_consumer h]
      simp
    | zoneValve i =>
      rw [passEntry_valve h]
      exact passValve_zonesKept s i dup v flag
    | zoneBoost i =>
      rw [passEntry_boost h]
      have held : boostHolds ⟨dest, channel⟩ s.zones.zones[i] = true := owns_of_entryOwner h
      refine passBoost_zonesKept s (fun unboosted => ?_) dup v flag
      rw [boostHolds_iff, unboosted] at held
      cases held.2
    | group i =>
      rw [passEntry_group h]
      exact .of_eq (by simp) (by simp)

theorem rewriteEntries_zonesKept (dest : Nat) (dup : Bool) (bs : List Byte) :
    ZonesKept s (rewriteEntries dest dup bs s).2 := by
  fun_induction rewriteEntries dest dup bs s with
  | case1 b hi lo rest s p r ih => exact (passEntry_zonesKept s _ _ _ _ _).trans ih
  | case2 => exact .refl _

/-! ### The requests (R50, R56 to R58, R101 to R103) -/

theorem writeZone_zonesKept (args : List Byte) : ZonesKept s (writeZone args s).state := by
  obtain h | ⟨i, d, -, -, h⟩ := writeZone_cases s args
  · rw [h]
    exact .refl s
  · rw [h]
    exact (ZonesKept.setZone (s := s) (i := i) (.cleared ..)).then_eq rfl rfl

theorem enableZone_zonesKept (args : List Byte) : ZonesKept s (enableZone args s).state := by
  fun_cases enableZone args s
  case case4 i _ disabled =>
    have idle : s.zones.zones[i].state ≠ .enabled := by
      rw [disabled]
      decide
    exact (ZonesKept.setZone (.enable idle)).then_eq rfl rfl
  all_goals exact .refl s

theorem disableZone_zonesKept (args : List Byte) : ZonesKept s (disableZone args s).state := by
  fun_cases disableZone args s
  case case4 i _ _ => exact (ZonesKept.setZone (s := s) (i := i) (.cleared ..)).then_eq rfl rfl
  all_goals exact .refl s

theorem writeRecovery_zonesKept (args : List Byte) : ZonesKept s (writeRecovery args s).state := by
  fun_cases writeRecovery args s <;> exact .of_allowance rfl rfl

theorem writeConsumer_zonesKept (args : List Byte) : ZonesKept s (writeConsumer args s).state := by
  fun_cases writeConsumer args s <;> exact .of_allowance rfl rfl

theorem enableConsumer_zonesKept (args : List Byte) : ZonesKept s (enableConsumer args s).state := by
  fun_cases enableConsumer args s <;> exact .of_allowance rfl rfl

theorem disableConsumer_zonesKept (args : List Byte) : ZonesKept s (disableConsumer args s).state := by
  fun_cases disableConsumer args s <;> exact .of_allowance rfl rfl

theorem answerOf_zonesKept (r : Req) (args : List Byte) : ZonesKept s (answerOf r args s).state := by
  cases r with
  | writeRecovery => exact writeRecovery_zonesKept s args
  | writeConsumer => exact writeConsumer_zonesKept s args
  | enableConsumer => exact enableConsumer_zonesKept s args
  | disableConsumer => exact disableConsumer_zonesKept s args
  | writeZone => exact writeZone_zonesKept s args
  | enableZone => exact enableZone_zonesKept s args
  | disableZone => exact disableZone_zonesKept s args
  | _ => exact .of_eq (by simp [answerOf]) (by simp [answerOf])

/-! ### The parts of a command -/

theorem event_zonesKept {c : Instr} {f : State → State} (he : Event c f) (ha : ∀ bytes, c ≠ .frameArrival bytes)
    (hl : c ≠ .lineOutSendComplete) : ZonesKept s (f s) := by
  cases he with
  | frameArrival bytes => exact absurd rfl (ha bytes)
  | lineOutSendComplete => exact absurd rfl hl
  | allocationPeriodExpiry => exact allocationPeriod_zonesKept s
  | reallocationRequest => exact (requestAllocation_zonesKept _).from_eq rfl rfl
  | allocationCompletion => exact completeAllocation_zonesKept s
  | electricRecompute => exact (recomputeElectric_zonesKept _).from_eq rfl rfl
  | lightingLoadUpdate load => exact (recomputeElectric_zonesKept _).from_eq rfl rfl
  | capHanding sh c => exact (applyCaps_zonesKept _ sh c).from_eq rfl rfl
  | _ => exact .of_eq (by simp) (by simp)

end

/-- From any state on, every part of a command keeps the zones sound. -/
theorem zonesKept_kept (s₀ : State) : KeptByParts (ZonesKept s₀) where
  pending _ _ h := h.trans (.of_eq rfl rfl)
  powerOn own controller l :=
    ⟨fun _ => powerOn_boostSound own controller l, fun _ => powerOn_forwardedSound own controller l⟩
  reset _ h := h.trans (.of_eq rfl rfl)
  tick _ h := h.trans (.of_allowance rfl rfl)
  choice _ h := h.trans (.of_eq (by simp) (by simp))
  arrival := {
    error := fun _ h => h.trans (.of_eq rfl rfl)
    activity := fun _ h => h.trans (.of_eq (by simp) (by simp))
    node := fun _ _ _ _ h => h.trans (.of_eq rfl rfl)
    overrun := fun _ h => h.trans (.of_eq (by simp) (by simp))
    forward := fun _ _ _ h => h.trans (.of_eq rfl rfl)
    samples := fun _ _ _ h => h.trans (.of_eq (by simp) (by simp))
    entries := fun _ _ _ s h => h.trans (rewriteEntries_zonesKept s ..)
    offered := fun _ _ _ h => h.trans (.of_eq (by simp) (by simp)) }
  completed s h := completeSending_keeps h (fun _ => h.trans (.of_eq rfl rfl))
    (fun _ _ _ _ => h.trans (.of_eq (by simp) (by simp)))
    (fun _ => h.trans ((ZonesKept.of_eq (by simp) (by simp)).trans (restartEffect_zonesKept _)))
  event he ha hl s h := h.trans (event_zonesKept s he ha hl)
  handed _ _ h := h.trans (.of_eq rfl rfl)
  answer r args s h := h.trans (answerOf_zonesKept s r args)
  reply _ _ _ _ _ h := h.trans (.of_eq (by simp [placeReply]) (by simp [placeReply]))

end Sys2Proof.Machine
end

section
/-! THEOREMS. The zones along a run. -/

namespace Sys2Proof.Machine

/-- Settles O58: the step keeps what the state before it has, since every part of a command does. -/
theorem stepKeepsTheZonesSound : Obligations.StepKeepsTheZonesSound := fun s _ hstep =>
  have kept := (zonesKept_kept s).keptByShape.of_step hstep (.refl s)
  ⟨kept.boost, kept.forwarded⟩

end Sys2Proof.Machine
end

section
/-! SUPPORT. The two sides of a pair of buffers (R119): their indices, the records of both replaced, and the transfer
engine's check (R130, R131). -/

namespace Sys2Proof.Machine

/-! ### Indices -/

theorem commitSide_val (n : PairIx) : (commitSide n).val = 2 * n.val :=
  Nat.mod_eq_of_lt (by omega)

theorem outputSide_val (n : PairIx) : (outputSide n).val = 2 * n.val + 1 :=
  Nat.mod_eq_of_lt (by omega)

theorem commitSide_ne_outputSide (n m : PairIx) : commitSide n ≠ outputSide m := fun h => by
  have := congrArg Fin.val h
  simp only [commitSide_val, outputSide_val] at this
  omega

theorem commitSide_inj {n m : PairIx} : commitSide n = commitSide m ↔ n = m := by
  simp only [Fin.ext_iff, commitSide_val]
  omega

theorem outputSide_inj {n m : PairIx} : outputSide n = outputSide m ↔ n = m := by
  simp only [Fin.ext_iff, outputSide_val]
  omega

/-- A buffer is one side of one pair. -/
theorem side_cases (i : BufferIx) : (∃ n, i = commitSide n) ∨ ∃ n, i = outputSide n := by
  rcases Nat.mod_two_eq_zero_or_one i.val with h | h
  · exact .inl ⟨⟨i.val / 2, by omega⟩, Fin.ext (by rw [commitSide_val]; dsimp only; omega)⟩
  · exact .inr ⟨⟨i.val / 2, by omega⟩, Fin.ext (by rw [outputSide_val]; dsimp only; omega)⟩

@[simp] theorem isEven_commitSide (n : PairIx) : isEven (commitSide n) = true := by
  simp [isEven, commitSide_val]

@[simp] theorem isEven_outputSide (n : PairIx) : isEven (outputSide n) = false := by
  simp [isEven, outputSide_val]

@[simp] theorem partner_commitSide (n : PairIx) : partner (commitSide n) = outputSide n := by
  unfold partner
  rw [commitSide_val, if_pos (Nat.mul_mod_right 2 n.val)]
  rfl

@[simp] theorem partner_outputSide (n : PairIx) : partner (outputSide n) = commitSide n := by
  unfold partner
  rw [outputSide_val, if_neg (by omega)]
  rfl

theorem partner_partner (i : BufferIx) : partner (partner i) = i := by
  obtain ⟨n, rfl⟩ | ⟨n, rfl⟩ := side_cases i <;> simp

theorem partner_ne (i : BufferIx) : partner i ≠ i := by
  obtain ⟨n, rfl⟩ | ⟨n, rfl⟩ := side_cases i
  · rw [partner_commitSide]
    exact (commitSide_ne_outputSide n n).symm
  · rw [partner_outputSide]
    exact commitSide_ne_outputSide n n

theorem isCommitSide_iff {i : BufferIx} {b : Buffer} :
    isCommitSide i b = true ↔ b.type = .paired ∧ i.val % 2 = 0 := by
  simp [isCommitSide, isEven]

theorem isOutputSide_iff {i : BufferIx} {b : Buffer} :
    isOutputSide i b = true ↔ b.type = .paired ∧ i.val % 2 = 1 := by
  simp [isOutputSide, isEven]

/-! ### The records of both sides replaced -/

/-- The two sides of a pair replaced. -/
def withPair (n : PairIx) (c o : Buffer) (bs : Vector Buffer 64) : Vector Buffer 64 :=
  (bs.set (commitSide n) c).set (outputSide n) o

section
variable (n : PairIx) (c o : Buffer) (bs : Vector Buffer 64)

theorem withPair_commit : (withPair n c o bs)[commitSide n] = c :=
  (getElem_set_other (commitSide_ne_outputSide n n)).trans getElem_set_same

theorem withPair_output : (withPair n c o bs)[outputSide n] = o := getElem_set_same

variable {n c o bs}

theorem withPair_other {i : BufferIx} (hc : i ≠ commitSide n) (ho : i ≠ outputSide n) :
    (withPair n c o bs)[i] = bs[i] :=
  (getElem_set_other ho).trans (getElem_set_other hc)

/-- What holds of both new records and of every other old one holds throughout. -/
theorem forall_withPair {P : BufferIx → Buffer → Prop} (hc : P (commitSide n) c) (ho : P (outputSide n) o)
    (h : ∀ j, j ≠ commitSide n → j ≠ outputSide n → P j bs[j]) (j : BufferIx) : P j (withPair n c o bs)[j] := by
  rcases Classical.em (j = commitSide n) with rfl | hjc
  · rwa [withPair_commit]
  · rcases Classical.em (j = outputSide n) with rfl | hjo
    · rwa [withPair_output]
    · rw [withPair_other hjc hjo]
      exact h j hjc hjo

end

/-- The record of a buffer and that of its partner replaced, commit side first or output side first. -/
theorem setBuffers_commit (n : PairIx) (c o : Buffer) (s : State) :
    setBuffer (partner (commitSide n)) o (setBuffer (commitSide n) c s) =
      { s with scene.buffers := withPair n c o s.scene.buffers } := by
  rw [partner_commitSide]
  rfl

theorem setBuffers_output (n : PairIx) (c o : Buffer) (s : State) :
    setBuffer (partner (outputSide n)) c (setBuffer (outputSide n) o s) =
      { s with scene.buffers := withPair n c o s.scene.buffers } := by
  have apart : (outputSide n).val ≠ (commitSide n).val := fun h => commitSide_ne_outputSide n n (Fin.ext h.symm)
  rw [partner_outputSide, withPair, Vector.set_comm _ _ apart.symm]
  rfl

/-! ### The transfer engine's check (R130, R131) -/

theorem eligible_iff {u : SceneUnit} {n : PairIx} : eligible u n = true ↔
    u.buffers[commitSide n].type = .paired ∧ u.buffers[commitSide n].state = .idle ∧
    u.buffers[commitSide n].committed = true ∧ u.buffers[outputSide n].state = .idle ∧
    (u.buffers[commitSide n].commitMode = .streaming →
      u.buffers[outputSide n].committed = false ∨ u.buffers[outputSide n].played = true) := by
  unfold eligible
  generalize u.buffers[commitSide n] = c, u.buffers[outputSide n] = o
  cases hm : c.commitMode <;> simp [hm, and_assoc]

/-- R131: the state with pair n in TRANSFER. -/
theorem startTransfer_eq (n : PairIx) (s : State) : startTransfer n s = { s with
    scene.engine := some n
    scene.buffers := withPair n { s.scene.buffers[commitSide n] with state := .transfer }
      { s.scene.buffers[outputSide n] with state := .transfer } s.scene.buffers } := rfl

theorem checkTransfers_busy {s : State} (h : s.scene.engine ≠ none) : checkTransfers s = s := by
  unfold checkTransfers
  split
  · rfl
  · next hn => exact absurd hn h

theorem checkTransfers_nothing {s : State} (h : ∀ n, eligible s.scene n = false) : checkTransfers s = s := by
  have none_found : (List.finRange 32).find? (eligible s.scene) = none :=
    List.find?_eq_none.2 fun n _ => by simp [h n]
  unfold checkTransfers
  split
  · rfl
  · rw [none_found]

theorem checkTransfers_lowest {s : State} {n : PairIx} (idle : s.scene.engine = none)
    (first : eligible s.scene n = true) (lowest : ∀ m, m < n → eligible s.scene m = false) :
    checkTransfers s = startTransfer n s := by
  have found : (List.finRange 32).find? (eligible s.scene) = some n :=
    List.find?_eq_some_iff_getElem.2 ⟨first, n.val, by simp, by simp, fun j hj => by
      have := lowest ⟨j, by omega⟩ hj
      simpa using this⟩
  simp [checkTransfers, idle, found]

/-- What a check can do: nothing, or the start of an eligible pair. -/
theorem checkTransfers_cases (s : State) : checkTransfers s = s ∨
    ∃ n, s.scene.engine = none ∧ eligible s.scene n = true ∧ checkTransfers s = startTransfer n s := by
  unfold checkTransfers
  split
  · exact .inl rfl
  · next idle =>
    split
    · next n found => exact .inr ⟨n, idle, List.find?_some found, rfl⟩
    · exact .inl rfl

/-- A check moves the engine and the buffers of the Scene Unit alone. -/
theorem checkTransfers_eq (s : State) : checkTransfers s = { s with
    scene.engine := (checkTransfers s).scene.engine, scene.buffers := (checkTransfers s).scene.buffers } := by
  obtain h | ⟨n, -, -, h⟩ := checkTransfers_cases s <;> rw [h]
  rfl

end Sys2Proof.Machine
end

section
/-! SUPPORT. The soundness of the buffers (R118 to R120, R131, R132): what a record and what a pair must meet, and what
replacing records keeps. -/

namespace Sys2Proof.Machine

theorem bufferEnabled_iff {b : Buffer} :
    bufferEnabled b = true ↔ ¬(b.state = .disabled ∨ b.state = .disabledLocked) := by
  simp [bufferEnabled]

/-! ### A sound pair (R119, R120) -/

/-- The two sides of a PAIRED pair. -/
structure SidesSound (c o : Buffer) : Prop where
  commit : c.state ≠ .selected
  output : ¬isLocked o = true
  enabled : bufferEnabled c = true ↔ bufferEnabled o = true
  transfer : c.state = .transfer ↔ o.state = .transfer

/-- The two buffers of a pair. -/
structure PairSound (c o : Buffer) : Prop where
  type : c.type = o.type
  paired : c.type = .paired → SidesSound c o
  single : c.type = .single → c.state ≠ .transfer ∧ o.state ≠ .transfer

theorem sidesSound_iff {c o : Buffer} : SidesSound c o ↔
    c.state ≠ .selected ∧ o.state ≠ .locked ∧ o.state ≠ .disabledLocked ∧
      (c.state = .disabled ∨ c.state = .disabledLocked ↔ o.state = .disabled) ∧
      (c.state = .transfer ↔ o.state = .transfer) := by
  constructor
  · rintro ⟨commit, output, enabled, transfer⟩
    rw [isLocked_iff, not_or] at output
    rw [bufferEnabled_iff, bufferEnabled_iff, not_iff_not, or_iff_left output.2] at enabled
    exact ⟨commit, output.1, output.2, enabled, transfer⟩
  · rintro ⟨commit, unlocked, enabledOnly, enabled, transfer⟩
    refine ⟨commit, by rw [isLocked_iff, not_or]; exact ⟨unlocked, enabledOnly⟩, ?_, transfer⟩
    rwa [bufferEnabled_iff, bufferEnabled_iff, not_iff_not, or_iff_left enabledOnly]

theorem pairsSound_iff {s : State} : PairsSound s ↔
    ∀ n : PairIx, PairSound s.scene.buffers[commitSide n] s.scene.buffers[outputSide n] := by
  refine forall_congr' fun n => ⟨fun ⟨type, paired, single⟩ => ?_, fun ⟨type, paired, single⟩ => ?_⟩
  · exact ⟨type, fun h => sidesSound_iff.2 (paired h), single⟩
  · exact ⟨type, fun h => sidesSound_iff.1 (paired h), single⟩

/-! ### A record replaced in its pair -/

/-- The record b of buffer i may become b' without its pair becoming unsound: the type, the slot and TRANSFER stay, and
in a PAIRED pair so does being enabled, a commit side does not become SELECTED, and an output side does not become
locked. -/
structure KeptInPair (i : BufferIx) (b b' : Buffer) : Prop where
  type : b'.type = b.type
  slot : b'.slot = b.slot
  transfer : b'.state = .transfer ↔ b.state = .transfer
  enabled : b.type = .paired → (bufferEnabled b' = true ↔ bufferEnabled b = true)
  commit : isCommitSide i b = true → b'.state = .selected → b.state = .selected
  output : isOutputSide i b = true → isLocked b' = true → isLocked b = true

theorem KeptInPair.of_state {i : BufferIx} {b b' : Buffer} (type : b'.type = b.type) (slot : b'.slot = b.slot)
    (state : b'.state = b.state) : KeptInPair i b b' where
  type := type
  slot := slot
  transfer := by rw [state]
  enabled _ := by unfold bufferEnabled; rw [state]
  commit _ := by rw [state]; exact id
  output _ := by unfold isLocked; rw [state]; exact id

theorem KeptInPair.refl (i : BufferIx) (b : Buffer) : KeptInPair i b b := .of_state rfl rfl rfl

/-- A SINGLE buffer may move freely among the states other than TRANSFER. -/
theorem KeptInPair.of_single {i : BufferIx} {b : Buffer} {st : BufferState} (single : b.type = .single)
    (transfer : st = .transfer ↔ b.state = .transfer) : KeptInPair i b { b with state := st } where
  type := rfl
  slot := rfl
  transfer := transfer
  enabled h := by cases single.symm.trans h
  commit h := by cases single.symm.trans (isCommitSide_iff.1 h).1
  output h := by cases single.symm.trans (isOutputSide_iff.1 h).1

theorem PairSound.kept {n : PairIx} {c o c' o' : Buffer} (h : PairSound c o) (hc : KeptInPair (commitSide n) c c')
    (ho : KeptInPair (outputSide n) o o') : PairSound c' o' where
  type := by rw [hc.type, ho.type, h.type]
  paired hp := by
    have cp : c.type = .paired := hc.type ▸ hp
    have op : o.type = .paired := h.type ▸ cp
    have sides := h.paired cp
    have even : isCommitSide (commitSide n) c = true := by simp [isCommitSide, cp]
    have odd : isOutputSide (outputSide n) o = true := by simp [isOutputSide, op]
    exact ⟨fun hs => sides.commit (hc.commit even hs), fun hl => sides.output (ho.output odd hl),
      (hc.enabled cp).trans (sides.enabled.trans (ho.enabled op).symm),
      hc.transfer.trans (sides.transfer.trans ho.transfer.symm)⟩
  single hs := by
    obtain ⟨commit, output⟩ := h.single (hc.type ▸ hs)
    exact ⟨fun e => commit (hc.transfer.1 e), fun e => output (ho.transfer.1 e)⟩

/-! ### What keeps the buffers sound -/

/-- From s to t the buffers stay sound, each of the three invariants by itself. -/
structure BuffersStaySound (s t : State) : Prop where
  slots : SlotsSound s → SlotsSound t
  transfer : TransferSound s → TransferSound t
  pairs : PairsSound s → PairsSound t

theorem slotsSound_of_same {s t : State} (h : ∀ i : BufferIx, t.scene.buffers[i].slot = s.scene.buffers[i].slot)
    (hs : SlotsSound s) : SlotsSound t := fun i j e => by
  rw [h, h] at e
  exact hs i j e

theorem transferSound_of_same {s t : State} (engine : t.scene.engine = s.scene.engine)
    (h : ∀ i : BufferIx, t.scene.buffers[i].state = .transfer ↔ s.scene.buffers[i].state = .transfer)
    (hs : TransferSound s) : TransferSound t := fun i => by
  rw [h, engine]
  exact hs i

/-- A pair replaced: the pairs stay sound where it does. -/
theorem pairsSound_withPair {s t : State} {n : PairIx} {c o : Buffer}
    (buffers : t.scene.buffers = withPair n c o s.scene.buffers)
    (pair : PairSound s.scene.buffers[commitSide n] s.scene.buffers[outputSide n] → PairSound c o)
    (hs : PairsSound s) : PairsSound t := by
  rw [pairsSound_iff] at hs ⊢
  intro m
  rw [buffers]
  rcases Classical.em (m = n) with rfl | other
  · rw [withPair_commit, withPair_output]
    exact pair (hs m)
  · rw [withPair_other (mt commitSide_inj.1 other) (commitSide_ne_outputSide m n),
      withPair_other (commitSide_ne_outputSide n m).symm (mt outputSide_inj.1 other)]
    exact hs m

namespace BuffersStaySound

theorem of_each {s t : State} (engine : t.scene.engine = s.scene.engine)
    (h : ∀ i : BufferIx, KeptInPair i s.scene.buffers[i] t.scene.buffers[i]) : BuffersStaySound s t where
  slots := slotsSound_of_same fun i => (h i).slot
  transfer := transferSound_of_same engine fun i => (h i).transfer
  pairs hs := pairsSound_iff.2 fun n => (pairsSound_iff.1 hs n).kept (h (commitSide n)) (h (outputSide n))

theorem of_buffers {s t : State} (engine : t.scene.engine = s.scene.engine)
    (buffers : t.scene.buffers = s.scene.buffers) : BuffersStaySound s t :=
  .of_each engine fun i => by
    rw [buffers]
    exact .refl i _

theorem of_eq {s t : State} (h : t.scene = s.scene) : BuffersStaySound s t := .of_buffers (by rw [h]) (by rw [h])

theorem refl (s : State) : BuffersStaySound s s := .of_eq rfl

theorem trans {s t u : State} (h : BuffersStaySound s t) (k : BuffersStaySound t u) : BuffersStaySound s u :=
  ⟨fun hs => k.slots (h.slots hs), fun hs => k.transfer (h.transfer hs), fun hs => k.pairs (h.pairs hs)⟩

theorem setBuffer {s : State} {i : BufferIx} {b : Buffer} (h : KeptInPair i s.scene.buffers[i] b) :
    BuffersStaySound s (setBuffer i b s) :=
  .of_each rfl fun j => by
    rcases Classical.em (j = i) with rfl | hj
    · exact (getElem_set_same (v := s.scene.buffers) (i := j) (x := b)).symm ▸ h
    · exact (getElem_set_other (v := s.scene.buffers) (x := b) hj).symm ▸ .refl j _

/-- Both sides of a pair moved: each keeps its slot and TRANSFER, and the new pair is sound where the old one was. -/
theorem of_pair {s t : State} {n : PairIx} {c o : Buffer} (engine : t.scene.engine = s.scene.engine)
    (buffers : t.scene.buffers = withPair n c o s.scene.buffers)
    (hc : c.slot = s.scene.buffers[commitSide n].slot ∧
      (c.state = .transfer ↔ s.scene.buffers[commitSide n].state = .transfer))
    (ho : o.slot = s.scene.buffers[outputSide n].slot ∧
      (o.state = .transfer ↔ s.scene.buffers[outputSide n].state = .transfer))
    (pair : PairSound s.scene.buffers[commitSide n] s.scene.buffers[outputSide n] → PairSound c o) :
    BuffersStaySound s t := by
  have each (i : BufferIx) : t.scene.buffers[i].slot = s.scene.buffers[i].slot ∧
      (t.scene.buffers[i].state = .transfer ↔ s.scene.buffers[i].state = .transfer) := by
    rw [buffers]
    exact forall_withPair (P := fun i b => b.slot = s.scene.buffers[i].slot ∧
      (b.state = .transfer ↔ s.scene.buffers[i].state = .transfer)) hc ho (fun _ _ _ => ⟨rfl, .rfl⟩) i
  exact ⟨slotsSound_of_same fun i => (each i).1, transferSound_of_same engine fun i => (each i).2,
    pairsSound_withPair buffers pair⟩

end BuffersStaySound

/-! ### The transfer engine (R130 to R132) -/

/-- R131: a started pair was sound, and is in TRANSFER on both sides. -/
theorem startTransfer_staySound {s : State} {n : PairIx} (idle : s.scene.engine = none)
    (eligible : eligible s.scene n = true) : BuffersStaySound s (startTransfer n s) where
  slots := slotsSound_of_same <| forall_withPair (P := fun i b => b.slot = s.scene.buffers[i].slot) rfl rfl
    fun _ _ _ => rfl
  transfer hs := by
    have none_before (i : BufferIx) : s.scene.buffers[i].state ≠ .transfer := fun h => by
      obtain ⟨m, busy, -⟩ := (hs i).1 h
      cases idle.symm.trans busy
    refine forall_withPair (P := fun i b => b.state = .transfer ↔
      ∃ m, some n = some m ∧ (i = commitSide m ∨ i = outputSide m)) ?_ ?_ fun i hc ho => ?_
    · exact iff_of_true rfl ⟨n, rfl, .inl rfl⟩
    · exact iff_of_true rfl ⟨n, rfl, .inr rfl⟩
    · refine iff_of_false (none_before i) ?_
      rintro ⟨_, ⟨⟩, h⟩
      exact h.elim hc ho
  pairs := by
    obtain ⟨paired, commitIdle, -, outputIdle, -⟩ := eligible_iff.1 eligible
    refine pairsSound_withPair rfl fun h => ⟨h.type, fun _ => ?_, fun single => ?_⟩
    · exact ⟨nofun, by simp [isLocked], .rfl, .rfl⟩
    · cases paired.symm.trans single

theorem checkTransfers_staySound (s : State) : BuffersStaySound s (checkTransfers s) := by
  obtain h | ⟨n, idle, eligible, h⟩ := checkTransfers_cases s <;> rw [h]
  · exact .refl s
  · exact startTransfer_staySound idle eligible

theorem BuffersStaySound.checked {s t : State} (h : BuffersStaySound s t) : BuffersStaySound s (checkTransfers t) :=
  h.trans (checkTransfers_staySound t)

/-- R132, R133: the transfer in flight completed: the slots exchanged, and the engine IDLE with its notice offered. -/
def transferred (n : PairIx) (s : State) : State := { s with
  scene.engine := none
  scene.buffers := withPair n (transferredCommit s.scene.buffers[commitSide n] s.scene.buffers[outputSide n])
    (transferredOutput s.scene.buffers[commitSide n] s.scene.buffers[outputSide n]) s.scene.buffers
  handed := s.handed ++ [.noticeOffer .transferred (2 * n.val)
    (nextGeneration s.scene.buffers[outputSide n].generation : Nat)] }

theorem completeTransfer_eq {n : PairIx} {s : State} (busy : s.scene.engine = some n) :
    completeTransfer s = checkTransfers (transferred n s) := by
  simp only [completeTransfer, busy]
  rfl

/-- R118: the slot each buffer is mapped to. -/
def slotMap (s : State) (i : BufferIx) : BufferIx := s.scene.buffers[i].slot

theorem slotsSound_iff {s : State} : SlotsSound s ↔ Function.Injective (slotMap s) := .rfl

/-- R132: a transfer exchanges the slots of the two sides. -/
theorem slotMap_transferred (n : PairIx) (s : State) :
    slotMap (transferred n s) = slotMap s ∘ Equiv.swap (commitSide n) (outputSide n) := by
  refine funext <| forall_withPair (P := fun i b => b.slot = slotMap s (Equiv.swap (commitSide n) (outputSide n) i))
    ?_ ?_ fun i hc ho => ?_
  · rw [Equiv.swap_apply_left]
    rfl
  · rw [Equiv.swap_apply_right]
    rfl
  · rw [Equiv.swap_apply_of_ne_of_ne hc ho]
    rfl

theorem transferred_staySound {n : PairIx} {s : State} (busy : s.scene.engine = some n) :
    BuffersStaySound s (transferred n s) where
  slots hs := by
    rw [slotsSound_iff, slotMap_transferred]
    exact (slotsSound_iff.1 hs).comp (Equiv.injective _)
  transfer hs := by
    refine forall_withPair (P := fun i b => b.state = .transfer ↔
      ∃ m, none = some m ∧ (i = commitSide m ∨ i = outputSide m)) ?_ ?_ fun i hc ho => ?_
    · exact iff_of_false nofun nofun
    · exact iff_of_false nofun nofun
    · refine iff_of_false (fun h => ?_) nofun
      obtain ⟨m, hm, side⟩ := (hs i).1 h
      cases busy.symm.trans hm
      exact side.elim hc ho
  pairs := pairsSound_withPair rfl fun h =>
    ⟨h.type, fun _ => ⟨nofun, by simp [isLocked, transferredOutput], .rfl, .rfl⟩, fun _ => ⟨nofun, nofun⟩⟩

theorem completeTransfer_staySound (s : State) : BuffersStaySound s (completeTransfer s) := by
  cases h : s.scene.engine with
  | none => simpa only [completeTransfer, h] using BuffersStaySound.refl s
  | some n =>
    rw [completeTransfer_eq h]
    exact (transferred_staySound h).checked

end Sys2Proof.Machine
end

section
/-! SUPPORT. The buffers under every part of a command (R118 to R128, R131 to R140). -/

namespace Sys2Proof.Machine

/-! ### Walks over the groups leave the buffers -/

theorem foldl_scene_groups {β : Type} {f : State → β → State}
    (h : ∀ s b, (f s b).scene = { s.scene with groups := (f s b).scene.groups }) (l : List β) (s : State) :
    (l.foldl f s).scene = { s.scene with groups := (l.foldl f s).scene.groups } := by
  induction l generalizing s with
  | nil => rfl
  | cons b l ih =>
    rw [List.foldl_cons]
    exact (ih (f s b)).trans
      (congrArg (fun u : SceneUnit => { u with groups := (l.foldl f (f s b)).scene.groups }) (h s b))

theorem levelGroup_scene (rs : Vector SearchResult 32) (s : State) (i : GroupIx) :
    (levelGroup rs s i).scene = { s.scene with groups := (levelGroup rs s i).scene.groups } := by
  unfold levelGroup sendLevel
  dsimp only
  split
  · split <;> rfl
  · rfl

theorem cutGroup_scene (sh : Sheet) (s : State) (i : GroupIx) :
    (cutGroup sh s i).scene = { s.scene with groups := (cutGroup sh s i).scene.groups } := by
  unfold cutGroup
  dsimp only
  split <;> rfl

theorem levelledState_scene (step : Nat) (s : State) : (levelledState step s).scene = { s.scene with
    search := none, results := searchResults s.scene.view step, groups := (levelledState step s).scene.groups } := by
  unfold levelledState
  exact foldl_scene_groups (levelGroup_scene (searchResults s.scene.view step)) groupOrder _

theorem cutHaze_staySound (sh : Sheet) (s : State) : BuffersStaySound s (cutHaze sh s) := by
  have scene := foldl_scene_groups (cutGroup_scene sh) groupOrder s
  exact .of_buffers (by simpa [cutHaze] using congrArg SceneUnit.engine scene)
    (by simpa [cutHaze] using congrArg SceneUnit.buffers scene)

/-! ### The search and the step start (R135 to R138) -/

/-- R137: an IDLE buffer that is no commit side may be marked. -/
theorem markedBuffer_kept {i : BufferIx} {b : Buffer} (step : Nat) (idle : b.state = .idle)
    (output : ¬isCommitSide i b = true) : KeptInPair i b (markedBuffer step b) where
  type := rfl
  slot := rfl
  transfer := by simp [markedBuffer, idle]
  enabled _ := by simp [markedBuffer, bufferEnabled, idle]
  commit h := absurd h output
  output _ := by simp [markedBuffer, isLocked]

theorem markable_iff {c : Candidate} {b : Buffer} : markable c b = true ↔
    b.state = .idle ∧ b.generation = c.generation ∧ ¬isCommitSide c.buffer b = true := by
  simp [markable, and_assoc]

theorem copyStatus_staySound (i : BufferIx) (o : Buffer) (s : State) : BuffersStaySound s (copyStatus i o s) := by
  unfold copyStatus
  split
  · exact .setBuffer (.of_state rfl rfl rfl)
  · exact .refl s

theorem markCandidate_staySound (step : Nat) (s : State) (c : Candidate) :
    BuffersStaySound s (markCandidate step s c) := by
  unfold markCandidate
  dsimp only
  split
  · next h =>
    obtain ⟨idle, -, output⟩ := markable_iff.1 (Bool.and_eq_true_iff.1 h).2
    have marked := BuffersStaySound.setBuffer (markedBuffer_kept step idle output)
    exact marked.trans (copyStatus_staySound _ _ _)
  · exact .refl s

theorem finishSearch_staySound (step : Nat) (s : State) : BuffersStaySound s (finishSearch step s) := by
  have scene := levelledState_scene step s
  have reported : BuffersStaySound s (reportLoad (settleSheet (settleSheet (levelledState step s) .one) .two)) :=
    .of_buffers (by simpa using congrArg SceneUnit.engine scene) (by simpa using congrArg SceneUnit.buffers scene)
  exact reported.trans (foldl_invariant (BuffersStaySound _) (markCandidate step)
    (fun t c h => h.trans (markCandidate_staySound step t c)) _ _ (.refl _))

theorem completeSearch_staySound (s : State) : BuffersStaySound s (completeSearch s) := by
  unfold completeSearch
  split
  · exact .refl s
  · exact finishSearch_staySound _ s

/-- R135: a SELECTED buffer may return to IDLE. -/
theorem unselected_kept (i : BufferIx) (b : Buffer) : KeptInPair i b (unselected b) := by
  unfold unselected
  split
  · next h =>
    exact ⟨rfl, rfl, by simp [h], fun _ => by simp [bufferEnabled, h], fun _ _ => h, fun _ => by simp [isLocked]⟩
  · exact .refl i b

theorem abandonSearch_staySound (s : State) : BuffersStaySound s (abandonSearch s) := by
  unfold abandonSearch
  split
  · exact .of_buffers rfl rfl
  · exact .refl s

theorem captureStep_staySound (s : State) : BuffersStaySound s (captureStep s) :=
  .of_each rfl fun i => by
    simp only [captureStep]
    rw [get_map]
    exact unselected_kept i _

theorem stepBegun_staySound (s : State) : BuffersStaySound s (stepBegun s) := by
  have counted : BuffersStaySound s { s with
      scene.stepTimer := some s.scene.stepPeriod, scene.stepCounter := (s.scene.stepCounter + 1) % 64 } :=
    .of_buffers rfl rfl
  have captured := (counted.trans (abandonSearch_staySound _)).trans (captureStep_staySound _)
  exact captured.checked.trans (.of_buffers rfl rfl)

theorem startStep_staySound (s : State) : BuffersStaySound s (startStep s) := by
  obtain h | ⟨step, h⟩ := startStep_cases s <;> rw [h]
  · exact stepBegun_staySound s
  · exact (stepBegun_staySound s).trans (finishSearch_staySound step _)

/-! ### CONFIGURE_BUFFER (R121, R122) -/

@[simp] theorem setType_frame (t : BufferType) (b : Buffer) :
    (setType t b).type = t ∧ (setType t b).slot = b.slot ∧ (setType t b).state = b.state := by
  unfold setType
  split
  · next h => exact ⟨h, rfl, rfl⟩
  · exact ⟨rfl, rfl, rfl⟩

@[simp] theorem withFilter_frame (c : BufferConfig) (b : Buffer) : (withFilter c b).type = b.type ∧
    (withFilter c b).slot = b.slot ∧ (withFilter c b).state = b.state := ⟨rfl, rfl, rfl⟩

theorem pairSound_disabled {c o : Buffer} (type : c.type = o.type) (hc : c.state = .disabled)
    (ho : o.state = .disabled) : PairSound c o where
  type := type
  paired _ := ⟨by simp [hc], by simp [isLocked, ho], by simp [bufferEnabled, hc, ho], by simp [hc, ho]⟩
  single _ := by simp [hc, ho]

/-- Both buffers of a disabled pair given one type. -/
theorem retypedPair_staySound {s t : State} {n : PairIx} {c o : Buffer} (engine : t.scene.engine = s.scene.engine)
    (buffers : t.scene.buffers = withPair n c o s.scene.buffers) (type : c.type = o.type)
    (commit : s.scene.buffers[commitSide n].state = .disabled)
    (output : s.scene.buffers[outputSide n].state = .disabled)
    (hc : c.slot = s.scene.buffers[commitSide n].slot ∧ c.state = s.scene.buffers[commitSide n].state)
    (ho : o.slot = s.scene.buffers[outputSide n].slot ∧ o.state = s.scene.buffers[outputSide n].state) :
    BuffersStaySound s t :=
  .of_pair engine buffers ⟨hc.1, by rw [hc.2]⟩ ⟨ho.1, by rw [ho.2]⟩ fun _ =>
    pairSound_disabled type (hc.2.trans commit) (ho.2.trans output)

theorem configurable_paired {i : BufferIx} {u : SceneUnit} : configurable i .paired u = true ↔
    i.val % 2 = 0 ∧ u.buffers[i].state = .disabled ∧ u.buffers[partner i].state = .disabled := by
  simp [configurable, isEven, and_assoc]

theorem configurable_single {i : BufferIx} {u : SceneUnit} : configurable i .single u = true ↔
    u.buffers[i].state = .disabled ∧ (u.buffers[i].type = .paired → u.buffers[partner i].state = .disabled) := by
  unfold configurable
  generalize u.buffers[i] = b
  cases h : b.type <;> simp

theorem configure_staySound {i : BufferIx} {c : BufferConfig} {s : State} (h : configurable i c.type s.scene = true) :
    BuffersStaySound s (configure i c s) := by
  unfold configure
  cases ht : c.type with
  | paired =>
    rw [ht] at h
    obtain ⟨even, own, other⟩ := configurable_paired.1 h
    obtain ⟨n, rfl⟩ | ⟨n, rfl⟩ := side_cases i
    · dsimp only
      rw [setBuffers_commit]
      simp only [partner_commitSide] at other
      refine retypedPair_staySound rfl rfl ?_ own other ?_ ?_ <;> simp
    · rw [outputSide_val] at even
      omega
  | single =>
    rw [ht] at h
    obtain ⟨own, other⟩ := configurable_single.1 h
    dsimp only
    split
    · exact .setBuffer (.of_state rfl rfl rfl)
    · next paired =>
      obtain ⟨n, rfl⟩ | ⟨n, rfl⟩ := side_cases i
      · rw [setBuffers_commit]
        have other := other paired
        simp only [partner_commitSide] at other
        refine retypedPair_staySound rfl rfl ?_ own other ?_ ?_ <;> simp
      · rw [setBuffers_output]
        have other := other paired
        simp only [partner_outputSide] at other
        refine retypedPair_staySound rfl rfl ?_ other own ?_ ?_ <;> simp

end Sys2Proof.Machine
end

section
/-! SUPPORT. The buffers under the requests and RESTART (R121 to R128, R140), and under every step. -/

namespace Sys2Proof.Machine

/-! ### The other requests (R123 to R128) -/

/-- R123: a lock that is taken. -/
theorem locked_kept {i : BufferIx} {b : Buffer} (side : ¬isOutputSide i b = true) :
    KeptInPair i b { b with state := lockedState b.state } where
  type := rfl
  slot := rfl
  transfer := by cases h : b.state <;> simp [lockedState]
  enabled _ := by cases h : b.state <;> simp [bufferEnabled, lockedState, h]
  commit _ := by cases h : b.state <;> simp [lockedState]
  output h := absurd h side

/-- R124: an unlock that is taken. -/
theorem unlocked_kept {i : BufferIx} {b : Buffer} (side : ¬isOutputSide i b = true) :
    KeptInPair i b { b with state := unlockedState b.state } where
  type := rfl
  slot := rfl
  transfer := by cases h : b.state <;> simp [unlockedState]
  enabled _ := by cases h : b.state <;> simp [bufferEnabled, unlockedState, h]
  commit _ := by cases h : b.state <;> simp [unlockedState]
  output h := absurd h side

theorem enabledState_transfer {st : BufferState} : enabledState st = .transfer ↔ st = .transfer := by
  cases st <;> simp [enabledState]

theorem disabledState_transfer {st : BufferState} : disabledState st = .transfer ↔ st = .transfer := by
  cases st <;> simp [disabledState]

theorem bothSides_output (f : BufferState → BufferState) (n : PairIx) (s : State) :
    bothSides f (outputSide n) s = { s with
      scene.buffers := withPair n
        { s.scene.buffers[commitSide n] with state := f s.scene.buffers[commitSide n].state }
        { s.scene.buffers[outputSide n] with state := f s.scene.buffers[outputSide n].state } s.scene.buffers } := by
  unfold bothSides
  dsimp only
  rw [setBuffers_output]
  simp only [partner_outputSide]

/-- R127, R128: both sides of a PAIRED pair moved, where the sides so left are sound. -/
theorem bothSides_staySound {f : BufferState → BufferState} {i : BufferIx} {s : State}
    (paired : s.scene.buffers[i].type = .paired) (odd : ¬isEven i = true)
    (keeps : ∀ {st}, f st = .transfer ↔ st = .transfer)
    (sides : ∀ c o : Buffer, o.state = s.scene.buffers[i].state → SidesSound c o →
      SidesSound { c with state := f c.state } { o with state := f o.state }) :
    BuffersStaySound s (bothSides f i s) := by
  obtain ⟨n, rfl⟩ | ⟨n, rfl⟩ := side_cases i
  · exact absurd (isEven_commitSide n) odd
  · rw [bothSides_output]
    refine .of_pair rfl rfl ⟨rfl, keeps⟩ ⟨rfl, keeps⟩ fun h => ?_
    refine ⟨h.type, fun hp => sides _ _ rfl (h.paired hp), fun hs => ?_⟩
    cases paired.symm.trans (h.type.symm.trans hs)

/-- R127: the sides of a disabled pair enabled. -/
theorem sidesSound_enabled {c o : Buffer} (disabled : o.state = .disabled) (h : SidesSound c o) :
    SidesSound { c with state := enabledState c.state } { o with state := enabledState o.state } := by
  obtain ⟨-, -, -, together, -⟩ := sidesSound_iff.1 h
  rw [sidesSound_iff, disabled]
  obtain hc | hc := together.2 disabled <;> simp [hc, enabledState]

/-- R128: the sides of a pair disabled, its output side IDLE. -/
theorem sidesSound_disabled {c o : Buffer} (idle : o.state = .idle) (h : SidesSound c o) :
    SidesSound { c with state := disabledState c.state } { o with state := disabledState o.state } := by
  obtain ⟨unselected, -, -, together, transfer⟩ := sidesSound_iff.1 h
  rw [idle] at together transfer
  rw [sidesSound_iff, idle]
  cases hc : c.state <;> simp_all [disabledState]

section
variable (s : State) (args : List Byte)

theorem configureBuffer_staySound : BuffersStaySound s (configureBuffer args s).state := by
  fun_cases configureBuffer args s
  case case1 h => exact configure_staySound h
  all_goals exact .refl s

theorem lockBuffer_staySound : BuffersStaySound s (lockBuffer args s).state := by
  fun_cases lockBuffer args s
  case case4 side _ => exact .setBuffer (locked_kept side)
  all_goals exact .refl s

theorem unlockBuffer_staySound : BuffersStaySound s (unlockBuffer args s).state := by
  fun_cases unlockBuffer args s
  case case3 side => exact (BuffersStaySound.setBuffer (unlocked_kept side)).checked
  all_goals exact .refl s

theorem writeScene_staySound : BuffersStaySound s (writeScene args s).state := by
  fun_cases writeScene args s
  case case6 i _ b _ _ _ sc _ =>
    have stored : BuffersStaySound s { s with scene.store := s.scene.store.set b.slot sc } := .of_buffers rfl rfl
    exact stored.trans (.setBuffer (.of_state rfl rfl rfl))
  all_goals exact .refl s

theorem commitBuffer_staySound : BuffersStaySound s (commitBuffer args s).state := by
  fun_cases commitBuffer args s
  case case4 => exact .setBuffer (.of_state rfl rfl rfl)
  all_goals exact .refl s

theorem enableBuffer_staySound : BuffersStaySound s (enableBuffer args s).state := by
  fun_cases enableBuffer args s
  case case3 single _ => exact (BuffersStaySound.setBuffer (.of_single single enabledState_transfer)).checked
  case case5 paired odd disabled =>
    exact (bothSides_staySound paired odd enabledState_transfer fun _ _ ho =>
      sidesSound_enabled (ho.trans disabled)).checked
  all_goals exact .refl s

theorem disableBuffer_staySound : BuffersStaySound s (disableBuffer args s).state := by
  fun_cases disableBuffer args s
  case case3 single _ => exact .setBuffer (.of_single single disabledState_transfer)
  case case5 paired odd idle =>
    exact bothSides_staySound paired odd disabledState_transfer fun _ _ ho => sidesSound_disabled (ho.trans idle)
  all_goals exact .refl s

theorem setStepPeriod_staySound : BuffersStaySound s (setStepPeriod args s).state := by
  fun_cases setStepPeriod args s
  · exact .refl s
  · exact .of_buffers rfl rfl

theorem writeGroup_staySound : BuffersStaySound s (writeGroup args s).state := by
  obtain e | ⟨i, d, -, -, e⟩ := writeGroup_cases s args <;> rw [e]
  · exact .refl s
  · exact .of_buffers rfl rfl

theorem enableGroup_staySound : BuffersStaySound s (enableGroup args s).state := by
  fun_cases enableGroup args s
  case case4 i _ _ =>
    unfold admitGroup
    dsimp only
    split <;> exact .of_buffers rfl rfl
  all_goals exact .refl s

theorem disableGroup_staySound : BuffersStaySound s (disableGroup args s).state := by
  fun_cases disableGroup args s
  case case4 => exact .of_buffers rfl rfl
  all_goals exact .refl s

theorem answerOf_staySound (r : Req) : BuffersStaySound s (answerOf r args s).state := by
  cases r with
  | configureBuffer => exact configureBuffer_staySound s args
  | lockBuffer => exact lockBuffer_staySound s args
  | unlockBuffer => exact unlockBuffer_staySound s args
  | writeScene => exact writeScene_staySound s args
  | commit => exact commitBuffer_staySound s args
  | enableBuffer => exact enableBuffer_staySound s args
  | disableBuffer => exact disableBuffer_staySound s args
  | setStepPeriod => exact setStepPeriod_staySound s args
  | writeGroup => exact writeGroup_staySound s args
  | enableGroup => exact enableGroup_staySound s args
  | disableGroup => exact disableGroup_staySound s args
  | _ => exact .of_eq (by simp [answerOf])

/-! ### RESTART (R140) -/

theorem restartedBuffer_state (b : Buffer) :
    (restartedBuffer b).state = if bufferEnabled b then .idle else .disabled := rfl

/-- R140: a restarted pair is IDLE on both sides, or disabled on both. -/
theorem PairSound.restarted {c o : Buffer} (h : PairSound c o) : PairSound (restartedBuffer c) (restartedBuffer o) := by
  have at_rest (b : Buffer) : (restartedBuffer b).state ≠ .transfer := by
    rw [restartedBuffer_state]
    split <;> nofun
  refine ⟨h.type, fun hp => sidesSound_iff.2 ?_, fun _ => ⟨at_rest c, at_rest o⟩⟩
  have together := (h.paired hp).enabled
  rw [restartedBuffer_state, restartedBuffer_state]
  cases ho : bufferEnabled o <;> simp [ho] at together <;> simp [together]

theorem restartedBlocks_staySound : BuffersStaySound s (restartedBlocks s) := by
  have buffer (i : BufferIx) : (restartedBlocks s).scene.buffers[i] = restartedBuffer s.scene.buffers[i] := get_map ..
  refine ⟨slotsSound_of_same fun i => by rw [buffer]; rfl, fun _ i => ?_, fun hs => pairsSound_iff.2 fun n => ?_⟩
  · rw [buffer, restartedBuffer_state]
    refine iff_of_false (by split <;> nofun) ?_
    rintro ⟨n, ⟨⟩, -⟩
  · rw [buffer, buffer]
    exact (pairsSound_iff.1 hs n).restarted

theorem restartCut_staySound (sh : Sheet) : BuffersStaySound s (restartCut sh s) := by
  unfold restartCut
  split
  · exact cutHaze_staySound sh s
  · exact .refl s

theorem restartEffect_staySound : BuffersStaySound s (restartEffect s) := by
  have capped : BuffersStaySound s (restartCapped s) :=
    (restartedBlocks_staySound s).checked.trans (.of_eq (by simp [restartCapped, restartCaps]))
  have cut := (capped.trans (restartCut_staySound _ .one)).trans (restartCut_staySound _ .two)
  exact cut.trans (.of_eq (recomputeElectricSilently_frame _).2.2.1)

/-! ### The parts of a command -/

theorem event_staySound {c : Instr} {f : State → State} (he : Event c f) (ha : ∀ bytes, c ≠ .frameArrival bytes)
    (hl : c ≠ .lineOutSendComplete) : BuffersStaySound s (f s) := by
  cases he with
  | frameArrival bytes => exact absurd rfl (ha bytes)
  | lineOutSendComplete => exact absurd rfl hl
  | hazeCut sheet =>
    have taken : BuffersStaySound s (takeHanded (.hazeCut sheet) s) := .of_eq rfl
    exact taken.trans (cutHaze_staySound sheet _)
  | stepStart => exact startStep_staySound s
  | searchCompletion => exact completeSearch_staySound s
  | transferCompletion => exact completeTransfer_staySound s
  | _ => exact .of_eq (by simp)

end

/-- From any state on, every part of a command keeps the buffers sound. -/
theorem buffersStaySound_kept (s₀ : State) : KeptByParts (BuffersStaySound s₀) where
  pending _ _ h := h.trans (.of_eq rfl)
  powerOn own controller l := ⟨fun _ => powerOn_slotsSound own controller l,
    fun _ => powerOn_transferSound own controller l, fun _ => powerOn_pairsSound own controller l⟩
  reset _ h := h.trans (.of_eq rfl)
  tick _ h := h.trans (.of_buffers rfl rfl)
  choice _ h := h.trans (.of_eq (by simp))
  arrival := {
    error := fun _ h => h.trans (.of_eq rfl)
    activity := fun _ h => h.trans (.of_eq (by simp))
    node := fun _ _ _ _ h => h.trans (.of_eq rfl)
    overrun := fun _ h => h.trans (.of_eq (by simp))
    forward := fun _ _ _ h => h.trans (.of_eq rfl)
    samples := fun _ _ _ h => h.trans (.of_eq (by simp))
    entries := fun _ _ _ _ h => h.trans (.of_eq (by simp))
    offered := fun _ _ _ h => h.trans (.of_eq (by simp)) }
  completed _ h := completeSending_keeps h (fun _ => h.trans (.of_eq rfl))
    (fun _ _ _ _ => h.trans (.of_eq (by simp)))
    (fun _ => h.trans ((BuffersStaySound.of_eq (by simp)).trans (restartEffect_staySound _)))
  event he ha hl s h := h.trans (event_staySound s he ha hl)
  handed _ _ h := h.trans (.of_eq rfl)
  answer r args s h := h.trans (answerOf_staySound s args r)
  reply _ _ _ _ _ h := h.trans (.of_eq (by simp [placeReply]))

end Sys2Proof.Machine
end

section
/-! THEOREMS. The buffers along a run. -/

namespace Sys2Proof.Machine

/-- Settles O59: every part of a command keeps each of the three invariants by itself. -/
theorem stepKeepsTheBuffersSound : Obligations.StepKeepsTheBuffersSound := fun s _ hstep =>
  have kept := (buffersStaySound_kept s).keptByShape.of_step hstep (.refl s)
  ⟨kept.slots, kept.transfer, kept.pairs⟩

end Sys2Proof.Machine
end

section
/-! SUPPORT. The transfer engine's check and the completion of a transfer, record by record (R130 to R133). -/

namespace Sys2Proof.Machine

section
variable (n : PairIx) (s : State)

theorem startTransfer_commit : (startTransfer n s).scene.buffers[commitSide n] =
    { s.scene.buffers[commitSide n] with state := .transfer } := by
  rw [startTransfer_eq]
  exact withPair_commit ..

theorem startTransfer_output : (startTransfer n s).scene.buffers[outputSide n] =
    { s.scene.buffers[outputSide n] with state := .transfer } := by
  rw [startTransfer_eq]
  exact withPair_output ..

variable {n s}

theorem startTransfer_side {i : BufferIx} (h : i = commitSide n ∨ i = outputSide n) :
    (startTransfer n s).scene.buffers[i] = { s.scene.buffers[i] with state := .transfer } := by
  rcases h with rfl | rfl
  · exact startTransfer_commit n s
  · exact startTransfer_output n s

theorem startTransfer_other {i : BufferIx} (hc : i ≠ commitSide n) (ho : i ≠ outputSide n) :
    (startTransfer n s).scene.buffers[i] = s.scene.buffers[i] := by
  rw [startTransfer_eq]
  exact withPair_other hc ho

end

section
variable (n : PairIx) (s : State)

theorem transferred_commit : (transferred n s).scene.buffers[commitSide n] =
    transferredCommit s.scene.buffers[commitSide n] s.scene.buffers[outputSide n] := withPair_commit ..

theorem transferred_output : (transferred n s).scene.buffers[outputSide n] =
    transferredOutput s.scene.buffers[commitSide n] s.scene.buffers[outputSide n] := withPair_output ..

variable {n s}

theorem transferred_other {i : BufferIx} (hc : i ≠ commitSide n) (ho : i ≠ outputSide n) :
    (transferred n s).scene.buffers[i] = s.scene.buffers[i] := withPair_other hc ho

/-- The pair just served is not eligible: its commit side is not COMMITTED. -/
theorem transferred_not_eligible : ¬eligible (transferred n s).scene n = true := fun h => by
  obtain ⟨-, -, committed, -⟩ := eligible_iff.1 h
  rw [transferred_commit] at committed
  cases committed

/-- What the check at a completion can do: nothing, or the start of another pair. -/
theorem checkTransferred_cases : checkTransfers (transferred n s) = transferred n s ∨
    ∃ m, m ≠ n ∧ checkTransfers (transferred n s) = startTransfer m (transferred n s) := by
  obtain h | ⟨m, -, hm, h⟩ := checkTransfers_cases (transferred n s)
  · exact .inl h
  · refine .inr ⟨m, ?_, h⟩
    rintro rfl
    exact transferred_not_eligible hm

/-- The sides of different pairs are different. -/
theorem sides_ne {m : PairIx} (h : m ≠ n) {i : BufferIx} (hi : i = commitSide m ∨ i = outputSide m) :
    i ≠ commitSide n ∧ i ≠ outputSide n := by
  rcases hi with rfl | rfl
  · exact ⟨mt commitSide_inj.1 h, commitSide_ne_outputSide m n⟩
  · exact ⟨(commitSide_ne_outputSide n m).symm, mt outputSide_inj.1 h⟩

theorem checkTransferred_engine : (checkTransfers (transferred n s)).scene.engine ≠ some n := by
  obtain h | ⟨m, other, h⟩ := checkTransferred_cases (n := n) (s := s) <;> rw [h]
  · nofun
  · exact fun e => other (Option.some_inj.1 e)

/-- The check at a completion leaves the pair just served as the completion left it. -/
theorem checkTransferred_served {i : BufferIx} (hi : i = commitSide n ∨ i = outputSide n) :
    (checkTransfers (transferred n s)).scene.buffers[i] = (transferred n s).scene.buffers[i] := by
  obtain h | ⟨m, other, h⟩ := checkTransferred_cases (n := n) (s := s) <;> rw [h]
  obtain ⟨hc, ho⟩ := sides_ne other.symm hi
  exact startTransfer_other hc ho

theorem checkTransferred_other {i : BufferIx} (hc : i ≠ commitSide n) (ho : i ≠ outputSide n)
    (idle : ∀ m, (checkTransfers (transferred n s)).scene.engine = some m → i ≠ commitSide m ∧ i ≠ outputSide m) :
    (checkTransfers (transferred n s)).scene.buffers[i] = s.scene.buffers[i] := by
  refine .trans ?_ (transferred_other hc ho)
  obtain h | ⟨m, -, h⟩ := checkTransferred_cases (n := n) (s := s)
  · rw [h]
  · rw [h] at idle ⊢
    obtain ⟨hc', ho'⟩ := idle m rfl
    exact startTransfer_other hc' ho'

theorem checkTransferred_started {m : PairIx} (started : (checkTransfers (transferred n s)).scene.engine = some m)
    {i : BufferIx} (hi : i = commitSide m ∨ i = outputSide m) :
    (checkTransfers (transferred n s)).scene.buffers[i] = { s.scene.buffers[i] with state := .transfer } := by
  obtain h | ⟨k, other, h⟩ := checkTransferred_cases (n := n) (s := s) <;> rw [h] at started ⊢
  · cases started
  · cases started
    obtain ⟨hc, ho⟩ := sides_ne other hi
    rw [startTransfer_side hi, transferred_other hc ho]

end

end Sys2Proof.Machine
end

section
/-! THEOREMS. The transfer engine. -/

namespace Sys2Proof.Machine

/-- Settles O35: the check by what it finds, and the completion by what its check can do. -/
theorem transferCheckAndCompletion : Obligations.TransferCheckAndCompletion := by
  refine ⟨⟨fun u n => eligible_iff, fun s => ⟨checkTransfers_busy, checkTransfers_nothing, ?_⟩⟩, ?_⟩
  · intro n idle first lowest t
    have started : t = startTransfer n s := checkTransfers_lowest idle first lowest
    rw [started]
    exact ⟨rfl, startTransfer_commit n s, startTransfer_output n s, fun _ => startTransfer_other, rfl⟩
  · intro s n awake busy
    refine ⟨checkTransfers (transferred n s), ?_, rfl, ?_, ?_, checkTransferred_engine,
      fun _ => checkTransferred_other, fun _ started _ => checkTransferred_started started, checkTransfers_eq _⟩
    · rw [exec_awake .transferCompletion awake, completeTransfer_eq busy]
    · exact (checkTransferred_served (.inl rfl)).trans (transferred_commit n s)
    · exact (checkTransferred_served (.inr rfl)).trans (transferred_output n s)

end Sys2Proof.Machine
end

section
/-! SUPPORT. The requests on buffers (R121 to R128): what each answers for the buffer its argument names, and what the
states of a buffer become. -/

namespace Sys2Proof.Machine

/-! ### An argument that names no buffer -/

section
variable {args : List Byte} (h : 64 ≤ byteAt args 0) (s : State)
include h

theorem lockBuffer_noIndex : lockBuffer args s = refuse .range s := by
  simp only [lockBuffer, indexOf_of_ge h]

theorem unlockBuffer_noIndex : unlockBuffer args s = refuse .range s := by
  simp only [unlockBuffer, indexOf_of_ge h]

theorem writeScene_noIndex : writeScene args s = refuse .range s := by
  simp only [writeScene, indexOf_of_ge h]

theorem commitBuffer_noIndex : commitBuffer args s = refuse .range s := by
  simp only [commitBuffer, indexOf_of_ge h]

theorem configureBuffer_noIndex : configureBuffer args s = refuse .range s := by
  simp only [configureBuffer, indexOf_of_ge h]

theorem enableBuffer_noIndex : enableBuffer args s = refuse .range s := by
  simp only [enableBuffer, indexOf_of_ge h]

theorem disableBuffer_noIndex : disableBuffer args s = refuse .range s := by
  simp only [disableBuffer, indexOf_of_ge h]

end

/-! ### What a configuration makes of the pair (R122) -/

section
variable {c : BufferConfig} {i : BufferIx} {s : State}

theorem configure_paired (type : c.type = .paired) : configure i c s =
    setBuffer (partner i) (withFilter c (setType c.type s.scene.buffers[partner i]))
      (setBuffer i { setType c.type s.scene.buffers[i] with commitMode := c.commitMode } s) := by
  simp only [configure, type]

theorem configure_single (type : c.type = .single) (single : s.scene.buffers[i].type = .single) :
    configure i c s = setBuffer i (withFilter c s.scene.buffers[i]) s := by
  simp only [configure, type, single]

theorem configure_parted (type : c.type = .single) (paired : s.scene.buffers[i].type = .paired) : configure i c s =
    setBuffer (partner i) (setType c.type s.scene.buffers[partner i])
      (setBuffer i (withFilter c (setType c.type s.scene.buffers[i])) s) := by
  simp only [configure, type, paired]

end

/-! ### The buffer an argument names -/

section
variable {args : List Byte} {s : State} {i : BufferIx} (ix : byteAt args 0 = i.val)
include ix

theorem lockBuffer_index : lockBuffer args s =
    if isOutputSide i s.scene.buffers[i] then refuse .pairError s
    else if s.scene.buffers[i].state = .transfer then refuse .lockError s
    else done (setBuffer i { s.scene.buffers[i] with state := lockedState s.scene.buffers[i].state } s) := by
  simp only [lockBuffer, indexOf_of_lt ix]

theorem unlockBuffer_index : unlockBuffer args s =
    if isOutputSide i s.scene.buffers[i] then refuse .pairError s
    else done (checkTransfers
      (setBuffer i { s.scene.buffers[i] with state := unlockedState s.scene.buffers[i].state } s)) := by
  simp only [unlockBuffer, indexOf_of_lt ix]

theorem writeScene_index : writeScene args s =
    if isOutputSide i s.scene.buffers[i] then refuse .pairError s
    else if s.scene.buffers[i].state = .transfer then refuse .collide s
    else if isLocked s.scene.buffers[i] then
      (sceneArgs args).elim (refuse .range s) fun sc => done (setBuffer i (writtenBuffer s.scene.buffers[i])
        { s with scene.store := s.scene.store.set s.scene.buffers[i].slot sc })
    else refuse .state s := by
  simp only [writeScene, indexOf_of_lt ix]
  cases sceneArgs args <;> cases isLocked s.scene.buffers[i] <;> rfl

theorem commitBuffer_index : commitBuffer args s =
    if isOutputSide i s.scene.buffers[i] then refuse .pairError s
    else if isLocked s.scene.buffers[i] then done (setBuffer i (committedBuffer s.scene.buffers[i]) s)
    else refuse .state s := by
  simp only [commitBuffer, indexOf_of_lt ix]
  cases isLocked s.scene.buffers[i] <;> rfl

theorem configureBuffer_index : configureBuffer args s = (bufferArgs args).elim (refuse .range s) fun c =>
    if configurable i c.type s.scene then done (configure i c s) else refuse .state s := by
  simp only [configureBuffer, indexOf_of_lt ix]
  cases bufferArgs args <;> rfl

theorem enableBuffer_single (single : s.scene.buffers[i].type = .single) : enableBuffer args s =
    if bufferEnabled s.scene.buffers[i] then done s
    else done (checkTransfers
      (setBuffer i { s.scene.buffers[i] with state := enabledState s.scene.buffers[i].state } s)) := by
  simp only [enableBuffer, indexOf_of_lt ix, single]

theorem enableBuffer_commit (paired : s.scene.buffers[i].type = .paired) (even : i.val % 2 = 0) :
    enableBuffer args s = refuse .ignored s := by
  simp only [enableBuffer, indexOf_of_lt ix, paired, isEven, even, decide_true, if_true]

theorem enableBuffer_output (paired : s.scene.buffers[i].type = .paired) (odd : i.val % 2 = 1) : enableBuffer args s =
    if s.scene.buffers[i].state = .disabled then done (checkTransfers (bothSides enabledState i s)) else done s := by
  simp [enableBuffer, indexOf_of_lt ix, paired, isEven, odd, -Fin.getElem_fin]

theorem disableBuffer_single (single : s.scene.buffers[i].type = .single) : disableBuffer args s =
    if s.scene.buffers[i].state = .selected then refuse .ignored s
    else done (setBuffer i { s.scene.buffers[i] with state := disabledState s.scene.buffers[i].state } s) := by
  simp only [disableBuffer, indexOf_of_lt ix, single]

theorem disableBuffer_commit (paired : s.scene.buffers[i].type = .paired) (even : i.val % 2 = 0) :
    disableBuffer args s = refuse .ignored s := by
  simp only [disableBuffer, indexOf_of_lt ix, paired, isEven, even, decide_true, if_true]

theorem disableBuffer_output (paired : s.scene.buffers[i].type = .paired) (odd : i.val % 2 = 1) :
    disableBuffer args s = if s.scene.buffers[i].state = .idle then done (bothSides disabledState i s)
      else if s.scene.buffers[i].state = .disabled then done s
      else refuse .ignored s := by
  simp [disableBuffer, indexOf_of_lt ix, paired, isEven, odd, -Fin.getElem_fin]

end

/-! ### The states of a buffer (R123, R124, R127, R128) -/

theorem lockedState_eq {st : BufferState} (h : st ≠ .transfer) :
    lockedState st = if st = .disabled ∨ st = .disabledLocked then .disabledLocked else .locked := by
  cases st <;> simp [lockedState] at h ⊢

theorem unlockedState_eq (st : BufferState) : unlockedState st =
    if st = .locked then .idle else if st = .disabledLocked then .disabled else st := by
  cases st <;> rfl

theorem enabledState_eq (st : BufferState) : enabledState st =
    if st = .disabled then .idle else if st = .disabledLocked then .locked else st := by
  cases st <;> rfl

theorem disabledState_eq (st : BufferState) : disabledState st =
    if st = .idle then .disabled else if st = .locked then .disabledLocked else st := by
  cases st <;> rfl

theorem not_transfer_of_locked {b : Buffer} (h : b.state = .locked ∨ b.state = .disabledLocked) :
    b.state ≠ .transfer := by
  rcases h with h | h <;> rw [h] <;> nofun

/-- R125, R126: a write and a commit clear the PLAYED of a SINGLE buffer alone. -/
theorem played_eq (b : Buffer) :
    (if b.type = .single then false else b.played) = (decide (b.type = .paired) && b.played) := by
  cases b.type <;> simp

end Sys2Proof.Machine
end

section
/-! THEOREMS. The requests on buffers. -/

namespace Sys2Proof.Machine

/-- Settles O36, request by request and check by check. -/
theorem editingRequestsActOnTheBuffer : Obligations.EditingRequestsActOnTheBuffer := by
  refine ⟨fun slot q s i ix sided => ?_, fun slot q s => ⟨fun h => ?_, fun i ix => ⟨fun sided => ?_, fun sided => ?_⟩⟩⟩
  · have side := mt isOutputSide_iff.1 sided
    refine ⟨fun take free => take.exec_eq ?_, fun take => take.exec_eq ?_, fun sc take locked read => take.exec_eq ?_,
      fun take locked => take.exec_eq ?_⟩
    · rw [← lockedState_eq free]
      exact (lockBuffer_index ix).trans ((if_neg side).trans (if_neg free))
    · rw [← unlockedState_eq]
      exact (unlockBuffer_index ix).trans (if_neg side)
    · rw [← played_eq]
      exact (writeScene_index ix).trans ((if_neg side).trans ((if_neg (not_transfer_of_locked locked)).trans
        ((if_pos ((isLocked_iff _).2 locked)).trans (by rw [read]; rfl))))
    · rw [← played_eq]
      exact (commitBuffer_index ix).trans ((if_neg side).trans (if_pos ((isLocked_iff _).2 locked)))
  · exact ⟨fun take => take.answersOnly (lockBuffer_noIndex h _),
      fun take => take.answersOnly (unlockBuffer_noIndex h _),
      fun take => take.answersOnly (writeScene_noIndex h _), fun take => take.answersOnly (commitBuffer_noIndex h _)⟩
  · have side := isOutputSide_iff.2 sided
    exact ⟨fun take => take.answersOnly ((lockBuffer_index ix).trans (if_pos side)),
      fun take => take.answersOnly ((unlockBuffer_index ix).trans (if_pos side)),
      fun take => take.answersOnly ((writeScene_index ix).trans (if_pos side)),
      fun take => take.answersOnly ((commitBuffer_index ix).trans (if_pos side))⟩
  · have side := mt isOutputSide_iff.1 sided
    refine ⟨fun busy => ⟨fun take => take.answersOnly ?_, fun take => take.answersOnly ?_⟩,
      fun hl hd take => take.answersOnly ?_, fun free hl hd take => take.answersOnly ?_,
      fun locked unread take => take.answersOnly ?_⟩
    · exact (lockBuffer_index ix).trans ((if_neg side).trans (if_pos busy))
    · exact (writeScene_index ix).trans ((if_neg side).trans (if_pos busy))
    · have unlocked := mt (isLocked_iff _).1 (not_or.2 ⟨hl, hd⟩)
      exact (commitBuffer_index ix).trans ((if_neg side).trans (if_neg unlocked))
    · have unlocked := mt (isLocked_iff _).1 (not_or.2 ⟨hl, hd⟩)
      exact (writeScene_index ix).trans ((if_neg side).trans ((if_neg free).trans (if_neg unlocked)))
    · exact (writeScene_index ix).trans ((if_neg side).trans ((if_neg (not_transfer_of_locked locked)).trans
        ((if_pos ((isLocked_iff _).2 locked)).trans (by rw [unread]; rfl))))

/-- Settles O37: what a taken configuration makes of each type, and the checks. -/
theorem configureBufferSetsThePair : Obligations.ConfigureBufferSetsThePair := by
  refine ⟨fun slot q s i c take ix read own even other _ => take.exec_eq ?_, fun slot q s take => ⟨fun h => ?_, ?_⟩⟩
  · have fits : configurable i c.type s.scene = true := by
      cases ht : c.type with
      | paired => exact configurable_paired.2 ⟨even ht, own, other (.inl ht)⟩
      | single => exact configurable_single.2 ⟨own, fun hp => other (.inr hp)⟩
    refine (configureBuffer_index ix).trans ?_
    rw [read, Option.elim_some]
    refine (if_pos fits).trans (congrArg done ?_)
    dsimp only
    split
    · next ht => exact configure_paired ht
    · next ht hb => exact configure_single (s := taken .configureBuffer slot s) ht hb
    · next ht hb => exact configure_parted (s := taken .configureBuffer slot s) ht hb
  · refine take.answersOnly ?_
    rcases Nat.lt_or_ge (byteAt q.args 0) 64 with inside | outside
    · have read := h.resolve_left (Nat.not_le.2 inside)
      exact (configureBuffer_index (i := ⟨_, inside⟩) rfl).trans (by rw [read]; rfl)
    · exact configureBuffer_noIndex outside _
  · intro i c ix read
    have refused (misfit : ¬configurable i c.type s.scene = true) : AnswersOnly .configureBuffer slot q .state s := by
      refine take.answersOnly ((configureBuffer_index ix).trans ?_)
      rw [read, Option.elim_some]
      exact if_neg misfit
    refine ⟨fun ht misfit => refused fun fits => ?_, fun ht misfit => refused fun fits => ?_⟩
    · rw [ht] at fits
      obtain ⟨even, own, other⟩ := configurable_paired.1 fits
      rcases misfit with h | h | h
      · omega
      · exact h own
      · exact h other
    · rw [ht] at fits
      obtain ⟨own, other⟩ := configurable_single.1 fits
      rcases misfit with h | ⟨paired, h⟩
      · exact h own
      · exact h (other paired)

/-- Settles O38, by the type of the buffer and the state it is found in. -/
theorem buffersAreEnabledAndDisabled : Obligations.BuffersAreEnabledAndDisabled := by
  refine ⟨fun slot q s i ix => ?_, fun slot q s => ⟨fun h => ?_, fun i ix => ?_⟩⟩
  · refine ⟨fun take single disabled => take.exec_eq ?_, fun take paired odd disabled => take.exec_eq ?_,
      fun take single unselected => take.exec_eq ?_, fun take paired odd idle => take.exec_eq ?_⟩
    · have off : ¬bufferEnabled s.scene.buffers[i] = true := fun h => bufferEnabled_iff.1 h disabled
      refine (enableBuffer_single (s := taken .enableBuffer slot s) ix single).trans ((if_neg off).trans ?_)
      rw [enabledState_eq]
      rfl
    · refine (enableBuffer_output (s := taken .enableBuffer slot s) ix paired odd).trans ((if_pos disabled).trans ?_)
      rw [bothSides, enabledState_eq, enabledState_eq]
      rfl
    · refine (disableBuffer_single (s := taken .disableBuffer slot s) ix single).trans ((if_neg unselected).trans ?_)
      rw [disabledState_eq]
      rfl
    · refine (disableBuffer_output (s := taken .disableBuffer slot s) ix paired odd).trans ((if_pos idle).trans ?_)
      rw [bothSides, disabledState_eq, disabledState_eq]
      rfl
  · exact ⟨fun take => take.answersOnly (enableBuffer_noIndex h _),
      fun take => take.answersOnly (disableBuffer_noIndex h _)⟩
  · have enable_single := enableBuffer_single (s := taken .enableBuffer slot s) ix
    have enable_output := enableBuffer_output (s := taken .enableBuffer slot s) ix
    have disable_single := disableBuffer_single (s := taken .disableBuffer slot s) ix
    have disable_output := disableBuffer_output (s := taken .disableBuffer slot s) ix
    refine ⟨fun paired even => ⟨fun take => take.answersOnly ?_, fun take => take.answersOnly ?_⟩,
      fun sided hd hl take => take.answersOnly ?_,
      fun single selected take => take.answersOnly ((disable_single single).trans (if_pos selected)),
      fun paired odd => ⟨fun busy take => take.answersOnly ?_, fun disabled take => take.answersOnly ?_⟩⟩
    · exact enableBuffer_commit ix paired even
    · exact disableBuffer_commit ix paired even
    · cases hb : s.scene.buffers[i].type with
      | single => exact (enable_single hb).trans (if_pos (bufferEnabled_iff.2 (not_or.2 ⟨hd, hl⟩)))
      | paired =>
        have odd := sided.resolve_left fun h => nomatch hb.symm.trans h
        exact (enable_output hb odd).trans (if_neg hd)
    · have active : s.scene.buffers[i].state ≠ .idle ∧ s.scene.buffers[i].state ≠ .disabled := by
        rcases busy with h | h <;> rw [show s.scene.buffers[i].state = _ from h] <;> exact ⟨nofun, nofun⟩
      exact (disable_output paired odd).trans ((if_neg active.1).trans (if_neg active.2))
    · have busy : s.scene.buffers[i].state ≠ .idle := by
        rw [show s.scene.buffers[i].state = _ from disabled]
        nofun
      exact (disable_output paired odd).trans ((if_neg busy).trans (if_pos disabled))

end Sys2Proof.Machine
end

section
/-! SUPPORT. The step start (R135, R136, R141, R149): the state it captures, on which the engine makes its check. -/

namespace Sys2Proof.Machine

/-- R149: what is handed of a search abandoned. -/
def lateNotice (search : Option Nat) : List Instr :=
  match search with
  | some step => [.noticeOffer .searchLate 0 step]
  | none => []

theorem abandonSearch_eq (s : State) : abandonSearch s =
    { s with scene.search := none, handed := s.handed ++ lateNotice s.scene.search } := by
  unfold abandonSearch
  split
  · next h =>
    rw [h]
    rfl
  · next h =>
    rw [h, lateNotice, List.append_nil, ← h]

theorem unselected_eq (b : Buffer) :
    unselected b = { b with state := if b.state = .selected then .idle else b.state } := by
  unfold unselected
  split <;> rfl

theorem unselected_enabled (b : Buffer) : bufferEnabled (unselected b) = bufferEnabled b := by
  unfold unselected
  split
  · next h =>
    unfold bufferEnabled
    rw [h]
    rfl
  · rfl

theorem bufferEnabled_idle {b : Buffer} (h : b.state = .idle) : bufferEnabled b = true := by
  simp [bufferEnabled, h]

theorem unselected_of_disabled {b : Buffer} (h : bufferEnabled b = false) : unselected b = b := by
  unfold unselected
  split
  · next selected => simp [bufferEnabled, selected] at h
  · rfl

/-- R135, R136: the view captured once the SELECTED buffers are IDLE again. -/
def stepView (s : State) : List Candidate := captureView { s with scene.buffers := s.scene.buffers.map unselected }

/-- The state of a step start before the engine's check. -/
def stepCaptured (s : State) : State := { s with
  scene.stepCounter := (s.scene.stepCounter + 1) % 64, scene.stepTimer := some s.scene.stepPeriod
  scene.search := some ((s.scene.stepCounter + 1) % 64), scene.view := stepView s
  scene.buffers := s.scene.buffers.map unselected
  handed := s.handed ++ lateNotice s.scene.search }

section
variable (s : State)

theorem stepCaptured_buffer (i : BufferIx) : (stepCaptured s).scene.buffers[i] = unselected s.scene.buffers[i] :=
  get_map ..

/-- The engine's check does not read whether a search is in flight. -/
theorem checkTransfers_search (search : Option Nat) :
    { checkTransfers s with scene.search := search } = checkTransfers { s with scene.search := search } := by
  unfold checkTransfers
  cases s.scene.engine with
  | some _ => rfl
  | none =>
    have same : eligible { s.scene with search := search } = eligible s.scene := rfl
    dsimp only
    rw [same]
    cases (List.finRange 32).find? (eligible s.scene) <;> rfl

/-- A completion does not read whether a search is in flight. -/
theorem finishSearch_search (step : Nat) (search : Option Nat) :
    finishSearch step { s with scene.search := search } = finishSearch step s := by
  unfold finishSearch
  dsimp only

theorem stepBegun_eq : stepBegun s = checkTransfers (stepCaptured s) := by
  unfold stepBegun
  dsimp only
  rw [abandonSearch_eq]
  exact checkTransfers_search _ _

theorem startStep_eq : startStep s = if noBufferEnabled (stepBegun s).scene
    then finishSearch ((s.scene.stepCounter + 1) % 64) (stepBegun s) else stepBegun s := rfl

/-- A step start leaves each buffer but for its state: TRANSFER where the check starts the pair, and SELECTED no
longer. -/
theorem stepBegun_buffer (i : BufferIx) : (stepBegun s).scene.buffers[i] = { s.scene.buffers[i] with
    state := if s.scene.engine = none ∧ ∃ n, (stepBegun s).scene.engine = some n ∧ (i = commitSide n ∨ i = outputSide n)
      then .transfer
      else if s.scene.buffers[i].state = .selected then .idle else s.scene.buffers[i].state } := by
  have kept := (stepCaptured_buffer s i).trans (unselected_eq _)
  rw [stepBegun_eq]
  obtain h | ⟨n, idle, -, h⟩ := checkTransfers_cases (stepCaptured s) <;> rw [h]
  · rw [if_neg (by rintro ⟨idle, n, busy, -⟩; exact absurd (idle.symm.trans busy) nofun)]
    exact kept
  · rcases Classical.em (i = commitSide n ∨ i = outputSide n) with side | other
    · rw [if_pos ⟨idle, n, rfl, side⟩, startTransfer_side side, kept]
    · rw [if_neg (by rintro ⟨-, m, started, side⟩; cases started; exact other side),
        startTransfer_other (fun e => other (.inl e)) (fun e => other (.inr e)), kept]

theorem stepBegun_enabled {i : BufferIx} (h : bufferEnabled s.scene.buffers[i] = true) :
    noBufferEnabled (stepBegun s).scene = false := by
  have enabled : bufferEnabled (stepBegun s).scene.buffers[i] = true := by
    rw [bufferEnabled_iff] at h ⊢
    rw [stepBegun_buffer]
    dsimp only
    split
    · nofun
    · split
      · nofun
      · exact h
  have member : (stepBegun s).scene.buffers[i] ∈ (stepBegun s).scene.buffers.toList :=
    Vector.mem_toList_iff.2 (Vector.getElem_mem i.isLt)
  unfold noBufferEnabled
  rw [Bool.not_eq_false', List.any_eq_true]
  exact ⟨_, member, enabled⟩

/-! ### The view (R136) -/

theorem stepView_buffers : (stepView s).map (·.buffer) = (List.finRange 64).filter fun i =>
    (s.scene.buffers[i].state = .idle || s.scene.buffers[i].state = .selected) && s.scene.buffers[i].committed &&
      !(s.scene.buffers[i].type = .paired && i.val % 2 = 0) := by
  unfold stepView captureView
  rw [List.map_map, show (fun c : Candidate => c.buffer) ∘ candidateOf _ = id from rfl, List.map_id]
  refine List.filter_congr fun i _ => ?_
  dsimp only
  rw [get_map, unselected_eq]
  generalize s.scene.buffers[i] = b
  cases b.state <;> simp [isCandidate, isCommitSide, isEven, Bool.and_comm]

theorem mem_stepView {c : Candidate} (h : c ∈ stepView s) :
    c.generation = s.scene.buffers[c.buffer].generation ∧ c.priority = s.scene.buffers[c.buffer].priority ∧
    c.filterValue = s.scene.buffers[c.buffer].filterValue ∧ c.filterMask = s.scene.buffers[c.buffer].filterMask ∧
    c.scene = s.scene.store[s.scene.buffers[c.buffer].slot] := by
  obtain ⟨i, -, rfl⟩ := List.mem_map.1 h
  dsimp only [candidateOf, sceneOf]
  rw [get_map, unselected_eq]
  exact ⟨rfl, rfl, rfl, rfl, rfl⟩

/-! ### No buffer enabled (R149) -/

section
variable {s} (disabled : ∀ i : BufferIx, bufferEnabled s.scene.buffers[i] = false)
include disabled

theorem unselected_disabled : s.scene.buffers.map unselected = s.scene.buffers :=
  Vector.ext fun i hi => (get_map _ _ (⟨i, hi⟩ : BufferIx)).trans (unselected_of_disabled (disabled ⟨i, hi⟩))

theorem stepView_disabled : stepView s = [] := by
  unfold stepView captureView
  rw [unselected_disabled disabled]
  simp only [List.map_eq_nil_iff, List.filter_eq_nil_iff]
  intro i _ h
  have idle : s.scene.buffers[i].state = .idle := by
    simp only [isCandidate, Bool.and_eq_true, decide_eq_true_eq] at h
    exact h.1.2
  have enabled := disabled i
  rw [bufferEnabled_idle idle] at enabled
  cases enabled

theorem stepBegun_disabled : stepBegun s = stepCaptured s := by
  refine (stepBegun_eq s).trans (checkTransfers_nothing fun n => ?_)
  rw [Bool.eq_false_iff]
  intro h
  obtain ⟨-, idle, -⟩ := eligible_iff.1 h
  have enabled := disabled (commitSide n)
  rw [← unselected_enabled, ← stepCaptured_buffer, bufferEnabled_idle idle] at enabled
  cases enabled

theorem noBufferEnabled_disabled : noBufferEnabled (stepBegun s).scene = true := by
  rw [stepBegun_disabled disabled]
  unfold noBufferEnabled
  simp only [Bool.not_eq_true', List.any_eq_false, Vector.mem_toList_iff, Bool.not_eq_true]
  intro b hb
  obtain ⟨i, hi, rfl⟩ := Vector.mem_iff_getElem.1 hb
  refine .trans (congrArg bufferEnabled (stepCaptured_buffer s ⟨i, hi⟩)) ?_
  rw [unselected_enabled, disabled]

end
end

end Sys2Proof.Machine
end

section
/-! THEOREMS. The step start. -/

namespace Sys2Proof.Machine

/-- Settles O39: the state captured and the check on it; with no buffer enabled neither the buffers nor the engine
move, and the completion does not read whether a search is in flight. -/
theorem stepStartCapturesTheView : Obligations.StepStartCapturesTheView := by
  constructor
  · intro s awake ⟨i, hi⟩
    have frame := (stepBegun_eq s).trans (checkTransfers_eq (stepCaptured s))
    have started : startStep s = stepBegun s := by
      rw [startStep_eq, stepBegun_enabled s (bufferEnabled_iff.2 (not_or.2 hi))]
      rfl
    refine ⟨stepBegun s, ?_, ?_, ?_, ?_, ?_, ?_, ?_, ?_, ?_, ?_, stepBegun_buffer s, ?_, ?_, ?_, ?_, ?_⟩
    · rw [exec_awake .stepStart awake, started]
    · rw [congrArg (·.scene.view) frame, congrArg (·.handed) frame]
      exact stepBegun_eq s
    · rw [frame]; rfl
    · rw [frame]; rfl
    · rw [frame]; rfl
    · rw [frame]; rfl
    · rw [frame]; rfl
    · rw [frame]; rfl
    · rw [frame]
      exact stepView_buffers s
    · rw [frame]
      exact fun c => mem_stepView s
    · intro busy
      rw [stepBegun_eq, checkTransfers_busy (s := stepCaptured s) busy]
      rfl
    · rw [frame]; rfl
    · rw [frame]; rfl
    · rw [frame]; rfl
    · rw [frame]; rfl
  · intro s awake all
    have disabled (i : BufferIx) : bufferEnabled s.scene.buffers[i] = false :=
      Bool.eq_false_iff.2 fun enabled => bufferEnabled_iff.1 enabled (all i)
    rw [exec_awake .stepStart awake, startStep_eq, noBufferEnabled_disabled disabled, if_pos rfl,
      stepBegun_disabled disabled, stepCaptured, unselected_disabled disabled, stepView_disabled disabled]
    exact congrArg (fun t => Host.Outcome.next (arbitrate t)) (finishSearch_search { s with
      scene.stepCounter := (s.scene.stepCounter + 1) % 64, scene.stepTimer := some s.scene.stepPeriod
      scene.view := [], handed := s.handed ++ lateNotice s.scene.search } _ _)

end Sys2Proof.Machine
end

section
/-! SUPPORT. The levels of a search completion (R150, R156): what the walk over the groups leaves of each group and of
the Command Queue. -/

namespace Sys2Proof.Machine

/-! ### One group -/

/-- Working out a level does not touch what was last sent. -/
theorem wonGroup_lastSent (w : Winner) (g : Group) : (wonGroup w g).lastSent = g.lastSent := by
  unfold wonGroup
  extract_lets drives
  cases drives
  · rfl
  · dsimp only
    rw [if_pos rfl]
    split <;> rfl

theorem beforeCeiling_lastSent (r : SearchResult) (g : Group) : (beforeCeiling r g).lastSent = g.lastSent := by
  cases r with
  | winner w => exact wonGroup_lastSent w g
  | hold => rfl
  | none => rfl

theorem levelledGroup_lastSent (s : State) (r : SearchResult) (g : Group) :
    (levelledGroup s r g).lastSent = g.lastSent := by
  unfold levelledGroup underCeiling
  split
  · rfl
  · split <;> exact beforeCeiling_lastSent r { g with hazeBlocked := false }

/-- A level is worked out from the Fog Monitor and the modes alone, besides the result and the group. -/
theorem levelledGroup_reads {s t : State} (fog : t.fog = s.fog) (mode : t.mode = s.mode) (r : SearchResult)
    (g : Group) : levelledGroup t r g = levelledGroup s r g := by
  have covers (sh : Sheet) : covered t sh = covered s sh := by cases sh <;> simp only [covered, mode]
  have blocked : blockedNow t g.defn = blockedNow s g.defn := by simp only [blockedNow, covers, fogOf, fog]
  unfold levelledGroup profileInForce
  rw [blocked, mode]

/-- R150, R156: a group record after a completion. -/
def sentGroup (s : State) (r : SearchResult) (g : Group) : Group :=
  if g.state = .enabled then { levelledGroup s r g with lastSent := some (levelledGroup s r g).level } else g

/-- R156: the command of a group at a completion. -/
def levelCommands (s : State) (r : SearchResult) (g : Group) : List (ActAddr × Nat) :=
  if g.state = .enabled ∧ g.lastSent ≠ some (levelledGroup s r g).level then
    [(g.defn.dimmer, (levelledGroup s r g).level)]
  else []

theorem sentGroup_held (s : State) (r : SearchResult) (g : Group) :
    (sentGroup s r g).state = g.state ∧ (sentGroup s r g).defn = g.defn := by
  unfold sentGroup
  split
  · exact levelledGroup_held s r g
  · exact ⟨rfl, rfl⟩

theorem sentGroup_enabled (s : State) (r : SearchResult) {g : Group} (h : g.state = .enabled) : sentGroup s r g =
    { levelledGroup s r g with lastSent := some (levelledGroup s r g).level } := if_pos h

theorem sentGroup_other (s : State) (r : SearchResult) {g : Group} (h : g.state ≠ .enabled) : sentGroup s r g = g :=
  if_neg h

theorem sendLevel_groups (i : GroupIx) (g : Group) (s : State) : (sendLevel i g s).scene.groups =
    s.scene.groups.set i { g with lastSent := some g.level } := by
  unfold sendLevel
  split
  · next sent =>
    rw [← sent]
    rfl
  · rfl

theorem levelGroup_groups (rs : Vector SearchResult 32) (s : State) (i : GroupIx) :
    (levelGroup rs s i).scene.groups = s.scene.groups.set i (sentGroup s rs[i] s.scene.groups[i]) := by
  unfold levelGroup sentGroup
  dsimp only
  split
  · exact sendLevel_groups ..
  · rw [set_getElem_self]

theorem levelGroup_queue (rs : Vector SearchResult 32) (s : State) (i : GroupIx) : (levelGroup rs s i).line.queue =
    enqueueAll (levelCommands s rs[i] s.scene.groups[i]) s.line.queue := by
  unfold levelGroup levelCommands
  dsimp only
  split
  · next enabled =>
    unfold sendLevel
    rw [levelledGroup_lastSent, (levelledGroup_held s _ _).2]
    split
    · next sent => rw [if_neg fun h => h.2 sent]; rfl
    · next unsent => rw [if_pos ⟨enabled, unsent⟩]; rfl
  · next off => rw [if_neg fun h => off h.1]; rfl

/-! ### The walk over the groups -/

/-- Working out levels reads the same in both states. -/
structure SameForLevels (s t : State) : Prop where
  fog : t.fog = s.fog
  mode : t.mode = s.mode

theorem SameForLevels.levelGroup {s t : State} (h : SameForLevels s t) (rs : Vector SearchResult 32) (i : GroupIx) :
    SameForLevels s (levelGroup rs t i) := ⟨by simp [h.fog], by simp [h.mode]⟩

theorem SameForLevels.sentGroup {s t : State} (h : SameForLevels s t) (r : SearchResult) (g : Group) :
    sentGroup t r g = sentGroup s r g := by
  unfold Machine.sentGroup
  rw [levelledGroup_reads h.fog h.mode]

theorem SameForLevels.levelCommands {s t : State} (h : SameForLevels s t) (r : SearchResult) (g : Group) :
    levelCommands t r g = levelCommands s r g := by
  unfold Machine.levelCommands
  rw [levelledGroup_reads h.fog h.mode]

theorem levelGroup_get_other (rs : Vector SearchResult 32) (s : State) {i j : GroupIx} (h : j ≠ i) :
    (levelGroup rs s i).scene.groups[j] = s.scene.groups[j] := by
  rw [levelGroup_groups]
  exact getElem_set_other h

theorem levelGroups_get (rs : Vector SearchResult 32) {s : State} {l : List GroupIx} (once : l.Nodup) {t : State}
    (same : SameForLevels s t) (j : GroupIx) : (l.foldl (levelGroup rs) t).scene.groups[j] =
      if j ∈ l then sentGroup s rs[j] t.scene.groups[j] else t.scene.groups[j] := by
  induction l generalizing t with
  | nil => rfl
  | cons i l ih =>
    obtain ⟨ahead, once⟩ := List.nodup_cons.1 once
    rw [List.foldl_cons, ih once (same.levelGroup rs i)]
    rcases Classical.em (j = i) with rfl | h
    · rw [if_neg ahead, if_pos List.mem_cons_self, levelGroup_groups, same.sentGroup]
      exact getElem_set_same
    · rw [levelGroup_get_other rs t h]
      simp only [List.mem_cons, h, false_or]

theorem levelGroups_queue (rs : Vector SearchResult 32) {s : State} {l : List GroupIx} (once : l.Nodup) {t : State}
    (same : SameForLevels s t) : (l.foldl (levelGroup rs) t).line.queue =
      enqueueAll (l.flatMap fun i => levelCommands s rs[i] t.scene.groups[i]) t.line.queue := by
  refine foldl_enqueues (levelGroup rs) (fun i => levelCommands s rs[i] t.scene.groups[i])
    (fun l u => l.Nodup ∧ SameForLevels s u ∧ ∀ i ∈ l, u.scene.groups[i] = t.scene.groups[i])
    (fun i l u ⟨once, same, ahead⟩ => ?_) l t ⟨once, same, fun _ _ => rfl⟩
  obtain ⟨new, once⟩ := List.nodup_cons.1 once
  refine ⟨?_, once, same.levelGroup rs i, fun j hj => ?_⟩
  · rw [levelGroup_queue, same.levelCommands, ahead i List.mem_cons_self]
  · have apart : j ≠ i := fun e => new (e ▸ hj)
    exact (levelGroup_get_other rs u apart).trans (ahead j (List.mem_cons_of_mem i hj))

/-! ### The levels of a completion -/

section
variable (step : Nat) (s : State)

theorem searchResults_get (view : List Candidate) (i : GroupIx) :
    (searchResults view step)[i] = searchGroup view step i := Vector.getElem_ofFn ..

theorem levelledState_group (i : GroupIx) : (levelledState step s).scene.groups[i] =
    sentGroup s (searchGroup s.scene.view step i) s.scene.groups[i] := by
  have same : SameForLevels s { s with
      scene.search := none, scene.results := searchResults s.scene.view step } := ⟨rfl, rfl⟩
  unfold levelledState groupOrder
  rw [levelGroups_get _ (List.nodup_finRange 32) same, if_pos (List.mem_finRange i), searchResults_get]

theorem levelledState_queue : (levelledState step s).line.queue = enqueueAll ((List.finRange 32).flatMap fun i =>
    levelCommands s (searchGroup s.scene.view step i) s.scene.groups[i]) s.line.queue := by
  have same : SameForLevels s { s with
      scene.search := none, scene.results := searchResults s.scene.view step } := ⟨rfl, rfl⟩
  unfold levelledState groupOrder
  rw [levelGroups_queue _ (List.nodup_finRange 32) same]
  simp only [searchResults_get]

theorem levelledState_result (i : GroupIx) :
    (levelledState step s).scene.results[i] = searchGroup s.scene.view step i := by
  rw [levelledState_scene]
  exact searchResults_get ..

theorem levelledState_view : (levelledState step s).scene.view = s.scene.view := by
  rw [levelledState_scene]

end

end Sys2Proof.Machine
end

section
/-! SUPPORT. The winners of a search completion: the settling starts of its flashes (R157) and its marks
(R137, R138). -/

namespace Sys2Proof.Machine

/-! ### Winners (R148) -/

theorem wonSome_iff {s : State} {p : Group → Bool} {c : Candidate} : wonSome s p c = true ↔
    ∃ i : GroupIx, ∃ w, s.scene.groups[i].state = .enabled ∧ s.scene.results[i] = .winner w ∧ w.buffer = c.buffer ∧
      p s.scene.groups[i] = true := by
  have won (r : SearchResult) : wonBy c r = true ↔ ∃ w, r = .winner w ∧ w.buffer = c.buffer := by
    cases r <;> simp [wonBy]
  simp only [wonSome, groupOrder, List.any_eq_true, List.mem_finRange, true_and, Bool.and_eq_true, won,
    decide_eq_true_eq]
  exact ⟨fun ⟨i, ⟨⟨w, hr, hw⟩, on⟩, hp⟩ => ⟨i, w, on, hr, hw, hp⟩,
    fun ⟨i, w, on, hr, hw, hp⟩ => ⟨i, ⟨⟨w, hr, hw⟩, on⟩, hp⟩⟩

theorem isWinner_iff {s : State} {c : Candidate} : isWinner s c = true ↔
    ∃ i : GroupIx, ∃ w, s.scene.groups[i].state = .enabled ∧ s.scene.results[i] = .winner w ∧ w.buffer = c.buffer := by
  simp only [isWinner, wonSome_iff, and_true]

/-- R148: the winners are told by the groups and the results. -/
theorem isWinner_reads {s t : State} (groups : t.scene.groups = s.scene.groups)
    (results : t.scene.results = s.scene.results) (c : Candidate) : isWinner t c = isWinner s c := by
  simp only [isWinner, wonSome, groups, results]

/-! ### Flashes (R157) -/

theorem flashReaches_iff {s : State} {sh : Sheet} : flashReaches s sh = true ↔
    ∃ c ∈ s.scene.view, c.scene.flash = true ∧ ∃ i : GroupIx, ∃ w, s.scene.groups[i].state = .enabled ∧
      s.scene.results[i] = .winner w ∧ w.buffer = c.buffer ∧ s.scene.groups[i].hazeBlocked = false ∧
      (match sh with
        | .one => s.scene.groups[i].defn.near1
        | .two => s.scene.groups[i].defn.near2) = true := by
  have near (g : Group) : flashesNear sh g = true ↔ g.hazeBlocked = false ∧
      (match sh with
        | .one => g.defn.near1
        | .two => g.defn.near2) = true := by
    cases sh <;> simp [flashesNear]
  simp only [flashReaches, List.any_eq_true, Bool.and_eq_true, wonSome_iff, near]

/-- R157: the haze points on which a flash starts settling. -/
def FlashSettles (s : State) (sh : Sheet) (p : PointIx) : Prop :=
  (sheetRec s.fog sh).state ≠ .unused ∧ (sheetRec s.fog sh).defn.haze = some p ∧ flashReaches s sh = true

theorem settleSheet_settled (s : State) (sh : Sheet) : SettledFrom (FlashSettles s sh) s (settleSheet s sh) := by
  unfold settleSheet
  dsimp only
  split
  · next due =>
    obtain ⟨used, reached⟩ := Bool.and_eq_true_iff.1 due
    split
    · next p haze =>
      refine settleStart_settledFrom.1.congr fun q => ⟨fun h => ?_, fun h => ⟨bne_iff_ne.1 used, ?_, reached⟩⟩
      · exact Option.some_inj.1 (h.2.1.symm.trans haze)
      · rw [haze, h]
    · next haze => exact settledFrom_same rfl fun p h => by cases haze.symm.trans h.2.1
  · next idle => exact settledFrom_same rfl fun p h => idle (by simp [h.1, h.2.2])

/-- Both sheets settled, one after the other. -/
theorem settleSheets_settled (s : State) : SettledFrom (fun p => ∃ sh, FlashSettles s sh p) s
    (settleSheet (settleSheet s .one) .two) := by
  have second : SettledFrom (FlashSettles s .two) (settleSheet s .one) (settleSheet (settleSheet s .one) .two) :=
    (settleSheet_settled (settleSheet s .one) .two).congr fun p => by
      simp only [FlashSettles, flashReaches, wonSome, settleSheet_frame]
  refine (settleSheet_settled s .one).trans second fun p => ⟨fun ⟨sh, h⟩ => ?_, ?_⟩
  · cases sh with
    | one => exact .inl h
    | two => exact .inr h
  · rintro (h | h)
    · exact ⟨.one, h⟩
    · exact ⟨.two, h⟩

/-! ### One mark (R137, R138) -/

/-- R137, R138: a buffer record after the marks: SELECTED where it is marked, and with PLAYED and this step where it or
its output side is. -/
def stamped (step : Nat) (marked played : Bool) (b : Buffer) : Buffer := { b with
  state := if marked then .selected else b.state
  played := played || b.played
  lastPlayed := if played then some step else b.lastPlayed }

theorem stamped_none (step : Nat) (b : Buffer) : stamped step false false b = b := rfl

theorem stamped_stamped (step : Nat) (m p m' p' : Bool) (b : Buffer) :
    stamped step m' p' (stamped step m p b) = stamped step (m || m') (p || p') b := by
  cases m <;> cases p <;> cases m' <;> cases p' <;> rfl

/-- The candidate's buffer is marked when it is examined. -/
def markTaken (s : State) (c : Candidate) : Bool := isWinner s c && markable c s.scene.buffers[c.buffer]

theorem markCandidate_scene (step : Nat) (s : State) (c : Candidate) : (markCandidate step s c).scene =
    { s.scene with buffers := (markCandidate step s c).scene.buffers } := by
  unfold markCandidate copyStatus
  dsimp only
  split
  · split <;> rfl
  · rfl

theorem markCandidate_get (step : Nat) (s : State) (c : Candidate) (j : BufferIx) :
    (markCandidate step s c).scene.buffers[j] = stamped step (markTaken s c && decide (j = c.buffer))
      (markTaken s c && (decide (j = c.buffer) || (decide (j = partner c.buffer) &&
        isOutputSide c.buffer s.scene.buffers[c.buffer]))) s.scene.buffers[j] := by
  cases taken : markTaken s c with
  | false =>
    have same : markCandidate step s c = s := if_neg (by rw [← markTaken, taken]; nofun)
    rw [same]
    rfl
  | true =>
    have marks : markCandidate step s c = copyStatus c.buffer (markedBuffer step s.scene.buffers[c.buffer])
      (setBuffer c.buffer (markedBuffer step s.scene.buffers[c.buffer]) s) := if_pos taken
    have apart : c.buffer ≠ partner c.buffer := (partner_ne c.buffer).symm
    have output : isOutputSide c.buffer (markedBuffer step s.scene.buffers[c.buffer]) =
      isOutputSide c.buffer s.scene.buffers[c.buffer] := rfl
    have other : (setBuffer c.buffer (markedBuffer step s.scene.buffers[c.buffer]) s).scene.buffers[partner c.buffer] =
      s.scene.buffers[partner c.buffer] := getElem_set_other apart.symm
    rw [marks, copyStatus, output, other]
    rcases Classical.em (j = c.buffer) with rfl | hj
    · simp only [decide_true, Bool.and_self, Bool.true_or]
      split
      · exact (getElem_set_other apart).trans getElem_set_same
      · exact getElem_set_same
    · cases isOutputSide c.buffer s.scene.buffers[c.buffer] with
      | false =>
        simp only [hj, decide_false, Bool.and_false, Bool.or_self]
        exact getElem_set_other hj
      | true =>
        rw [if_pos rfl]
        rcases Classical.em (j = partner c.buffer) with rfl | hp
        · simp only [hj, decide_false, decide_true, Bool.and_false, Bool.and_self, Bool.or_true]
          exact getElem_set_same
        · simp only [hj, hp, decide_false, Bool.and_false, Bool.false_and, Bool.or_self]
          exact (getElem_set_other hp).trans (getElem_set_other hj)

/-! ### All marks -/

/-- R137: buffer i is marked by one of the candidates. -/
def marks (s : State) (l : List Candidate) (i : BufferIx) : Bool :=
  l.any fun c => decide (c.buffer = i) && (isWinner s c && markable c s.scene.buffers[i])

/-- R138: the output side whose commit side is i is marked. -/
def copies (s : State) (l : List Candidate) (i : BufferIx) : Bool :=
  marks s l (partner i) && isOutputSide (partner i) s.scene.buffers[partner i]

theorem markCandidates_scene (step : Nat) (l : List Candidate) (s : State) :
    (l.foldl (markCandidate step) s).scene =
      { s.scene with buffers := (l.foldl (markCandidate step) s).scene.buffers } :=
  foldl_invariant (fun t => t.scene = { s.scene with buffers := t.scene.buffers }) (markCandidate step)
    (fun t c h => by rw [markCandidate_scene, h]) l s rfl

theorem markable_stamped (step : Nat) (c : Candidate) (m p : Bool) (b : Buffer) :
    markable c (stamped step m p b) = (markable c b && !m) := by
  cases m <;> simp [markable, stamped, isCommitSide]

theorem partner_eq_iff {i j : BufferIx} : partner i = j ↔ i = partner j :=
  ⟨fun h => by rw [← h, partner_partner], fun h => by rw [h, partner_partner]⟩

/-- The marks of all candidates examined: by the last of them, which is marked where no earlier one has marked its
buffer. -/
theorem markCandidates_get (step : Nat) (l : List Candidate) (s : State) (j : BufferIx) :
    (l.foldl (markCandidate step) s).scene.buffers[j] =
      stamped step (marks s l j) (marks s l j || copies s l j) s.scene.buffers[j] := by
  induction l using List.reverseRecOn generalizing j with
  | nil => exact (stamped_none step _).symm
  | append_singleton l c ih =>
    let t := l.foldl (markCandidate step) s
    have scene := markCandidates_scene step l s
    have wins : isWinner t c = isWinner s c := isWinner_reads (by rw [scene]) (by rw [scene]) c
    have taken : markTaken t c = (isWinner s c && (markable c s.scene.buffers[c.buffer] && !marks s l c.buffer)) := by
      rw [markTaken, wins, ih, markable_stamped]
    have output :
        isOutputSide c.buffer t.scene.buffers[c.buffer] = isOutputSide c.buffer s.scene.buffers[c.buffer] := by
      rw [ih]
      rfl
    have marked (i : BufferIx) : marks s (l ++ [c]) i =
        (marks s l i || (decide (c.buffer = i) && (isWinner s c && markable c s.scene.buffers[i]))) := by
      simp [marks]
    rw [List.foldl_append, List.foldl_cons, List.foldl_nil, markCandidate_get, taken, output, ih, stamped_stamped]
    have newly : (marks s l c.buffer || (isWinner s c && (markable c s.scene.buffers[c.buffer] &&
        !marks s l c.buffer))) = (marks s l c.buffer || (isWinner s c && markable c s.scene.buffers[c.buffer])) := by
      cases marks s l c.buffer <;> simp
    simp only [copies, marked]
    rcases Classical.em (j = c.buffer) with rfl | hj
    · have apart : c.buffer ≠ partner c.buffer := (partner_ne c.buffer).symm
      simp only [apart, decide_true, decide_false, Bool.true_and, Bool.false_and, Bool.or_false, Bool.and_true]
      rw [newly, Bool.or_right_comm, newly]
    · simp only [hj, Ne.symm hj, decide_false, Bool.false_and, Bool.and_false, Bool.false_or, Bool.or_false]
      rcases Classical.em (j = partner c.buffer) with rfl | hp
      · simp only [partner_partner, decide_true, Bool.true_and]
        rw [Bool.or_assoc, ← Bool.and_or_distrib_right, newly]
      · have apart : c.buffer ≠ partner j := fun h => hp (partner_eq_iff.1 h.symm)
        simp only [hp, apart, decide_false, Bool.false_and, Bool.and_false, Bool.or_false]

end Sys2Proof.Machine
end

section
/-! SUPPORT. A search completion as a whole (R150): levels, flashes, load and marks. -/

namespace Sys2Proof.Machine

section
variable (step : Nat) (s : State)

/-- R150: the state of a completion once the load is reported. -/
def reportedState : State := reportLoad (settleSheet (settleSheet (levelledState step s) .one) .two)

theorem reportedState_scene : (reportedState step s).scene =
    { (levelledState step s).scene with loadReported := lightingLoad (levelledState step s) } := by
  simp [reportedState, lightingLoad]

theorem finishSearch_eq : finishSearch step s = s.scene.view.foldl (markCandidate step) (reportedState step s) := by
  have view : (reportedState step s).scene.view = s.scene.view := by
    rw [reportedState_scene, levelledState_scene]
  have examined : finishSearch step s =
      (reportedState step s).scene.view.foldl (markCandidate step) (reportedState step s) := by
    simp only [finishSearch, reportedState, levelledState]
  rw [examined, view]

theorem finishSearch_scene : (finishSearch step s).scene = { s.scene with
    search := none, results := searchResults s.scene.view step, groups := (finishSearch step s).scene.groups
    buffers := (finishSearch step s).scene.buffers, loadReported := lightingLoad (finishSearch step s) } := by
  have marked := markCandidates_scene step s.scene.view (reportedState step s)
  rw [← finishSearch_eq] at marked
  have groups := (finishSearch_levelled s step).1
  have load : lightingLoad (finishSearch step s) = lightingLoad (levelledState step s) := by
    rw [lightingLoad, groups, lightingLoad]
  rw [load, groups, marked, reportedState_scene, levelledState_scene]

theorem finishSearch_load : (finishSearch step s).scene.loadReported = lightingLoad (finishSearch step s) := by
  rw [finishSearch_scene]

theorem finishSearch_group (i : GroupIx) : (finishSearch step s).scene.groups[i] =
    sentGroup s (searchGroup s.scene.view step i) s.scene.groups[i] := by
  rw [(finishSearch_levelled s step).1]
  exact levelledState_group step s i

theorem finishSearch_queue : (finishSearch step s).line.queue = enqueueAll ((List.finRange 32).flatMap fun i =>
    levelCommands s (searchGroup s.scene.view step i) s.scene.groups[i]) s.line.queue := by
  rw [(finishSearch_levelled s step).2.1]
  exact levelledState_queue step s

theorem finishSearch_handed : (finishSearch step s).handed =
    s.handed ++ [.lightingLoadUpdate (finishSearch step s).scene.loadReported] := by
  have load : (finishSearch step s).scene.loadReported = lightingLoad (levelledState step s) := by
    rw [finishSearch_eq, markCandidates_scene, reportedState_scene]
  rw [load, finishSearch_eq]
  simp [reportedState, levelledState, lightingLoad]

/-- R157: settling starts on the haze points that flashes reach. -/
theorem finishSearch_settled :
    SettledFrom (fun p => ∃ sh, FlashSettles (levelledState step s) sh p) s (finishSearch step s) := by
  refine (settleSheets_settled (levelledState step s)).of_points ?_ ?_
  · simp [levelledState]
  · rw [finishSearch_eq]
    simp [reportedState]

/-- R137, R138: the marks, by what is captured and won. -/
theorem finishSearch_buffer (i : BufferIx) : (finishSearch step s).scene.buffers[i] =
    stamped step (marks (reportedState step s) s.scene.view i)
      (marks (reportedState step s) s.scene.view i || copies (reportedState step s) s.scene.view i)
      s.scene.buffers[i] := by
  rw [finishSearch_eq, markCandidates_get, reportedState_scene, levelledState_scene]

/-- A completion changes the Command Queue, the points, the Scene Unit and what has been handed. -/
theorem finishSearch_rest : finishSearch step s = { s with
    line.queue := (finishSearch step s).line.queue, points := (finishSearch step s).points
    scene := (finishSearch step s).scene, handed := (finishSearch step s).handed } := by
  obtain ⟨budget, fog, zones, mode, responder, notices, timeBase, pending⟩ := finishSearch_frame s step
  have line := (finishSearch_lineKept s step).rest
  generalize finishSearch step s = t at *
  cases t
  rw [State.mk.injEq]
  exact ⟨line, rfl, budget, fog, zones, rfl, mode, responder, notices, timeBase, rfl, pending⟩

/-! ### The winners at a completion -/

theorem levelledState_enabled (i : GroupIx) :
    (levelledState step s).scene.groups[i].state = .enabled ↔ s.scene.groups[i].state = .enabled := by
  rw [levelledState_group, (sentGroup_held s _ _).1]

theorem flashSettles_levelled (sh : Sheet) (p : PointIx) : FlashSettles (levelledState step s) sh p ↔
    (sheetRec s.fog sh).state ≠ .unused ∧ (sheetRec s.fog sh).defn.haze = some p ∧
    ∃ c ∈ s.scene.view, c.scene.flash = true ∧ ∃ i : GroupIx, ∃ w,
      s.scene.groups[i].state = .enabled ∧ searchGroup s.scene.view step i = .winner w ∧ w.buffer = c.buffer ∧
      (finishSearch step s).scene.groups[i].hazeBlocked = false ∧
      (match sh with
        | .one => s.scene.groups[i].defn.near1
        | .two => s.scene.groups[i].defn.near2) = true := by
  have fog : (levelledState step s).fog = s.fog := by simp [levelledState]
  have defn (i : GroupIx) : (levelledState step s).scene.groups[i].defn = s.scene.groups[i].defn := by
    rw [levelledState_group, (sentGroup_held s _ _).2]
  rw [FlashSettles, fog, flashReaches_iff, (finishSearch_levelled s step).1]
  cases sh <;> simp only [levelledState_view, levelledState_enabled, levelledState_result, defn]

theorem isWinner_reported (c : Candidate) : isWinner (reportedState step s) c = true ↔ ∃ g : GroupIx, ∃ w,
    s.scene.groups[g].state = .enabled ∧ searchGroup s.scene.view step g = .winner w ∧ w.buffer = c.buffer := by
  rw [isWinner_reads (s := levelledState step s) (by rw [reportedState_scene]) (by rw [reportedState_scene]),
    isWinner_iff]
  simp only [levelledState_enabled, levelledState_result]

theorem marks_iff (i : BufferIx) : marks (reportedState step s) s.scene.view i = true ↔
    s.scene.buffers[i].state = .idle ∧ isCommitSide i s.scene.buffers[i] = false ∧
    ∃ c ∈ s.scene.view, c.buffer = i ∧ c.generation = s.scene.buffers[i].generation ∧
      ∃ g : GroupIx, ∃ w, s.scene.groups[g].state = .enabled ∧ searchGroup s.scene.view step g = .winner w ∧
        w.buffer = i := by
  have buffers : (reportedState step s).scene.buffers = s.scene.buffers := by
    rw [reportedState_scene, levelledState_scene]
  simp only [marks, buffers, List.any_eq_true, Bool.and_eq_true, decide_eq_true_eq, isWinner_reported, markable_iff]
  constructor
  · rintro ⟨c, hc, rfl, won, idle, generation, side⟩
    exact ⟨idle, Bool.eq_false_iff.2 side, c, hc, rfl, generation.symm, won⟩
  · rintro ⟨idle, side, c, hc, rfl, generation, won⟩
    exact ⟨c, hc, rfl, won, idle, generation.symm, Bool.eq_false_iff.1 side⟩

theorem copies_iff (i : BufferIx) : copies (reportedState step s) s.scene.view i = true ↔
    marks (reportedState step s) s.scene.view (partner i) = true ∧
    isOutputSide (partner i) s.scene.buffers[partner i] = true := by
  have buffers : (reportedState step s).scene.buffers = s.scene.buffers := by
    rw [reportedState_scene, levelledState_scene]
  rw [copies, Bool.and_eq_true, buffers]

end

end Sys2Proof.Machine
end

section
/-! THEOREMS. The completion of a search. -/

namespace Sys2Proof.Machine

/-- Settles O42: the walk over the groups, the settling of both sheets and the marks, each by what it leaves. -/
theorem searchCompletionSetsLevelsAndMarks : Obligations.SearchCompletionSetsLevelsAndMarks := by
  intro s step awake busy
  have completed : completeSearch s = finishSearch step s := by
    rw [completeSearch, busy]
  refine ⟨finishSearch step s, ?_, ?_, ?_, ?_, ?_, finishSearch_handed step s, ?_, ?_, ?_, ?_⟩
  · rw [exec_awake .searchCompletion awake, completed]
  · rw [finishSearch_scene]
  · intro i enabled
    rw [finishSearch_group, sentGroup_enabled s _ enabled]
  · intro i off
    rw [finishSearch_group, sentGroup_other s _ off]
  · have each : groupLoad = fun g => if g.state = .enabled then g.defn.rated * g.level / 1000 else 0 := rfl
    rw [finishSearch_load, lightingLoad, each]
  · rw [finishSearch_queue]
    refine congrArg (fun f => enqueueAll ((List.finRange 32).flatMap f) s.line.queue) (funext fun i => ?_)
    rw [finishSearch_group]
    unfold levelCommands sentGroup
    by_cases enabled : s.scene.groups[i].state = .enabled
    · simp only [enabled, if_true, true_and]
    · simp only [enabled, false_and, if_false]
  · refine (finishSearch_settled step s).congr fun p => exists_congr fun sh => ?_
    exact (flashSettles_levelled step s sh p).symm
  · intro marked copied i
    have hm (i : BufferIx) : marks (reportedState step s) s.scene.view i = true ↔ marked i := marks_iff step s i
    have hc : copies (reportedState step s) s.scene.view i = true ↔ copied i :=
      (copies_iff step s i).trans (and_congr_left' (hm (partner i)))
    rw [finishSearch_buffer, ← hm, ← hc]
    refine ⟨fun m => ?_, fun m c => ?_, fun m c => ?_⟩
    · rw [m]
      rfl
    · rw [Bool.eq_false_iff.2 m, c]
      rfl
    · rw [Bool.eq_false_iff.2 m, Bool.eq_false_iff.2 c]
      rfl
  · rw [finishSearch_load, ← finishSearch_scene]
    exact finishSearch_rest step s

end Sys2Proof.Machine
end

section
/-! SUPPORT. The result of a search for one group (R148): what the first candidate of a class is in a view in ascending
buffer index, and what it says that a class has none. -/

namespace Sys2Proof.Machine

section
variable {view : List Candidate} {step : Nat} {g : GroupIx} {c : Candidate} {k : Nat}

theorem candidateClass_eq (step : Nat) (c : Candidate) : candidateClass step c =
    if step &&& c.filterMask = c.filterValue &&& c.filterMask then (if c.priority then 0 else 1) else 2 := by
  unfold candidateClass matchesStep
  simp only [decide_eq_true_eq]
  rfl

/-- R148: there are three classes. -/
theorem candidateClass_le (step : Nat) (c : Candidate) : candidateClass step c ≤ 2 := by
  rw [candidateClass_eq]
  split
  · split <;> decide
  · exact Nat.le_refl 2

theorem inClass_iff : inClass step g k c = true ↔ (entryFor g c).isSome ∧ candidateClass step c = k := by
  rw [inClass, Bool.and_eq_true, decide_eq_true_iff]

/-- R148: where none is found in a class, no candidate of the group is of it. -/
theorem class_ne_of_find_none (absent : view.find? (inClass step g k) = none) :
    ∀ d ∈ view, (entryFor g d).isSome → candidateClass step d ≠ k := fun d hd entry cls =>
  List.find?_eq_none.1 absent d hd (inClass_iff.2 ⟨entry, cls⟩)

/-- R148: in a view in ascending buffer index the first candidate of a class is the one of the lowest index. -/
theorem le_of_find_some (ascending : view.Pairwise fun c d => c.buffer < d.buffer)
    (found : view.find? (inClass step g k) = some c) :
    ∀ d ∈ view, (entryFor g d).isSome → candidateClass step d = k → c.buffer ≤ d.buffer := by
  obtain ⟨-, before, after, rfl, earlier⟩ := List.find?_eq_some_iff_append.1 found
  intro d hd entry cls
  have here : inClass step g k d = true := inClass_iff.2 ⟨entry, cls⟩
  rcases List.mem_append.1 hd with early | late
  · exact absurd (earlier d early) (by rw [here]; decide)
  · rcases List.mem_cons.1 late with rfl | later
    · exact Nat.le_refl _
    · exact Nat.le_of_lt (List.rel_of_pairwise_cons (List.pairwise_append.1 ascending).2.1 later)

/-! ### The result -/

/-- R148: what a result says of the candidates of its group. -/
def ResultFits (view : List Candidate) (step : Nat) (g : GroupIx) : SearchResult → Prop
  | .winner w => w.cls ≤ 1 ∧ ∃ c ∈ view, ∃ e, entryFor g c = some e ∧ candidateClass step c = w.cls ∧
      w = ⟨c.buffer, w.cls, c.generation, c.priority, e.level, e.fade⟩ ∧
      ∀ d ∈ view, (entryFor g d).isSome → w.cls ≤ candidateClass step d ∧
        (candidateClass step d = w.cls → c.buffer ≤ d.buffer)
  | .hold => (∃ d ∈ view, (entryFor g d).isSome) ∧ ∀ d ∈ view, (entryFor g d).isSome → candidateClass step d = 2
  | .none => ∀ d ∈ view, entryFor g d = none

/-- R148: the first candidate of class 0 or 1 wins the group where no candidate is of a lower class. -/
theorem winnerOf_fits (ascending : view.Pairwise fun c d => c.buffer < d.buffer) (plays : k ≤ 1)
    (found : view.find? (inClass step g k) = some c)
    (lowest : ∀ d ∈ view, (entryFor g d).isSome → k ≤ candidateClass step d) :
    ResultFits view step g (winnerOf g k c) := by
  obtain ⟨entry, cls⟩ := inClass_iff.1 (List.find?_some found)
  obtain ⟨e, he⟩ := Option.isSome_iff_exists.1 entry
  rw [winnerOf, he]
  exact ⟨plays, c, List.mem_of_find?_eq_some found, e, he, cls, rfl,
    fun d hd entry => ⟨lowest d hd entry, le_of_find_some ascending found d hd entry⟩⟩

/-- R148: class 0 is searched before class 1, and a group with a candidate of neither holds where it has one at all. -/
theorem searchGroup_fits (ascending : view.Pairwise fun c d => c.buffer < d.buffer) (step : Nat) (g : GroupIx) :
    ResultFits view step g (searchGroup view step g) := by
  unfold searchGroup
  split
  · next found => exact winnerOf_fits ascending (Nat.zero_le 1) found fun d _ _ => Nat.zero_le _
  · next none0 =>
    have positive : ∀ d ∈ view, (entryFor g d).isSome → 1 ≤ candidateClass step d := fun d hd entry =>
      Nat.pos_of_ne_zero (class_ne_of_find_none none0 d hd entry)
    split
    · next found => exact winnerOf_fits ascending (Nat.le_refl 1) found positive
    · next none1 =>
      have second : ∀ d ∈ view, (entryFor g d).isSome → candidateClass step d = 2 := fun d hd entry => by
        have above := positive d hd entry
        have other := class_ne_of_find_none none1 d hd entry
        have below := candidateClass_le step d
        omega
      split
      · next held =>
        obtain ⟨d, hd, here⟩ := List.any_eq_true.1 held
        exact ⟨⟨d, hd, (inClass_iff.1 here).1⟩, second⟩
      · next free =>
        refine fun d hd => Option.not_isSome_iff_eq_none.1 fun entry => free ?_
        exact List.any_eq_true.2 ⟨d, hd, inClass_iff.2 ⟨entry, second d hd entry⟩⟩

end

end Sys2Proof.Machine
end

section
/-! THEOREMS. The search of a step. -/

namespace Sys2Proof.Machine

/-- Settles O40: the classes are searched in order, each by the first of its candidates. -/
theorem searchFindsTheFirstOfTheLowestClass : Obligations.SearchFindsTheFirstOfTheLowestClass :=
  ⟨candidateClass_eq, fun view step => searchResults_get step view, fun _ _ => isWinner_iff,
    fun _ step g ascending => searchGroup_fits ascending step g⟩

end Sys2Proof.Machine
end

section
/-! SUPPORT. The level of a group (R151 to R154): what a result and the driver leave of it, under the ceiling and where
haze blocks it. -/

namespace Sys2Proof.Machine

/-! ### Driver and fade (R151, R152) -/

/-- R151: the fade of a group one step on. -/
def advanced (f : Fade) : Fade := { f with elapsed := if f.elapsed < f.length then f.elapsed + 1 else f.elapsed }

section
variable {w : Winner} {g : Group}

/-- R151: a winner other than the driver takes the group. -/
theorem wonGroup_other (other : ∀ d, g.driver = some d → ¬(d.buffer = w.buffer ∧ d.generation = w.generation)) :
    wonGroup w g = { g with
      driver := some ⟨w.buffer, w.generation, w.priority⟩
      fade := if w.fade = 0 then none else some ⟨g.level, w.level, w.fade, 0⟩
      level := if w.fade = 0 then w.level else g.level } := by
  unfold wonGroup
  cases driven : g.driver with
  | none => rfl
  | some d => simp [other d driven]

section
variable {d : Driver} (driven : g.driver = some d) (buffer : d.buffer = w.buffer)
  (generation : d.generation = w.generation)
include driven buffer generation

/-- R151: the driver that wins again goes on with its fade. -/
theorem wonGroup_fading {f : Fade} (fading : g.fade = some f) : wonGroup w g = { g with
    driver := some ⟨w.buffer, w.generation, w.priority⟩
    fade := some (advanced f), level := fadeLevel (advanced f) } := by
  simp [wonGroup, driven, buffer, generation, fading, advanced]

theorem wonGroup_steady (steady : g.fade = none) : wonGroup w g =
    { g with driver := some ⟨w.buffer, w.generation, w.priority⟩, level := w.level } := by
  simp [wonGroup, driven, buffer, generation, steady]

end

end

theorem wonGroup_hazeBlocked (w : Winner) (g : Group) : (wonGroup w g).hazeBlocked = g.hazeBlocked := by
  rcases Classical.em (∃ d, g.driver = some d ∧ d.buffer = w.buffer ∧ d.generation = w.generation) with again | other
  · obtain ⟨d, driven, buffer, generation⟩ := again
    cases fade : g.fade with
    | none => rw [wonGroup_steady driven buffer generation fade]
    | some f => rw [wonGroup_fading driven buffer generation fade]
  · rw [wonGroup_other fun d driven same => other ⟨d, driven, same⟩]

/-! ### The ceiling (R153) -/

/-- R153: a level under the ceiling of the mode in force, which a driver with PRIORITY does not keep. -/
def levelUnder (s : State) (priority : Bool) (level : Nat) : Nat :=
  if priority then level else min level (profileInForce s).ceiling

theorem priorityDriven_iff {g : Group} : priorityDriven g = true ↔ ∃ d, g.driver = some d ∧ d.priority = true := by
  unfold priorityDriven
  cases g.driver <;> simp

/-- R153: the ceiling touches the level alone. -/
theorem underCeiling_eq (s : State) (g : Group) : underCeiling (profileInForce s).ceiling g =
    { g with level := levelUnder s (priorityDriven g) g.level } := by
  unfold underCeiling levelUnder
  split <;> rfl

/-! ### The group as a whole -/

section
variable {s : State} {g : Group}

theorem levelledGroup_blocked (h : blockedNow s g.defn = true) (r : SearchResult) :
    levelledGroup s r g = darkGroup g := if_pos h

/-- R154: a result neither lifts a block nor sets one. -/
theorem beforeCeiling_hazeBlocked (r : SearchResult) (g : Group) :
    (beforeCeiling r g).hazeBlocked = g.hazeBlocked := by
  cases r with
  | winner w => exact wonGroup_hazeBlocked w g
  | hold => rfl
  | none => rfl

variable (free : blockedNow s g.defn = false)
include free

theorem levelledGroup_free (r : SearchResult) {b : Group} (h : beforeCeiling r { g with hazeBlocked := false } = b) :
    levelledGroup s r g = { b with level := levelUnder s (priorityDriven b) b.level } := by
  rw [← underCeiling_eq, ← h]
  exact if_neg (by rw [free]; decide)

/-- R153: only a driver with PRIORITY holds a group above the ceiling. -/
theorem levelledGroup_level_le (r : SearchResult) : (levelledGroup s r g).level ≤ (profileInForce s).ceiling ∨
    ∃ d, (levelledGroup s r g).driver = some d ∧ d.priority = true := by
  rw [levelledGroup_free free r rfl, ← priorityDriven_iff]
  cases driven : priorityDriven (beforeCeiling r { g with hazeBlocked := false }) with
  | true => exact .inr driven
  | false => exact .inl (Nat.min_le_right _ _)

theorem levelledGroup_unblocks (r : SearchResult) : (levelledGroup s r g).hazeBlocked = false := by
  rw [levelledGroup_free free r rfl]
  exact beforeCeiling_hazeBlocked r { g with hazeBlocked := false }

/-- R151: a winner other than the driver, as it takes the group. -/
theorem levelledGroup_other {w : Winner}
    (other : ∀ d, g.driver = some d → ¬(d.buffer = w.buffer ∧ d.generation = w.generation)) :
    levelledGroup s (.winner w) g = { g with
      hazeBlocked := false, driver := some ⟨w.buffer, w.generation, w.priority⟩
      fade := if w.fade = 0 then none else some ⟨g.level, w.level, w.fade, 0⟩
      level := levelUnder s w.priority (if w.fade = 0 then w.level else g.level) } :=
  levelledGroup_free free (.winner w) (wonGroup_other (g := { g with hazeBlocked := false }) other)

/-- R151: the driver that wins again, with its fade and without one. -/
theorem levelledGroup_fading {w : Winner} {d : Driver} (driven : g.driver = some d) (buffer : d.buffer = w.buffer)
    (generation : d.generation = w.generation) {f : Fade} (fading : g.fade = some f) :
    levelledGroup s (.winner w) g = { g with
      hazeBlocked := false, driver := some ⟨w.buffer, w.generation, w.priority⟩
      fade := some (advanced f), level := levelUnder s w.priority (fadeLevel (advanced f)) } :=
  levelledGroup_free free (.winner w)
    (wonGroup_fading (g := { g with hazeBlocked := false }) driven buffer generation fading)

theorem levelledGroup_steady {w : Winner} {d : Driver} (driven : g.driver = some d) (buffer : d.buffer = w.buffer)
    (generation : d.generation = w.generation) (steady : g.fade = none) :
    levelledGroup s (.winner w) g = { g with
      hazeBlocked := false, driver := some ⟨w.buffer, w.generation, w.priority⟩
      level := levelUnder s w.priority w.level } :=
  levelledGroup_free free (.winner w)
    (wonGroup_steady (g := { g with hazeBlocked := false }) driven buffer generation steady)

/-- R152: a hold, with a candidate of class 2 and with none. -/
theorem levelledGroup_hold : levelledGroup s .hold g =
    { g with hazeBlocked := false, level := levelUnder s (priorityDriven g) g.level } :=
  levelledGroup_free free _ rfl

theorem levelledGroup_none : levelledGroup s .none g = { g with
    hazeBlocked := false, driver := none, fade := none, level := min g.level (profileInForce s).ceiling } :=
  levelledGroup_free free _ rfl

end

/-! ### The fade between its ends (R151) -/

section
variable {f : Fade}

/-- The part of a distance a fade has gone, rounded toward zero. -/
def gonePart (f : Fade) (whole : Nat) : Nat := whole * f.elapsed / f.length

theorem gonePart_le (h : f.elapsed ≤ f.length) (whole : Nat) : gonePart f whole ≤ whole :=
  Nat.div_le_of_le_mul (by rw [Nat.mul_comm f.length]; exact Nat.mul_le_mul_left whole h)

theorem gonePart_begun (h : f.elapsed = 0) (whole : Nat) : gonePart f whole = 0 := by
  rw [gonePart, h, Nat.mul_zero, Nat.zero_div]

theorem gonePart_ended (positive : 0 < f.length) (h : f.elapsed = f.length) (whole : Nat) :
    gonePart f whole = whole := by
  rw [gonePart, h, Nat.mul_div_cancel _ positive]

theorem tdiv_rising (h : f.start ≤ f.target) :
    Int.tdiv (((f.target : Int) - f.start) * f.elapsed) f.length = gonePart f (f.target - f.start) := by
  rw [← Int.ofNat_sub h]
  rfl

theorem tdiv_falling (h : f.target ≤ f.start) :
    Int.tdiv (((f.target : Int) - f.start) * f.elapsed) f.length = -gonePart f (f.start - f.target) := by
  rw [← Int.neg_sub, ← Int.ofNat_sub h, Int.neg_mul, Int.neg_tdiv]
  rfl

theorem fadeLevel_rising (h : f.start ≤ f.target) : fadeLevel f = f.start + gonePart f (f.target - f.start) := by
  rw [fadeLevel, divZero, tdiv_rising h]
  omega

theorem fadeLevel_falling (h : f.target ≤ f.start) : fadeLevel f = f.start - gonePart f (f.start - f.target) := by
  rw [fadeLevel, divZero, tdiv_falling h]
  omega

theorem fadeLevel_eq (h : f.elapsed ≤ f.length) :
    (fadeLevel f : Int) = f.start + Int.tdiv (((f.target : Int) - f.start) * f.elapsed) f.length := by
  rcases Nat.le_total f.start f.target with up | down
  · rw [fadeLevel_rising up, tdiv_rising up]
    exact Int.natCast_add ..
  · have part := gonePart_le h (f.start - f.target)
    rw [fadeLevel_falling down, tdiv_falling down]
    omega

theorem fadeLevel_between (h : f.elapsed ≤ f.length) :
    min f.start f.target ≤ fadeLevel f ∧ fadeLevel f ≤ max f.start f.target := by
  rcases Nat.le_total f.start f.target with up | down
  · have part := gonePart_le h (f.target - f.start)
    rw [fadeLevel_rising up]
    omega
  · have part := gonePart_le h (f.start - f.target)
    rw [fadeLevel_falling down]
    omega

theorem fadeLevel_begun (h : f.elapsed = 0) : fadeLevel f = f.start := by
  rcases Nat.le_total f.start f.target with up | down
  · rw [fadeLevel_rising up, gonePart_begun h]
    rfl
  · rw [fadeLevel_falling down, gonePart_begun h]
    rfl

theorem fadeLevel_ended (positive : 0 < f.length) (h : f.elapsed = f.length) : fadeLevel f = f.target := by
  rcases Nat.le_total f.start f.target with up | down
  · rw [fadeLevel_rising up, gonePart_ended positive h]
    omega
  · rw [fadeLevel_falling down, gonePart_ended positive h]
    omega

end

end Sys2Proof.Machine
end

section
/-! THEOREMS. The levels of the groups. -/

namespace Sys2Proof.Machine

/-- Settles O41, by the result: what it leaves of driver and fade, then the ceiling. -/
theorem groupLevelsFollowDriverCeilingAndHaze : Obligations.GroupLevelsFollowDriverCeilingAndHaze := by
  refine ⟨fun s r g => ?_, fun f positive within => ?_⟩
  · refine ⟨fun blocked => ?_, fun free => ?_, fun free w won other => ?_,
      fun free w d won driven buffer generation => ?_, fun free held => ?_, fun free empty => ?_,
      (levelledGroup_held s r g).2, (levelledGroup_held s r g).1, levelledGroup_lastSent s r g⟩
    · rw [levelledGroup_blocked blocked]
      exact ⟨rfl, rfl, rfl, rfl⟩
    · exact ⟨levelledGroup_unblocks free r, levelledGroup_level_le free r⟩
    · rw [won, levelledGroup_other free other]
      refine ⟨rfl, fun long => ?_, fun atOnce => ⟨if_pos atOnce, congrArg (levelUnder s w.priority) (if_pos atOnce)⟩⟩
      have long : w.fade ≠ 0 := Nat.ne_of_gt long
      exact ⟨if_neg long, congrArg (levelUnder s w.priority) (if_neg long)⟩
    · rw [won]
      refine ⟨?_, fun f fading => ?_, fun steady => ?_⟩
      · cases fade : g.fade with
        | none => rw [levelledGroup_steady free driven buffer generation fade]
        | some f => rw [levelledGroup_fading free driven buffer generation fade]
      · rw [levelledGroup_fading free driven buffer generation fading]
        exact ⟨rfl, rfl⟩
      · rw [levelledGroup_steady free driven buffer generation steady]
        exact ⟨steady, rfl⟩
    · rw [held, levelledGroup_hold free]
      refine ⟨rfl, rfl, fun priority => if_pos (priorityDriven_iff.2 priority), fun plain => if_neg fun driven => ?_⟩
      obtain ⟨d, hd, priority⟩ := priorityDriven_iff.1 driven
      exact absurd priority (Bool.eq_false_iff.1 (plain d hd))
    · rw [empty, levelledGroup_none free]
      exact ⟨rfl, rfl, rfl⟩
  · obtain ⟨above, below⟩ := fadeLevel_between within
    exact ⟨fadeLevel_eq within, above, below, fadeLevel_begun, fadeLevel_ended positive⟩

end Sys2Proof.Machine
end

section
/-! SUPPORT. SET_STEP_PERIOD and the requests on groups (R142, R144 to R146), and the check of a dimmer's address
(R17). -/

namespace Sys2Proof.Machine

/-! ### SET_STEP_PERIOD (R142) -/

section
variable {s : State} {args : List Byte}

theorem setStepPeriod_fits (low : 5 ≤ wordAt args 0) (high : wordAt args 0 ≤ 10000) :
    setStepPeriod args s = done { s with scene.stepPeriod := wordAt args 0 } :=
  if_neg (by omega)

theorem setStepPeriod_unfit (out : wordAt args 0 < 5 ∨ 10000 < wordAt args 0) :
    setStepPeriod args s = refuse .range s :=
  if_pos out

end

/-! ### The dimmer's address (R17) -/

section
variable {s : State} {i : GroupIx} {d : GroupDef}

theorem mineGroup_iff {o : ActOwner} : mineGroup i o = true ↔ o = .group i := by
  cases o <;> simp [mineGroup]

theorem checkAddr_group_taken {a : ActAddr} (h : AddrTaken s (· = .group i) a) :
    checkAddr s (mineGroup i) a = some .conflict := by
  obtain ⟨near, held, others⟩ := h
  exact checkAddr_of_taken ⟨near, held, fun o ho mine => others o ho (mineGroup_iff.1 mine)⟩

theorem checkAddr_group_free {a : ActAddr} (h : AddrFree s (· = .group i) a) : checkAddr s (mineGroup i) a = none := by
  obtain ⟨near, mine⟩ := h
  exact checkAddr_of_free ⟨near, fun o ho => mineGroup_iff.2 (mine o ho)⟩

/-- R17: a write of a group drops the command pending for the address its record gives up. -/
theorem loadGroup_queue (i : GroupIx) (d : GroupDef) (s : State) : (loadGroup i d s).line.queue =
    s.line.queue.filter fun e => !((s.scene.groups[i].state != .unused) &&
      decide (s.scene.groups[i].defn.dimmer ≠ d.dimmer) && isCommandFor s.scene.groups[i].defn.dimmer e) := by
  refine List.filter_congr fun e _ => congrArg Bool.not ?_
  rw [List.any_filter]
  unfold groupAddrs
  split
  · next unused => rw [unused]; rfl
  · next loaded =>
    rw [bne_iff_ne.2 loaded, Bool.true_and, List.any_cons, List.any_nil, Bool.or_false, bne, beq_eq_decide, decide_not]

/-- R144: a group loaded. -/
theorem loadGroup_eq (i : GroupIx) (d : GroupDef) (s : State) : loadGroup i d s = { s with
    scene.groups := s.scene.groups.set i ⟨d, .disabled, 0, none, none, false, none⟩
    line.queue := s.line.queue.filter fun e => !((s.scene.groups[i].state != .unused) &&
      decide (s.scene.groups[i].defn.dimmer ≠ d.dimmer) && isCommandFor s.scene.groups[i].defn.dimmer e) } := by
  rw [← loadGroup_queue]
  rfl

/-! ### WRITE_GROUP (R144) -/

section
variable {args : List Byte} (hi : byteAt args 0 = i.val)
include hi

theorem writeGroup_enabled (h : s.scene.groups[i].state = .enabled) : writeGroup args s = refuse .state s := by
  rw [writeGroup, indexOf_of_lt hi]
  exact if_pos h

section
variable (hs : s.scene.groups[i].state ≠ .enabled)
include hs

theorem writeGroup_outOfRange (h : groupArgs args = none) : writeGroup args s = refuse .range s := by
  rw [writeGroup, indexOf_of_lt hi]
  dsimp only
  rw [if_neg hs, h]

theorem writeGroup_refused (hd : groupArgs args = some d) {st : Status}
    (h : checkAddr s (mineGroup i) d.dimmer = some st) : writeGroup args s = refuse st s := by
  rw [writeGroup, indexOf_of_lt hi]
  dsimp only
  rw [if_neg hs, hd]
  dsimp only
  rw [h]

theorem writeGroup_loads (hd : groupArgs args = some d) (h : checkAddr s (mineGroup i) d.dimmer = none) :
    writeGroup args s = done (loadGroup i d s) := by
  rw [writeGroup, indexOf_of_lt hi]
  dsimp only
  rw [if_neg hs, hd]
  dsimp only
  rw [h]

end

/-! ### ENABLE_GROUP and DISABLE_GROUP (R145, R146) -/

theorem enableGroup_unused (h : s.scene.groups[i].state = .unused) : enableGroup args s = refuse .state s := by
  rw [enableGroup, indexOf_of_lt hi]
  dsimp only
  rw [h]

theorem enableGroup_enabled (h : s.scene.groups[i].state = .enabled) : enableGroup args s = done s := by
  rw [enableGroup, indexOf_of_lt hi]
  dsimp only
  rw [h]

theorem enableGroup_disabled (h : s.scene.groups[i].state = .disabled) :
    enableGroup args s = done (admitGroup i s.scene.groups[i] s) := by
  rw [enableGroup, indexOf_of_lt hi]
  dsimp only
  rw [h]

theorem disableGroup_unused (h : s.scene.groups[i].state = .unused) : disableGroup args s = refuse .state s := by
  rw [disableGroup, indexOf_of_lt hi]
  dsimp only
  rw [h]

theorem disableGroup_disabled (h : s.scene.groups[i].state = .disabled) : disableGroup args s = done s := by
  rw [disableGroup, indexOf_of_lt hi]
  dsimp only
  rw [h]

theorem disableGroup_enabled (h : s.scene.groups[i].state = .enabled) :
    disableGroup args s = done (setGroup i (disabledGroup s.scene.groups[i]) s) := by
  rw [disableGroup, indexOf_of_lt hi]
  dsimp only
  rw [h]

end

section
variable {args : List Byte} (out : 32 ≤ byteAt args 0)
include out

theorem writeGroup_noIndex (s : State) : writeGroup args s = refuse .range s := by
  rw [writeGroup, indexOf_of_ge out]

theorem enableGroup_noIndex (s : State) : enableGroup args s = refuse .range s := by
  rw [enableGroup, indexOf_of_ge out]

theorem disableGroup_noIndex (s : State) : disableGroup args s = refuse .range s := by
  rw [disableGroup, indexOf_of_ge out]

end

/-! ### A group admitted (R145, R154) -/

theorem blockedNow_iff : blockedNow s d = true ↔
    d.hazeSource = true ∧ ∃ sh : Sheet, d.sheet = some sh ∧ covered s sh = false ∧ fogOf s sh ≠ .clear := by
  unfold blockedNow
  cases d.sheet <;> simp

theorem admitGroup_blocked {g : Group} (h : blockedNow s g.defn = true) : admitGroup i g s =
    setGroup i ⟨g.defn, .enabled, 0, none, none, true, some 0⟩ (queueCommand g.defn.dimmer 0 s) := if_pos h

theorem admitGroup_free {g : Group} (h : blockedNow s g.defn ≠ true) :
    admitGroup i g s = setGroup i ⟨g.defn, .enabled, 0, none, none, false, none⟩ s := if_neg h

end

end Sys2Proof.Machine
end

section
/-! THEOREMS. The requests on the step period and on groups. -/

namespace Sys2Proof.Machine

/-- Settles O44, request by request, and for each refusal check by check. -/
theorem groupRequestsChangeTheGroup : Obligations.GroupRequestsChangeTheGroup := by
  refine ⟨fun slot q s h low high => h.exec_eq (setStepPeriod_fits low high),
    fun slot q s h out => h.answersOnly (setStepPeriod_unfit out), fun slot q s i d h hi hs hd own last only => ?_,
    fun slot q s i h hi hs => ⟨fun blocked => ?_, fun free => ?_⟩,
    fun slot q s i h hi hs => h.exec_eq (disableGroup_enabled hi hs),
    fun slot q s => ⟨fun out => ⟨fun h => ?_, fun h => ?_, fun h => ?_⟩, fun i hi =>
      ⟨fun hs => ⟨fun h => ?_, fun h => ?_⟩, fun hs => ⟨fun h => ?_, fun h => ?_⟩, fun hs h => ?_, fun hs hd h => ?_,
        fun d hs hd => ⟨fun foreign h => ?_, fun held h => ?_⟩⟩⟩⟩
  · have free : AddrFree s (· = .group i) d.dimmer := ⟨fun foreign => foreign.elim own last, only⟩
    have loads := writeGroup_loads (s := taken .writeGroup slot s) hi hs hd (checkAddr_group_free free)
    exact h.exec_eq (loads.trans (congrArg done (loadGroup_eq i d (taken .writeGroup slot s))))
  · have admits := enableGroup_disabled (s := taken .enableGroup slot s) hi hs
    exact h.exec_eq (admits.trans (congrArg done (admitGroup_blocked (blockedNow_iff.2 blocked))))
  · have admits := enableGroup_disabled (s := taken .enableGroup slot s) hi hs
    exact h.exec_eq (admits.trans (congrArg done (admitGroup_free fun blocked => free (blockedNow_iff.1 blocked))))
  · exact h.answersOnly (writeGroup_noIndex out _)
  · exact h.answersOnly (enableGroup_noIndex out _)
  · exact h.answersOnly (disableGroup_noIndex out _)
  · exact h.answersOnly (enableGroup_unused hi hs)
  · exact h.answersOnly (disableGroup_unused hi hs)
  · exact h.answersOnly (writeGroup_enabled hi hs)
  · exact h.answersOnly (enableGroup_enabled hi hs)
  · exact h.answersOnly (disableGroup_disabled hi hs)
  · exact h.answersOnly (writeGroup_outOfRange hi hs hd)
  · have check := checkAddr_of_foreign (mineGroup i) foreign
    exact h.answersOnly (writeGroup_refused (s := taken .writeGroup slot s) hi hs hd check)
  · have check := checkAddr_group_taken held
    exact h.answersOnly (writeGroup_refused (s := taken .writeGroup slot s) hi hs hd check)

end Sys2Proof.Machine
end

section
/-! SUPPORT. The haze cut of a sheet (R155): what it leaves of each group and of the Command Queue. -/

namespace Sys2Proof.Machine

/-! ### Entries under commands queued (R11) -/

section
variable {q : List QueueEntry} {a b : ActAddr} {v : Nat}

/-- A command queued is in the queue. -/
theorem mem_enqueueCommand_self (a : ActAddr) (v : Nat) (q : List QueueEntry) :
    .actuator a v ∈ enqueueCommand a v q := by
  unfold enqueueCommand
  split
  · next pending =>
    obtain ⟨w, hw⟩ := any_isCommandFor.1 pending
    exact List.mem_map.2 ⟨_, hw, if_pos (isCommandFor_iff.2 ⟨w, rfl⟩)⟩
  · exact List.mem_append_right q List.mem_cons_self

/-- Commands queued leave the entries that are no command for their addresses. -/
theorem mem_enqueueCommand_of_not {e : QueueEntry} (h : isCommandFor a e = false) :
    e ∈ enqueueCommand a v q ↔ e ∈ q := by
  have apart (w : Nat) : e ≠ .actuator a w := fun he => by
    rw [isCommandFor_iff.2 ⟨w, he⟩] at h
    cases h
  unfold enqueueCommand replaceCommand
  split
  · rw [List.mem_map]
    constructor
    · rintro ⟨d, hd, he⟩
      split at he
      · exact absurd he.symm (apart v)
      · rwa [← he]
    · exact fun he => ⟨e, he, if_neg (by rw [h]; decide)⟩
  · simp [apart]

theorem mem_enqueueAll_of_not {e : QueueEntry} {cs : List (ActAddr × Nat)} (h : ∀ c ∈ cs, isCommandFor c.1 e = false) :
    e ∈ enqueueAll cs q ↔ e ∈ q := by
  induction cs generalizing q with
  | nil => rfl
  | cons c cs ih =>
    rw [enqueueAll_cons, ih fun c hc => h c (List.mem_cons_of_mem _ hc),
      mem_enqueueCommand_of_not (h c List.mem_cons_self)]

/-- A pending 0 stays pending while each command queued is a 0. -/
theorem mem_enqueueCommand_zero (h : .actuator b 0 ∈ q) (a : ActAddr) : .actuator b 0 ∈ enqueueCommand a 0 q := by
  rcases Classical.em (b = a) with rfl | other
  · exact mem_enqueueCommand_self b 0 q
  · exact (mem_enqueueCommand_of_not (by simp [isCommandFor, other])).2 h

theorem mem_enqueueAll_zero {cs : List (ActAddr × Nat)} (zero : ∀ c ∈ cs, c.2 = 0)
    (h : (b, 0) ∈ cs ∨ .actuator b 0 ∈ q) : .actuator b 0 ∈ enqueueAll cs q := by
  induction cs generalizing q with
  | nil => exact h.resolve_left List.not_mem_nil
  | cons c cs ih =>
    obtain ⟨a, v⟩ := c
    obtain rfl : v = 0 := zero _ List.mem_cons_self
    rw [enqueueAll_cons]
    refine ih (fun c hc => zero c (List.mem_cons_of_mem _ hc)) ?_
    rcases h with queued | pending
    · rcases List.mem_cons.1 queued with here | later
      · cases here
        exact .inr (mem_enqueueCommand_self b 0 q)
      · exact .inl later
    · exact .inr (mem_enqueueCommand_zero pending a)

end

/-! ### The walk over the groups -/

/-- R155: a group record after a haze cut. -/
def cutRecord (sh : Sheet) (g : Group) : Group :=
  if g.state = .enabled ∧ g.defn.hazeSource ∧ g.defn.sheet = some sh then { darkGroup g with lastSent := some 0 } else g

/-- R155: the command of a group at a haze cut. -/
def cutCommands (sh : Sheet) (g : Group) : List (ActAddr × Nat) :=
  if g.state = .enabled ∧ g.defn.hazeSource ∧ g.defn.sheet = some sh then [(g.defn.dimmer, 0)] else []

section
variable {sh : Sheet} {g : Group}

theorem cutRecord_haze (h : HazeGroup sh g) : cutRecord sh g = { darkGroup g with lastSent := some 0 } := if_pos h

theorem cutRecord_other (h : ¬HazeGroup sh g) : cutRecord sh g = g := if_neg h

theorem mem_cutCommands {c : ActAddr × Nat} : c ∈ cutCommands sh g ↔ HazeGroup sh g ∧ c = (g.defn.dimmer, 0) := by
  unfold cutCommands
  split
  · next h => exact List.mem_singleton.trans (and_iff_right h).symm
  · next h => exact iff_of_false List.not_mem_nil fun hc => h hc.1

end

/-- R155: a haze cut rewrites the groups one by one, and queues their commands. -/
theorem cut_walk (sh : Sheet) :
    TableWalk (cutGroup sh) (fun s => s.scene.groups) (cutRecord sh) (cutCommands sh) where
  record s i := by
    unfold cutGroup cutRecord
    dsimp only
    split
    · rfl
    · rw [set_getElem_self]
  queued s i := by
    unfold cutGroup cutCommands
    dsimp only
    split <;> rfl

/-! ### The whole cut -/

section
variable (sh : Sheet) (s : State)

/-- R155: the state of a haze cut before the load is reported. -/
def cutState : State := (List.finRange 32).foldl (cutGroup sh) s

theorem cutHaze_reports : cutHaze sh s = reportLoad (cutState sh s) := by
  rw [cutHaze, groupOrder, cutState]

theorem cutHaze_group (i : GroupIx) : (cutHaze sh s).scene.groups[i] = cutRecord sh s.scene.groups[i] := by
  have walked := (cut_walk sh).get (List.nodup_finRange 32) s i
  beta_reduce at walked
  rw [cutHaze_reports, reportLoad_scene, cutState, walked, if_pos (List.mem_finRange i)]

theorem cutHaze_queue : (cutHaze sh s).line.queue =
    enqueueAll ((List.finRange 32).flatMap fun i : GroupIx => cutCommands sh s.scene.groups[i]) s.line.queue := by
  rw [cutHaze_reports, reportLoad_line, cutState, (cut_walk sh).queue_eq]

/-- R155: the commands a haze cut queues: a 0 for the dimmer of each group it darkens. -/
theorem mem_cutHaze_commands {c : ActAddr × Nat} :
    c ∈ ((List.finRange 32).flatMap fun i : GroupIx => cutCommands sh s.scene.groups[i]) ↔
      ∃ i : GroupIx, HazeGroup sh s.scene.groups[i] ∧ c = (s.scene.groups[i].defn.dimmer, 0) := by
  simp only [List.mem_flatMap, List.mem_finRange, true_and, mem_cutCommands]

variable {sh s} in
/-- R155: the dimmer of a group that a haze cut darkens is left with a pending 0, and with no other command. -/
theorem cutHaze_pending {i : GroupIx} (haze : HazeGroup sh s.scene.groups[i]) :
    .actuator s.scene.groups[i].defn.dimmer 0 ∈ (cutHaze sh s).line.queue ∧
      ∀ v, .actuator s.scene.groups[i].defn.dimmer v ∈ (cutHaze sh s).line.queue → v = 0 := by
  have record := (cutHaze_group sh s i).trans (cutRecord_haze haze)
  have dark : SheetDark sh (cutHaze sh s) := cutHaze_sheetDark sh s
  refine ⟨?_, ?_⟩
  · rw [cutHaze_queue]
    refine mem_enqueueAll_zero (fun c hc => ?_) (.inl ((mem_cutHaze_commands sh s).2 ⟨i, haze, rfl⟩))
    obtain ⟨_, _, rfl⟩ := (mem_cutHaze_commands sh s).1 hc
    rfl
  · generalize cutHaze sh s = t at record dark ⊢
    have group := dark i
    rw [record] at group
    exact (group haze).2

theorem cutHaze_load : (cutHaze sh s).scene.loadReported = lightingLoad (cutHaze sh s) := by
  rw [cutHaze_reports, reportLoad_scene, lightingLoad, lightingLoad, reportLoad_scene]

/-- A haze cut changes the Command Queue, the groups, the load and what has been handed. -/
theorem cutHaze_eq : cutHaze sh s = { s with
    line.queue := (cutHaze sh s).line.queue
    scene := { s.scene with
      groups := (cutHaze sh s).scene.groups, loadReported := (cutHaze sh s).scene.loadReported }
    handed := s.handed ++ [.lightingLoadUpdate (cutHaze sh s).scene.loadReported] } := by
  obtain ⟨points, budget, fog, zones, mode, responder, notices, timeBase, pending⟩ := cutHaze_frame s sh
  have line := (cutHaze_lineKept s sh).rest
  have scene : (cutHaze sh s).scene = { s.scene with
      groups := (cutHaze sh s).scene.groups, loadReported := (cutHaze sh s).scene.loadReported } := by
    have walked : (cutState sh s).scene = _ := foldl_scene_groups (cutGroup_scene sh) (List.finRange 32) s
    rw [cutHaze_reports, reportLoad_scene, walked]
  have handed : (cutHaze sh s).handed = s.handed ++ [.lightingLoadUpdate (cutHaze sh s).scene.loadReported] := by
    have walked : (cutState sh s).handed = s.handed := by simp [cutState]
    rw [cutHaze_reports, reportLoad_handed, walked, reportLoad_scene]
  generalize cutHaze sh s = t at *
  cases t
  rw [State.mk.injEq]
  exact ⟨line, points, budget, fog, zones, scene, mode, responder, notices, timeBase, handed, pending⟩

end

end Sys2Proof.Machine
end

section
/-! THEOREMS. The haze cut. -/

namespace Sys2Proof.Machine

/-- Settles O43: the walk over the groups by what it leaves of each group and of each pending entry. -/
theorem hazeCutDarkensTheSheet : Obligations.HazeCutDarkensTheSheet := by
  intro s sh awake
  let s' := takeHanded (.hazeCut sh) s
  refine ⟨cutHaze sh s', ?_, fun i haze => ⟨?_, cutHaze_pending (s := s') haze⟩, fun i other => ?_, fun e spared => ?_,
    ?_, cutHaze_eq sh s'⟩
  · rw [exec_awake (.hazeCut sh) awake]
  · exact (cutHaze_group sh s' i).trans (cutRecord_haze haze)
  · exact (cutHaze_group sh s' i).trans (cutRecord_other other)
  · rw [cutHaze_queue]
    refine mem_enqueueAll_of_not fun c hc => ?_
    obtain ⟨i, haze, rfl⟩ := (mem_cutHaze_commands sh s').1 hc
    exact spared i haze
  · have each : groupLoad = fun g => if g.state = .enabled then g.defn.rated * g.level / 1000 else 0 := rfl
    rw [cutHaze_load, lightingLoad, each]

end Sys2Proof.Machine
end

section
/-! SUPPORT. The arena mode (R160, R164 to R166): what keeps it, and what a report and SET_MODE make of it. -/

namespace Sys2Proof.Machine

section
variable {s : State}

/-! ### What keeps the arena mode -/

/-- Of the events, a value report alone changes the Mode Unit; RESTART leaves it as it stands. -/
theorem event_mode {c : Instr} {f : State → State} (event : Event c f) (other : ∀ i v, c ≠ .valueReport i v)
    (s : State) : (f s).mode = s.mode := by
  cases event with
  | valueReport point value => exact absurd rfl (other point value)
  | frameArrival bytes =>
    have arrival : KeptByArrival fun t => t.mode = s.mode := {
      error := fun _ h => h
      activity := fun _ h => by simpa using h
      node := fun _ _ _ _ h => h
      overrun := fun _ h => by simpa using h
      forward := fun _ _ _ h => h
      samples := fun _ _ _ h => by simpa using h
      entries := fun _ _ _ _ h => by simpa using h
      offered := fun _ _ _ h => by simpa using h }
    exact arrival.of_arrive bytes s rfl
  | lineOutSendComplete =>
    exact completeSending_keeps (P := fun t => t.mode = s.mode) rfl (fun _ => rfl) (fun _ _ _ _ => by simp)
      fun _ => by simp [restartEffect_mode]
  | _ => simp

/-- Of the requests, SET_MODE alone changes the arena mode. -/
theorem answerOf_arenaMode {r : Req} (other : r ≠ .setMode) (args : List Byte) (s : State) :
    (answerOf r args s).state.mode.mode = s.mode.mode := by
  cases r with
  | setMode => exact absurd rfl other
  | writeProfile =>
    show (writeProfile args s).state.mode.mode = s.mode.mode
    fun_cases writeProfile args s
    case case3 m _ p _ _ =>
      have kept : (setProfile m p s.mode).mode = s.mode.mode := by cases m <;> rfl
      show (loadProfile m p s).mode.mode = s.mode.mode
      unfold loadProfile
      dsimp only
      split <;> exact kept
    all_goals rfl
  | coverSheet =>
    show (coverSheet args s).state.mode.mode = s.mode.mode
    fun_cases coverSheet args s
    case case3 sh _ _ => cases sh <;> simp [setCover]
    all_goals rfl
  | uncoverSheet =>
    show (uncoverSheet args s).state.mode.mode = s.mode.mode
    fun_cases uncoverSheet args s
    case case2 sh _ _ => cases sh <;> simp [setCover]
    all_goals rfl
  | _ => simp [answerOf]

theorem takeRequest_arenaMode {r : Req} (other : r ≠ .setMode) (slot : SlotIx) (restart : Bool) (s : State) :
    (takeRequest r slot restart (answerOf r) s).mode.mode = s.mode.mode :=
  takeRequest_keeps (P := fun t => t.mode.mode = s.mode.mode) (fun _ _ h => h)
    (fun args t h => (answerOf_arenaMode other args t).trans h) (fun _ _ _ _ _ h => by simpa [placeReply] using h) rfl

theorem perform_arenaMode {f : State → State} {t : State} (kept : (f s).mode.mode = s.mode.mode)
    (run : perform f s = .next t) : t.mode.mode = s.mode.mode := by
  cases held : s.line.held with
  | true =>
    rw [perform_held s f held] at run
    cases run
    rfl
  | false =>
    rw [perform_awake s f held] at run
    cases run
    rwa [arbitrate_mode]

/-! ### A value report (R165, R166) -/

theorem wakeClass_iff {p : Point} : wakeClass p = true ↔ p.defn.cls = .count ∨ p.defn.cls = .position := by
  rw [wakeClass, Bool.or_eq_true, decide_eq_true_iff, decide_eq_true_iff]

theorem isWake_iff {i : PointIx} {v : Int} : isWake s i v = true ↔
    s.mode.mode = .setback ∧ i ∈ s.mode.setbackProfile.wakePoints ∧
      (s.points[i].defn.cls = .count ∨ s.points[i].defn.cls = .position) ∧ 0 < v := by
  simp only [isWake, Bool.and_eq_true, decide_eq_true_iff, List.contains_iff_mem, wakeClass_iff, and_assoc]

theorem takeReport_wake {i : PointIx} {v : Int} (wake : isWake s i v = true) : takeReport i v s = { s with
    mode.mode := exitMode s.mode
    handed := s.handed ++ [.noticeOffer .mode 0 (65536 * i.val + 28 + modeCode (exitMode s.mode) : Nat),
      .reallocationRequest, .electricRecompute] } := by
  obtain ⟨setback, -⟩ := isWake_iff.1 wake
  rw [takeReport, if_pos wake, changeMode, setback]
  rfl

theorem takeReport_idle {i : PointIx} {v : Int} (idle : ¬isWake s i v = true) : takeReport i v s = s := if_neg idle

/-! ### SET_MODE (R164, R165) -/

theorem enterMode_eq (m : Mode) (s : State) : enterMode m s = { s with
    mode.mode := m
    mode.previous := if m = .setback then s.mode.mode else s.mode.previous
    handed := s.handed ++ [.noticeOffer .mode 0 (4 * modeCode s.mode.mode + modeCode m : Nat), .reallocationRequest,
      .electricRecompute] } := by
  have value : modeNoticeValue 0 0 s.mode.mode m = 4 * modeCode s.mode.mode + modeCode m := by
    simp [modeNoticeValue]
  rw [← value, enterMode]
  split <;> rfl

theorem setMode_noMode {args : List Byte} (out : 3 < byteAt args 0) (s : State) : setMode args s = refuse .range s := by
  rw [setMode, modeOf_of_ge out]

section
variable {args : List Byte} {m : Mode} (hm : byteAt args 0 = modeCode m)
include hm

theorem setMode_inForce (h : m = s.mode.mode) : setMode args s = done s := by
  rw [setMode, hm, modeOf_modeCode]
  exact if_pos h

theorem setMode_enters (h : m ≠ s.mode.mode) : setMode args s = done (enterMode m s) := by
  rw [setMode, hm, modeOf_modeCode]
  exact if_neg h

end

end

end Sys2Proof.Machine
end

section
/-! THEOREMS. The arena mode. -/

namespace Sys2Proof.Machine

/-- Settles O45: the commands by their shape, the report by whether it is a wake, and SET_MODE by the mode it names. -/
theorem modeChangesByWakeAndRequest : Obligations.ModeChangesByWakeAndRequest := by
  refine ⟨fun c s t run changed => ?_, fun s i v awake => ⟨fun wake => ?_, fun idle => ?_⟩,
    fun slot q s h out => h.exec_eq (setMode_noMode out _), fun slot q s m h hm => ⟨fun same => ?_, fun differs => ?_⟩⟩
  · rcases command_cases c with ⟨own, controller, rfl⟩ | rfl | ⟨r, slot, rfl⟩ | ⟨f, event⟩
    · exact .inr (.inr ⟨own, controller, rfl⟩)
    · rw [exec_resetAsserted] at run
      cases run
      exact absurd rfl changed
    · rcases eq_or_ne r .setMode with rfl | other
      · exact .inr (.inl ⟨slot, rfl⟩)
      · rw [exec_request] at run
        exact absurd (perform_arenaMode (takeRequest_arenaMode other slot _ s) run) changed
    · refine .inl (by_contra fun unreported => changed ?_)
      rw [exec_event event] at run
      have other : ∀ i v, c ≠ .valueReport i v := fun i v e => unreported ⟨i, v, e⟩
      exact perform_arenaMode (congrArg ModeUnit.mode (event_mode event other s)) run
  · rw [exec_awake (.valueReport i v) awake,
      takeReport_wake (s := takeHanded (.valueReport i v) s) (isWake_iff.2 wake)]
    rfl
  · rw [exec_awake (.valueReport i v) awake,
      takeReport_idle (s := takeHanded (.valueReport i v) s) (mt isWake_iff.1 idle)]
    rfl
  · exact h.exec_eq (setMode_inForce hm same)
  · have enters := setMode_enters (s := taken .setMode slot s) hm differs
    exact h.exec_eq (enters.trans (congrArg done (enterMode_eq m _)))

end Sys2Proof.Machine
end

section
/-! SUPPORT. The profiles (R163), and the cover of a sheet (R97, R98, R169, R170). -/

namespace Sys2Proof.Machine

/-! ### WRITE_PROFILE (R163) -/

section
variable {s : State} {m : Mode} {p : Profile}

theorem profileOf_setProfile (m : Mode) (p : Profile) (u : ModeUnit) : profileOf (setProfile m p u) m = p := by
  cases m <;> rfl

theorem profileOf_setProfile_other {n : Mode} (h : n ≠ m) (p : Profile) (u : ModeUnit) :
    profileOf (setProfile m p u) n = profileOf u n := by
  cases m <;> cases n
  case event.event | practice.practice | convert.convert | setback.setback => exact absurd rfl h
  all_goals rfl

theorem setProfile_modes (m : Mode) (p : Profile) (u : ModeUnit) :
    (setProfile m p u).mode = u.mode ∧ (setProfile m p u).previous = u.previous := by
  cases m <;> exact ⟨rfl, rfl⟩

theorem loadProfile_eq (m : Mode) (p : Profile) (s : State) : loadProfile m p s = { s with
    mode := setProfile m p s.mode
    handed := s.handed ++ if m = s.mode.mode then [.reallocationRequest] else [] } := by
  unfold loadProfile
  dsimp only
  split
  · rfl
  · rw [List.append_nil]

/-- R163: what the check asks of each wake point. -/
def WakePoint (s : State) (i : PointIx) : Prop :=
  s.points[i].state ≠ .unused ∧ (s.points[i].defn.cls = .count ∨ s.points[i].defn.cls = .position)

theorem wakePointsFit_iff {ps : List PointIx} : wakePointsFit s ps = true ↔ ps.Nodup ∧ ∀ i ∈ ps, WakePoint s i := by
  simp only [wakePointsFit, WakePoint, Bool.and_eq_true, decide_eq_true_iff, List.all_eq_true, bne_iff_ne,
    wakeClass_iff]

theorem not_wakePoint_iff {i : PointIx} : ¬WakePoint s i ↔
    s.points[i].state = .unused ∨ (s.points[i].defn.cls ≠ .count ∧ s.points[i].defn.cls ≠ .position) := by
  rw [WakePoint, not_and_or, not_not, not_or]

theorem writeProfile_noMode {args : List Byte} (out : 3 < byteAt args 0) (s : State) :
    writeProfile args s = refuse .range s := by
  rw [writeProfile, modeOf_of_ge out]

section
variable {args : List Byte} (hm : byteAt args 0 = modeCode m)
include hm

theorem writeProfile_outOfRange (hp : profileArgs m args = none) : writeProfile args s = refuse .range s := by
  rw [writeProfile, hm, modeOf_modeCode]
  dsimp only
  rw [hp]

variable (hp : profileArgs m args = some p)
include hp

/-- The check of the wake points, once the profile has been read. -/
theorem writeProfile_read : writeProfile args s =
    if wakePointsFit s p.wakePoints then done (loadProfile m p s) else refuse .range s := by
  rw [writeProfile, hm, modeOf_modeCode]
  dsimp only
  rw [hp]

theorem writeProfile_loads (unique : p.wakePoints.Nodup) (fit : ∀ i ∈ p.wakePoints, WakePoint s i) :
    writeProfile args s = done (loadProfile m p s) :=
  (writeProfile_read hm hp).trans (if_pos (wakePointsFit_iff.2 ⟨unique, fit⟩))

theorem writeProfile_unfit (h : ¬p.wakePoints.Nodup ∨ ∃ i ∈ p.wakePoints, ¬WakePoint s i) :
    writeProfile args s = refuse .range s := by
  refine (writeProfile_read hm hp).trans (if_neg fun fits => ?_)
  obtain ⟨unique, fit⟩ := wakePointsFit_iff.1 fits
  obtain twice | ⟨i, hi, unfit⟩ := h
  · exact twice unique
  · exact unfit (fit i hi)

end

end

/-! ### A cover flag and its sheet -/

/-- What a cover request leaves: the flag of a sheet set to a value, its record replaced, and what is handed. -/
def withCover (sh : Sheet) (b : Bool) (r : SheetRec) (l : List Instr) (s : State) : State :=
  { setSheet sh r (setCover sh b s) with handed := l }

section
variable (sh : Sheet) (b : Bool) (r : SheetRec) (l : List Instr) (s : State)

theorem withCover_covered : covered (withCover sh b r l s) sh = b := by
  cases sh <;> rfl

theorem withCover_sheetRec : sheetRec (withCover sh b r l s).fog sh = r := sheetRec_setSheet (setCover sh b s) sh r

theorem withCover_covered_other (other : Sheet) (h : other ≠ sh) :
    covered (withCover sh b r l s) other = covered s other :=
  (covered_congr (setSheet_mode _ sh r) other).trans (setCover_other h b).cover

theorem withCover_sheetRec_other (other : Sheet) (h : other ≠ sh) :
    sheetRec (withCover sh b r l s).fog other = sheetRec s.fog other := by
  have record := sheetRec_setSheet_other (s := setCover sh b s) h r
  rwa [setCover_fog] at record

/-- A cover request changes the cover flags, the Fog Monitor and what has been handed. -/
theorem withCover_frame : withCover sh b r l s = { s with
    mode.cover1 := (withCover sh b r l s).mode.cover1
    mode.cover2 := (withCover sh b r l s).mode.cover2
    fog := (withCover sh b r l s).fog
    handed := l } := by
  cases sh <;> rfl

/-- What has been handed before stands beside what a cover request leaves. -/
theorem withCover_from_handed (l' : List Instr) : withCover sh b r l { s with handed := l' } = withCover sh b r l s := by
  cases sh <;> rfl

end

/-! ### Covering and uncovering (R97, R98) -/

section
variable {s : State} {sh : Sheet}

/-- R97: the sheet stands in CLEAR without a recover timer; the notice is handed where it left another state, and the
caps for CLEAR in every case. -/
theorem coverFog_eq (sh : Sheet) (s : State) : coverFog sh s =
    { setSheet sh { sheetRec s.fog sh with fog := .clear, recoverTimer := none } s with
      handed := s.handed ++ (if fogOf s sh = .clear then [] else
        [.noticeOffer .fogState (sheetNumber sh) (4 * fogCode (fogOf s sh) : Nat)]) ++
        [.capHanding sh s.fog.caps.clear] } := by
  unfold coverFog fogOf
  dsimp only
  rw [sheetRec_setSheet]
  by_cases clear : (sheetRec s.fog sh).fog = .clear
  · rw [if_pos clear, if_pos clear, ← clear]
    simp [handCaps, hand, capsInForce, fogOf, clear, capsOf]
  · rw [if_neg clear, if_neg clear, fogTransition_eq]
    simp [fogOf, clear, transitionHandings, fogNoticeValue, capsOf, fogCode]

/-- R98: an ENABLED sheet found in CLEAR moves to WATCH. -/
theorem uncoverFog_enabled (enabled : (sheetRec s.fog sh).state = .enabled) (clear : fogOf s sh = .clear) :
    uncoverFog sh s = { setSheet sh { sheetRec s.fog sh with fog := .watch } s with
      handed := s.handed ++
        [.noticeOffer .fogState (sheetNumber sh) 1, .capHanding sh s.fog.caps.watch, .hazeCut sh] } := by
  rw [uncoverFog, if_pos enabled, fogTransition_eq, clear]
  rfl

/-- R98: of any other sheet found in CLEAR the caps for CLEAR are handed. -/
theorem uncoverFog_idle (idle : (sheetRec s.fog sh).state ≠ .enabled) (clear : fogOf s sh = .clear) :
    uncoverFog sh s = { setSheet sh (sheetRec s.fog sh) s with
      handed := s.handed ++ [.capHanding sh s.fog.caps.clear] } := by
  rw [uncoverFog, if_neg idle, handCaps, capsInForce, clear]
  cases sh <;> rfl

/-! ### COVER_SHEET and UNCOVER_SHEET (R169, R170) -/

section
variable {args : List Byte} (hi : byteAt args 0 = sheetNumber sh)
include hi

theorem coverSheet_covered (h : covered s sh = true) : coverSheet args s = done s := by
  rw [coverSheet, hi, sheetOf_sheetNumber]
  exact if_pos h

theorem coverSheet_uncovered (h : covered s sh = false) : coverSheet args s = done (withCover sh true
    { sheetRec s.fog sh with fog := .clear, recoverTimer := none }
    (s.handed ++ (if fogOf s sh = .clear then [] else
      [.noticeOffer .fogState (sheetNumber sh) (4 * fogCode (fogOf s sh) : Nat)]) ++
      [.capHanding sh s.fog.caps.clear, .reallocationRequest]) s) := by
  have covers : coverSheet args s = done (hand .reallocationRequest (coverFog sh (setCover sh true s))) := by
    rw [coverSheet, hi, sheetOf_sheetNumber]
    exact if_neg (by simp [h])
  have fog : fogOf (setCover sh true s) sh = fogOf s sh := fogOf_congr (setCover_fog _ sh true) sh
  rw [covers, coverFog_eq, fog, setCover_fog, setCover_handed, hand, withCover]
  simp only [List.append_assoc, List.cons_append, List.nil_append]

theorem uncoverSheet_uncovered (h : covered s sh = false) : uncoverSheet args s = done s := by
  rw [uncoverSheet, hi, sheetOf_sheetNumber]
  exact if_neg (by simp [h])

/-- R170: the cover flag is cleared first, then the Fog Monitor takes the uncover. -/
theorem uncoverSheet_covered (h : covered s sh = true) :
    uncoverSheet args s = done (hand .reallocationRequest (uncoverFog sh (setCover sh false s))) := by
  rw [uncoverSheet, hi, sheetOf_sheetNumber]
  exact if_pos h

variable (h : covered s sh = true) (clear : fogOf s sh = .clear)
include h clear

theorem uncoverSheet_enabled (enabled : (sheetRec s.fog sh).state = .enabled) : uncoverSheet args s =
    done (withCover sh false { sheetRec s.fog sh with fog := .watch }
      (s.handed ++ [.noticeOffer .fogState (sheetNumber sh) 1, .capHanding sh s.fog.caps.watch, .hazeCut sh,
        .reallocationRequest]) s) := by
  have fog : (setCover sh false s).fog = s.fog := setCover_fog s sh false
  rw [uncoverSheet_covered hi h, uncoverFog_enabled (by rwa [fog]) ((fogOf_congr fog sh).trans clear), fog,
    setCover_handed, hand, withCover]
  simp only [List.append_assoc, List.cons_append, List.nil_append]

theorem uncoverSheet_idle (idle : (sheetRec s.fog sh).state ≠ .enabled) : uncoverSheet args s =
    done (withCover sh false (sheetRec s.fog sh)
      (s.handed ++ [.capHanding sh s.fog.caps.clear, .reallocationRequest]) s) := by
  have fog : (setCover sh false s).fog = s.fog := setCover_fog s sh false
  rw [uncoverSheet_covered hi h, uncoverFog_idle (by rwa [fog]) ((fogOf_congr fog sh).trans clear), fog,
    setCover_handed, hand, withCover]
  simp only [List.append_assoc, List.cons_append, List.nil_append]

end

section
variable {args : List Byte} (one : byteAt args 0 ≠ 1) (two : byteAt args 0 ≠ 2) (s : State)
include one two

theorem coverSheet_noSheet : coverSheet args s = refuse .range s := by
  rw [coverSheet, sheetOf_of_ne one two]

theorem uncoverSheet_noSheet : uncoverSheet args s = refuse .range s := by
  rw [uncoverSheet, sheetOf_of_ne one two]

end

end

end Sys2Proof.Machine
end

section
/-! THEOREMS. The profiles and the covers. -/

namespace Sys2Proof.Machine

/-- Settles O46: each request by what it finds, and each refusal by its check. -/
theorem profilesAndCoversAreSet : Obligations.ProfilesAndCoversAreSet := by
  refine ⟨fun slot q s m p h hm hp unique fit => ?_, fun slot q s sh h hi => ⟨fun cover => ?_, fun cover => ?_⟩,
    fun slot q s => ⟨fun out h => ?_, fun m hm hp h => ?_, fun m p hm hp unfit h => ?_,
      fun one two => ⟨fun h => ?_, fun h => ?_⟩⟩,
    fun slot q s sh h hi => ⟨fun cover => ?_, fun cover clear => ?_⟩⟩
  · have loads := writeProfile_loads (s := taken .writeProfile slot s) hm hp unique fit
    obtain ⟨mode, previous⟩ := setProfile_modes m p s.mode
    obtain ⟨one, two⟩ := setProfile_cover m p s.mode
    refine ⟨_, h.exec_eq (loads.trans (congrArg done (loadProfile_eq m p _))), profileOf_setProfile m p s.mode,
      fun n other => profileOf_setProfile_other other p s.mode, mode, previous, fun sh => ?_, rfl⟩
    cases sh
    · exact one
    · exact two
  · exact h.exec_eq (coverSheet_covered hi cover)
  · have covers := coverSheet_uncovered (s := taken .coverSheet slot s) hi cover
    refine ⟨_, h.exec_eq (covers.trans (congrArg done (withCover_from_handed sh _ _ _ s _))), ?_⟩
    exact ⟨withCover_covered .., withCover_covered_other sh _ _ _ s, withCover_sheetRec ..,
      withCover_sheetRec_other sh _ _ _ s, rfl, withCover_frame ..⟩
  · exact h.answersOnly (writeProfile_noMode out _)
  · exact h.answersOnly (writeProfile_outOfRange hm hp)
  · have check : ¬p.wakePoints.Nodup ∨ ∃ i ∈ p.wakePoints, ¬WakePoint s i := by
      simpa only [not_wakePoint_iff] using unfit
    exact h.answersOnly (writeProfile_unfit (s := taken .writeProfile slot s) hm hp check)
  · exact h.answersOnly (coverSheet_noSheet one two _)
  · exact h.answersOnly (uncoverSheet_noSheet one two _)
  · exact h.exec_eq (uncoverSheet_uncovered hi cover)
  · rcases eq_or_ne (sheetRec s.fog sh).state .enabled with enabled | idle
    · have uncovers := uncoverSheet_enabled (s := taken .uncoverSheet slot s) hi cover clear enabled
      refine ⟨_, h.exec_eq (uncovers.trans (congrArg done (withCover_from_handed sh _ _ _ s _))), ?_⟩
      exact ⟨withCover_covered .., withCover_covered_other sh _ _ _ s, withCover_sheetRec_other sh _ _ _ s,
        fun _ => ⟨withCover_sheetRec .., rfl⟩, fun idle => absurd enabled idle, withCover_frame ..⟩
    · have uncovers := uncoverSheet_idle (s := taken .uncoverSheet slot s) hi cover clear idle
      refine ⟨_, h.exec_eq (uncovers.trans (congrArg done (withCover_from_handed sh _ _ _ s _))), ?_⟩
      exact ⟨withCover_covered .., withCover_covered_other sh _ _ _ s, withCover_sheetRec_other sh _ _ _ s,
        fun enabled => absurd enabled idle, fun _ => ⟨withCover_sheetRec .., rfl⟩, withCover_frame ..⟩

end Sys2Proof.Machine
end

section
/-! THEOREMS. The idle step. -/

namespace Sys2Proof.Machine

theorem step_handed {s : State} {e : Instr} {rest : List Instr} (idle : s.pending = []) (h : s.handed = e :: rest) :
    step s = exec e s := by
  rw [step, idle, h]

theorem step_idle {s : State} (idle : s.pending = []) (h : s.handed = []) : step s = .next (timePasses s) := by
  rw [step, idle, h]

theorem timePasses_held {s : State} (h : s.line.held = true) : timePasses s = s := if_pos h

theorem timePasses_awake {s : State} (h : s.line.held = false) : timePasses s = tickMs s := if_neg (by simp [h])

theorem sheetRec_tickMs (s : State) (sh : Sheet) : sheetRec (tickMs s).fog sh = tickSheet (sheetRec s.fog sh) := by
  cases sh <;> rfl

/-- Settles O2. -/
theorem idleStepTakesTheHandedThenTime : Obligations.IdleStepTakesTheHandedThenTime := by
  intro s idle
  refine ⟨fun e rest => step_handed idle, fun none held => ?_, fun none awake => ⟨tickMs s, ?_, rfl, rfl, fun i => ?_,
    sheetRec_tickMs s, rfl⟩⟩
  · rw [step_idle idle none, timePasses_held held]
  · rw [step_idle idle none, timePasses_awake awake]
  · exact get_map tickPoint s.points i

end Sys2Proof.Machine
end

section
/-! SUPPORT. What the owners of the forty-four requests can answer (R176, R177). -/

namespace Sys2Proof.Machine

/-- What the owner of a write can answer: DONE without results, or a refusal that changes nothing. -/
inductive WritesOrRefuses (s : State) : Answer → Prop
  | done (t : State) : WritesOrRefuses s (done t)
  | refuse (status : Status) : WritesOrRefuses s (refuse status s)

/-- What the owner of a read can answer: DONE with results, or a refusal; neither changes anything. -/
inductive ReadsOrRefuses (s : State) : Answer → Prop
  | read (results : List Byte) : ReadsOrRefuses s (doneWith results s)
  | refuse (status : Status) : ReadsOrRefuses s (refuse status s)

section
variable {s : State} {a : Answer}

theorem WritesOrRefuses.results (h : WritesOrRefuses s a) : a.results = [] := by
  cases h <;> rfl

theorem WritesOrRefuses.refused (h : WritesOrRefuses s a) (other : a.status ≠ .done) : a.state = s := by
  cases h with
  | done => exact absurd rfl other
  | refuse => rfl

theorem ReadsOrRefuses.state (h : ReadsOrRefuses s a) : a.state = s := by
  cases h <;> rfl

theorem ReadsOrRefuses.refused (h : ReadsOrRefuses s a) (other : a.status ≠ .done) : a.results = [] := by
  cases h with
  | read => exact absurd rfl other
  | refuse => rfl

end

/-- A request that is no read writes or refuses, on every path of its owner. -/
theorem answerOf_writes {r : Req} (h : rightOf r ≠ .read) (args : List Byte) (s : State) :
    WritesOrRefuses s (answerOf r args s) := by
  cases r
  all_goals dsimp only [answerOf]
  case readPoint | readBudget | readSheet | readZone | readBuffer | readGroup | readProfile | readStatus | readNode =>
    exact absurd rfl h
  case writePoint => fun_cases writePoint args s <;> constructor
  case enablePoint => fun_cases enablePoint args s <;> constructor
  case disablePoint => fun_cases disablePoint args s <;> constructor
  case clearSubstitute => fun_cases clearSubstitute args s <;> constructor
  case writeRecovery => fun_cases writeRecovery args s <;> constructor
  case writeConsumer => fun_cases writeConsumer args s <;> constructor
  case enableConsumer => fun_cases enableConsumer args s <;> constructor
  case disableConsumer => fun_cases disableConsumer args s <;> constructor
  case loadDewTable => fun_cases loadDewTable args s <;> constructor
  case writeSheet => fun_cases writeSheet args s <;> constructor
  case enableFog => fun_cases enableFog args s <;> constructor
  case disableFog => fun_cases disableFog args s <;> constructor
  case writeFogCaps => fun_cases writeFogCaps args s <;> constructor
  case writeZone => fun_cases writeZone args s <;> constructor
  case enableZone => fun_cases enableZone args s <;> constructor
  case disableZone => fun_cases disableZone args s <;> constructor
  case configureBuffer => fun_cases configureBuffer args s <;> constructor
  case lockBuffer => fun_cases lockBuffer args s <;> constructor
  case unlockBuffer => fun_cases unlockBuffer args s <;> constructor
  case writeScene => fun_cases writeScene args s <;> constructor
  case commit => fun_cases commitBuffer args s <;> constructor
  case enableBuffer => fun_cases enableBuffer args s <;> constructor
  case disableBuffer => fun_cases disableBuffer args s <;> constructor
  case setStepPeriod => fun_cases setStepPeriod args s <;> constructor
  case writeGroup => fun_cases writeGroup args s <;> constructor
  case enableGroup => fun_cases enableGroup args s <;> constructor
  case disableGroup => fun_cases disableGroup args s <;> constructor
  case writeProfile => fun_cases writeProfile args s <;> constructor
  case setMode => fun_cases setMode args s <;> constructor
  case coverSheet => fun_cases coverSheet args s <;> constructor
  case uncoverSheet => fun_cases uncoverSheet args s <;> constructor
  case writeRights => fun_cases writeRights args s <;> constructor
  case freezeRights => fun_cases freezeRights args s <;> constructor
  case restart => exact .done _
  case writeNoticeMask => fun_cases writeNoticeMask args s <;> constructor

/-- A read reads or refuses. READ_STATUS alone may change something (R10, R182). -/
theorem answerOf_reads {r : Req} (h : rightOf r = .read) (other : r ≠ .readStatus) (args : List Byte) (s : State) :
    ReadsOrRefuses s (answerOf r args s) := by
  cases r
  all_goals dsimp only [answerOf]
  case readPoint => exact .read _
  case readBudget =>
    unfold readBudget
    repeat' split
    all_goals constructor
  case readSheet => fun_cases readSheet args s <;> constructor
  case readZone =>
    unfold readZone
    repeat' split
    all_goals constructor
  case readBuffer => fun_cases readBuffer args s <;> constructor
  case readGroup =>
    unfold readGroup
    repeat' split
    all_goals constructor
  case readProfile => fun_cases readProfile args s <;> constructor
  case readStatus => exact absurd rfl other
  case readNode => fun_cases readNode args s <;> constructor
  all_goals cases h

/-- READ_STATUS is answered DONE, or refused. -/
theorem readStatus_cases (args : List Byte) (s : State) :
    (readStatus args s).status = .done ∨ ∃ status, readStatus args s = refuse status s := by
  fun_cases readStatus args s
  · exact .inl rfl
  · exact .inl rfl
  · exact .inr ⟨.range, rfl⟩

/-- R177: an answer other than DONE changes nothing and carries no results. -/
theorem answerOf_refused (r : Req) (args : List Byte) (s : State) (other : (answerOf r args s).status ≠ .done) :
    (answerOf r args s).state = s ∧ (answerOf r args s).results = [] := by
  rcases eq_or_ne (rightOf r) .read with right | right
  · rcases eq_or_ne r .readStatus with rfl | plain
    · obtain isDone | ⟨status, refused⟩ := readStatus_cases args s
      · exact absurd isDone other
      · exact ⟨congrArg Answer.state refused, congrArg Answer.results refused⟩
    · have reads := answerOf_reads right plain args s
      exact ⟨reads.state, reads.refused other⟩
  · have writes := answerOf_writes right args s
    exact ⟨writes.refused other, writes.results⟩

end Sys2Proof.Machine
end

section
/-! THEOREMS. The answers of the requests. -/

namespace Sys2Proof.Machine

/-- Settles O4: the answer of each owner, by whether the request is a read. -/
theorem refusedRequestsChangeNothing : Obligations.RefusedRequestsChangeNothing := fun r slot q s h =>
  ⟨_, _, _, exec_of_canTake h, answerOf_refused r q.args (taken r slot s),
    fun right => (answerOf_writes right q.args (taken r slot s)).results,
    fun right other => (answerOf_reads right other q.args (taken r slot s)).state⟩

end Sys2Proof.Machine
end

section
/-! SUPPORT. The Request Stage (R21, R174, R175): the three checks of a request, the slot it takes, and what it leaves
there. -/

namespace Sys2Proof.Machine

/-! ### The checks (R175) -/

section
variable {rights : Rights} {code handle : Byte} {args : List Byte} {r : Req}

theorem checkRequest_short {payload : List Byte} (h : payload.length < 2) :
    checkRequest rights payload = .refuse .badFormat := by
  match payload with
  | [] | [_] => rfl
  | _ :: _ :: _ => exact absurd h (by simp)

theorem checkRequest_unknown (h : reqOfCode code = none) :
    checkRequest rights (code :: handle :: args) = .refuse .unknown := by
  rw [checkRequest, h]

/-- R175: the checks of a request whose code is known. -/
theorem checkRequest_known (h : reqOfCode code = some r) : checkRequest rights (code :: handle :: args) =
    if !argsFit r args then .refuse .badFormat
    else if !holdsRight rights (rightOf r) then .refuse .rights
    else .pass r := by
  rw [checkRequest, h]

theorem checkRequest_misfit (h : reqOfCode code = some r) (fit : argsFit r args = false) :
    checkRequest rights (code :: handle :: args) = .refuse .badFormat := by
  simp [checkRequest_known h, fit]

theorem checkRequest_noRight (h : reqOfCode code = some r) (fit : argsFit r args = true)
    (right : holdsRight rights (rightOf r) = false) :
    checkRequest rights (code :: handle :: args) = .refuse .rights := by
  simp [checkRequest_known h, fit, right]

theorem checkRequest_pass (h : reqOfCode code = some r) (fit : argsFit r args = true)
    (right : holdsRight rights (rightOf r) = true) :
    checkRequest rights (code :: handle :: args) = .pass r := by
  simp [checkRequest_known h, fit, right]

end

/-! ### The slots (R174) -/

section
variable {u : Responder} {slot : SlotIx} {v : SlotState}

theorem freeSlot_none (h0 : u.slot0 ≠ .free) (h1 : u.slot1 ≠ .free) : freeSlot u = none := by
  rw [freeSlot, if_neg h0, if_neg h1]

/-- The slot a request takes is a FREE one, slot 0 before slot 1. -/
theorem freeSlot_some (free : slotOf u slot = .free) (first : slot = 1 → u.slot0 ≠ .free) :
    freeSlot u = some slot := by
  match slot with
  | 0 => exact if_pos free
  | 1 => exact (if_neg (first rfl)).trans (if_pos free)

theorem otherSlot_ne (slot : SlotIx) : otherSlot slot ≠ slot := by
  match slot with
  | 0 | 1 => decide

/-- A slot set is one of the two of the Responder. -/
theorem setSlot_eq (slot : SlotIx) (v : SlotState) (s : State) : setSlot slot v s = { s with
    responder.slot0 := (setSlot slot v s).responder.slot0, responder.slot1 := (setSlot slot v s).responder.slot1 } := by
  match slot with
  | 0 | 1 => rfl

theorem setSlot_first (slot : SlotIx) (v : SlotState) (s : State) :
    (setSlot slot v s).responder.first = s.responder.first := by
  match slot with
  | 0 | 1 => rfl

theorem isChecked_iff : isChecked v = true ↔ ∃ p, v = .checked p := by
  cases v <;> simp [isChecked]

/-- R176: of two CHECKED requests the one in the other slot is the earlier. -/
theorem firstChecked_other_iff :
    firstChecked slot u = otherSlot slot ↔ ∃ p, slotOf u (otherSlot slot) = .checked p := by
  rw [← isChecked_iff, firstChecked]
  split
  · next checked => exact iff_of_true rfl checked
  · next unchecked => exact iff_of_false (otherSlot_ne slot).symm unchecked

end

/-! ### A request staged, refused, answered BUSY or dropped -/

section
variable {s : State} {slot : SlotIx} {source : Nat} {payload : List Byte}

theorem offerRequest_held (h0 : s.responder.slot0 ≠ .free) (h1 : s.responder.slot1 ≠ .free) :
    offerRequest source payload s = answerBusy source payload s := by
  rw [offerRequest, freeSlot_none h0 h1]

/-- R21: with both slots held a request is answered BUSY, or dropped and counted. -/
theorem answerBusy_eq (source : Nat) (payload : List Byte) (s : State) : answerBusy source payload s =
    if (s.line.queue.filter isBusy).length < 6 then
      { s with line.queue := s.line.queue ++ [.busy source [payload.getD 0 0, payload.getD 1 0, 1]] }
    else { s with line.drops := min (s.line.drops + 1) 65535 } := rfl

section
variable (free : slotOf s.responder slot = .free) (first : slot = 1 → s.responder.slot0 ≠ .free)
include free first

theorem offerRequest_free : offerRequest source payload s = checkIn slot source payload s := by
  rw [offerRequest, freeSlot_some free first]

theorem offerRequest_refuse {st : Status} (h : checkRequest (nodeRec s.line source).rights payload = .refuse st) :
    offerRequest source payload s = setSlot slot .replying { s with line.queue := s.line.queue ++
      [.reply slot source [payload.getD 0 0, payload.getD 1 0, BitVec.ofNat 8 (statusCode st)] false] } := by
  have byte : u8 (statusCode st) = [BitVec.ofNat 8 (statusCode st)] := by simp [u8, bytesOf]
  rw [offerRequest_free free first, checkIn, h]
  dsimp only
  rw [placeReply, replyPayload, byte]
  rfl

theorem offerRequest_pass {r : Req} (h : checkRequest (nodeRec s.line source).rights payload = .pass r) :
    offerRequest source payload s = stageRequest slot source payload r s := by
  rw [offerRequest_free free first, checkIn, h]

end

/-- R174: what a staged request leaves in the Request Stage, and what is handed. -/
theorem stageRequest_stage (slot : SlotIx) (source : Nat) (payload : List Byte) (r : Req) (s : State) :
    let t := stageRequest slot source payload r s
    slotOf t.responder slot = .checked ⟨source, payload.getD 0 0, payload.getD 1 0, payload.drop 2⟩ ∧
      slotOf t.responder (otherSlot slot) = slotOf s.responder (otherSlot slot) ∧
      t.responder.first = firstChecked slot s.responder ∧ t.handed = s.handed ++ [takeCommand r slot] := by
  dsimp only [stageRequest, hand]
  rw [slotOf_setSlot_same, slotOf_setSlot_other (otherSlot_ne slot), setSlot_first, setSlot_handed]
  exact ⟨rfl, rfl, rfl, rfl⟩

/-- A staged request changes the Request Stage and what has been handed alone. -/
theorem stageRequest_eq (slot : SlotIx) (source : Nat) (payload : List Byte) (r : Req) (s : State) :
    let t := stageRequest slot source payload r s
    t = { s with
      responder.slot0 := t.responder.slot0, responder.slot1 := t.responder.slot1
      responder.first := t.responder.first, handed := t.handed } := by
  match slot with
  | 0 | 1 => rfl

end

/-! ### The frame that carries it -/

section
variable {frame : List Byte} {s : State}

theorem noted_responder : (noted frame s).responder = s.responder := by
  rw [noted, setNode_responder]
  simp

theorem noted_queue : (noted frame s).line.queue = s.line.queue := by
  unfold noted lineActivity
  split <;> rfl

theorem noted_drops : (noted frame s).line.drops = s.line.drops := by
  unfold noted lineActivity
  split <;> rfl

/-- R5: the sequence test leaves the rights of a node. -/
theorem testedNode_rights (r : NodeRec) (seq : Nat) : (testedNode r seq).rights = r.rights := by
  unfold testedNode
  split
  · rfl
  · split <;> rfl

theorem noted_rights : (nodeRec (noted frame s).line (sourceOf frame)).rights =
    (nodeRec s.line (sourceOf frame)).rights := by
  rw [noted, nodeRec_setNode_same, testedNode_rights]

variable (h : FromOther frame s) (m : ManagesPart frame s)
include h m

theorem FromOther.arrive_managed : Machine.arrive frame s =
    if isDuplicate (nodeRec s.line (sourceOf frame)) (seqOf frame) then noted frame s
    else offerRequest (sourceOf frame) (payloadOf frame) (noted frame s) := by
  rw [h.arrive, dispatch, noted_own]
  exact if_pos m

/-- R6: a duplicate is consumed. -/
theorem FromOther.arrive_repeat (d : IsRepeat frame s) : Machine.arrive frame s = noted frame s := by
  rw [h.arrive_managed m, if_pos (isDuplicate_iff.2 d)]

/-- R21: any other is offered to the Request Stage. -/
theorem FromOther.arrive_request (d : ¬IsRepeat frame s) :
    Machine.arrive frame s = offerRequest (sourceOf frame) (payloadOf frame) (noted frame s) := by
  rw [h.arrive_managed m, if_neg (mt isDuplicate_iff.1 d)]

end

end Sys2Proof.Machine
end

section
/-! THEOREMS. The Request Stage. -/

namespace Sys2Proof.Machine

/-- Settles O11: the checks one by one, and the frame by whether it is a duplicate and by the slots it finds. -/
theorem requestsAreStagedRefusedOrBusy : Obligations.RequestsAreStagedRefusedOrBusy := by
  refine ⟨fun rights payload => ⟨checkRequest_short, ?_⟩, fun s frame h m => ?_⟩
  · rintro code handle args rfl
    exact ⟨checkRequest_unknown, fun r known => ⟨checkRequest_misfit known, checkRequest_noRight known,
      checkRequest_pass known⟩⟩
  · intro source payload code handle u
    refine ⟨fun d => ?_, fun d h0 h1 => ?_, fun d slot free first => ⟨fun st refused => ?_, fun r passed => ?_⟩⟩
    · rw [exec_frameArrival h.awake, h.arrive_repeat m d]
    · rw [← noted_responder (frame := frame)] at h0 h1
      rw [exec_frameArrival h.awake, h.arrive_request m d, offerRequest_held h0 h1, answerBusy_eq, noted_queue,
        noted_drops]
    · rw [← noted_responder (frame := frame)] at free first
      rw [← noted_rights] at refused
      rw [exec_frameArrival h.awake, h.arrive_request m d, offerRequest_refuse free first refused, noted_queue]
    · obtain ⟨staged, other, earlier, handed⟩ := stageRequest_stage slot source payload r u
      rw [← noted_responder (frame := frame)] at free first ⊢
      rw [← noted_rights] at passed
      rw [exec_frameArrival h.awake, h.arrive_request m d, offerRequest_pass free first passed]
      refine ⟨_, rfl, staged, other, ?_, handed, stageRequest_eq slot source payload r u⟩
      rw [earlier, firstChecked_other_iff]

end Sys2Proof.Machine
end

section
/-! SUPPORT. The zones under RESTART (R99, R113, R117): the two handings of caps and that of the allowance meet records
that hold no value, so that nothing is shed. -/

namespace Sys2Proof.Machine

/-! ### A zone that holds no value -/

section
variable (d : ZoneDef) (st : RecordState) (cap : Nat)

theorem capHandedZone_cleared (sh : Sheet) (c : Caps) : capHandedZone sh c (clearedZone d st cap) =
    clearedZone d st (if d.sheet = some sh then capOf c d.ring else cap) := by
  rcases Classical.em (d.sheet = some sh) with on | off
  · rw [if_pos on]
    rcases Classical.em (st = .enabled) with enabled | idle
    · rw [capHandedZone_enabled c (z := clearedZone d st cap) on enabled]
      simp [clearedZone]
    · rw [capHandedZone_idle c (z := clearedZone d st cap) on idle]
      rfl
  · rw [if_neg off, capHandedZone_other c (z := clearedZone d st cap) off]

theorem shedValveZone_cleared : shedValveZone (clearedZone d st cap) = clearedZone d st cap := by
  rw [shedValveZone_eq]
  simp [clearedZone]

theorem shedBoostZone_cleared : shedBoostZone (clearedZone d st cap) = clearedZone d st cap := by
  rw [shedBoostZone_eq]
  simp [clearedZone]

theorem stagesFor_cleared (left : Nat) : stagesFor left (clearedZone d st cap) = 0 := by
  have permitted : permittedStages (clearedZone d st cap) = 0 := by simp [permittedStages, clearedZone]
  simp [stagesFor, stagesWithin, permitted]

end

/-! ### The Zone Controller after its reset -/

/-- R117: every zone record has kept its definition and its state from s, reads its fog cap from the sheet cap sets
(R106), and holds no other value. -/
def ZonesCleared (s : State) (u : ZoneController) : Prop :=
  ∀ i : ZoneIx, u.zones[i] =
    clearedZone s.zones.zones[i].defn s.zones.zones[i].state (fogCapOf u s.zones.zones[i].defn)

theorem restartedZones_cleared (s : State) : ZonesCleared s (restartedZones s.zones) := by
  intro i
  have full : fogCapOf (restartedZones s.zones) s.zones.zones[i].defn = 1000 := by
    rw [fogCapOf_eq]
    split
    · rfl
    · next sh _ => cases sh <;> cases s.zones.zones[i].defn.ring <;> rfl
  rw [full]
  exact get_mapTable ..

section
variable {s u : State} (cleared : ZonesCleared s u.zones)
include cleared

theorem ZonesCleared.no_sheds (t : State) (i : ZoneIx) : valveShed u t i = [] ∧ boostShed u t i = [] := by
  constructor
  · simp [valveShed, cleared i, clearedZone]
  · unfold boostShed
    dsimp only
    split
    · simp [cleared i, clearedZone]
    · rfl

/-! ### A handing of caps -/

theorem ZonesCleared.applyCaps_queue (sh : Sheet) (c : Caps) :
    (applyCaps sh c u).line.queue = u.line.queue := by
  rcases Classical.em (capSet u.zones sh = c) with held | new
  · rw [applyCaps_held held]
  · have none (i : ZoneIx) (t : State) : valveShed u t i ++ boostShed u t i = [] :=
      List.append_eq_nil_iff.2 (cleared.no_sheds t i)
    rw [Machine.applyCaps_queue new, List.flatMap_eq_nil_iff.2 fun i _ => none i _, enqueueAll_nil]

end

section
variable (sh : Sheet) (c : Caps) (u : State)

theorem applyCaps_capSet_same : capSet (applyCaps sh c u).zones sh = c := by
  rcases Classical.em (capSet u.zones sh = c) with held | new
  · rw [applyCaps_held held, held]
  · rw [applyCaps_controller new]
    exact capSet_setCapSet_same ..

theorem applyCaps_capSet_other {other : Sheet} (apart : other ≠ sh) :
    capSet (applyCaps sh c u).zones other = capSet u.zones other := by
  rcases Classical.em (capSet u.zones sh = c) with held | new
  · rw [applyCaps_held held]
  · rw [applyCaps_controller new]
    exact capSet_setCapSet_other apart ..

theorem applyCaps_grant : (applyCaps sh c u).zones.grant = u.zones.grant := by
  rcases Classical.em (capSet u.zones sh = c) with held | new
  · rw [applyCaps_held held]
  · rw [applyCaps_controller new]
    exact (setCapSet_frame ..).1

/-- R106: the fog cap a zone reads after a handing. -/
theorem applyCaps_fogCapOf (d : ZoneDef) : fogCapOf (applyCaps sh c u).zones d =
    if d.sheet = some sh then capOf c d.ring else fogCapOf u.zones d := by
  rw [fogCapOf_eq, fogCapOf_eq]
  cases hd : d.sheet with
  | none => rfl
  | some x =>
    rcases eq_or_ne x sh with rfl | apart
    · rw [if_pos rfl]
      exact congrArg (capOf · d.ring) (applyCaps_capSet_same x c u)
    · rw [if_neg (by simpa using apart)]
      exact congrArg (capOf · d.ring) (applyCaps_capSet_other sh c u apart)

end

theorem ZonesCleared.applyCaps {s u : State} (cleared : ZonesCleared s u.zones) (sh : Sheet) (c : Caps) :
    ZonesCleared s (applyCaps sh c u).zones := by
  intro i
  rcases Classical.em (capSet u.zones sh = c) with held | new
  · rw [applyCaps_held held]
    exact cleared i
  · have defn : u.zones.zones[i].defn = s.zones.zones[i].defn := by
      rw [cleared i]
      rfl
    rw [applyCaps_fogCapOf]
    rcases Classical.em (s.zones.zones[i].defn.sheet = some sh) with on | off
    · rw [applyCaps_zone new (by rwa [defn]), cleared i, capHandedZone_cleared, shedValveZone_cleared,
        shedBoostZone_cleared]
    · rw [applyCaps_zone_other new (by rwa [defn]), cleared i, if_neg off]

/-! ### The distribution -/

section
variable {s u : State} (cleared : ZonesCleared s u.zones) (a : Nat)
include cleared

theorem ZonesCleared.distributeBoost_zone (i : ZoneIx) : (distributeBoost a u).zones.zones[i] = u.zones.zones[i] := by
  rw [Machine.distributeBoost_zone, boostGiven_eq, cleared i, stagesFor_cleared]
  exact shedBoostZone_cleared ..

theorem ZonesCleared.distributeBoost_left : (distributeBoost a u).zones.left = a := by
  have together := Machine.distributeBoost_left a u
  simpa [cleared.distributeBoost_zone, stagePowerOf, cleared _, clearedZone] using together

/-- R113, R117: a distribution over zones that request nothing takes the allowance, and leaves all of it. -/
theorem ZonesCleared.distributeBoost_eq : distributeBoost a u = { u with
    zones.taken := a, zones.left := a } := by
  have zones : (distributeBoost a u).zones.zones = u.zones.zones :=
    Vector.ext fun i hi => cleared.distributeBoost_zone a ⟨i, hi⟩
  have queue : (List.finRange 24).flatMap (boostShed u (distributeBoost a u)) = [] :=
    List.flatMap_eq_nil_iff.2 fun i _ => (cleared.no_sheds _ i).2
  rw [Machine.distributeBoost_eq, zones, cleared.distributeBoost_left, queue, enqueueAll_nil]

end

/-! ### The handings of RESTART -/

section
variable (s : State)

theorem restartChecked_cleared : ZonesCleared s (checkTransfers (restartedBlocks s)).zones := by
  have zones : (checkTransfers (restartedBlocks s)).zones = restartedZones s.zones := by simp [restartedBlocks]
  rw [zones]
  exact restartedZones_cleared s

theorem restartCapped_cleared : ZonesCleared s (restartCapped s).zones :=
  ((restartChecked_cleared s).applyCaps _ _).applyCaps _ _

/-- No handing of RESTART queues a command. -/
theorem restartCapped_queue : (restartCapped s).line.queue = [] := by
  have checked := restartChecked_cleared s
  calc (restartCapped s).line.queue
    _ = (restartCaps .one (checkTransfers (restartedBlocks s))).line.queue :=
      (checked.applyCaps _ _).applyCaps_queue _ _
    _ = (checkTransfers (restartedBlocks s)).line.queue := checked.applyCaps_queue _ _
    _ = [] := by simp [restartedBlocks, restartedLine]

/-- R99, R117: the Zone Controller holds the caps of each sheet for its fog state. -/
theorem restartCapped_capSet (sh : Sheet) : capSet (restartCapped s).zones sh =
    capsOf s.fog.caps (fogOf (restartEffect s) sh) := by
  have handed (x : Sheet) (u : State) (fog : u.fog = restartedFog s.mode s.fog) :
      capsInForce u x = capsOf s.fog.caps (fogOf (restartEffect s) x) := by
    rw [capsInForce, fog, fogOf_congr (s := restartEffect s) (by rw [fog, restartEffect_fog])]
    rfl
  cases sh with
  | one =>
    rw [restartCapped, restartCaps, applyCaps_capSet_other _ _ _ (by decide), restartCaps, applyCaps_capSet_same,
      handed .one _ (by simp [restartedBlocks])]
  | two =>
    rw [restartCapped, restartCaps, applyCaps_capSet_same, handed .two _ (by simp [restartedBlocks])]

theorem restartCapped_grant : (restartCapped s).zones.grant = none := by
  rw [restartCapped, restartCaps, applyCaps_grant, restartCaps, applyCaps_grant]
  simp [restartedZones, restartedBlocks]

end

end Sys2Proof.Machine
end

section
/-! SUPPORT. The groups under RESTART (R99, R155, R159): the haze cuts of the sheets it leaves in WATCH, the commands
they queue and the loads they report. -/

namespace Sys2Proof.Machine

/-! ### Which sheets are cut -/

/-- R99: the sheet is ENABLED and uncovered, so that RESTART leaves it in WATCH and cuts its haze. -/
def restartWatches (s : State) (sh : Sheet) : Bool := (sheetRec s.fog sh).state = .enabled && !covered s sh

theorem restartedSheet_state (cover : Bool) (r : SheetRec) : (restartedSheet cover r).state = r.state := by
  unfold restartedSheet
  dsimp only
  split <;> rfl

theorem restartedSheet_watch_iff {cover : Bool} {r : SheetRec} :
    (restartedSheet cover r).fog = .watch ↔ r.state = .enabled ∧ cover = false := by
  unfold restartedSheet
  dsimp only
  split
  · next enabled => cases cover <;> simp [enabled]
  · next idle => exact iff_of_false nofun fun h => idle h.1

theorem restartEffect_sheet (s : State) (sh : Sheet) :
    sheetRec (restartEffect s).fog sh = restartedSheet (covered s sh) (sheetRec s.fog sh) := by
  rw [restartEffect_fog, sheetRec_restartedFog]

theorem restartWatches_iff {s : State} {sh : Sheet} :
    restartWatches s sh = true ↔ fogOf (restartEffect s) sh = .watch := by
  rw [fogOf, restartEffect_sheet, restartedSheet_watch_iff, restartWatches, Bool.and_eq_true, decide_eq_true_iff,
    Bool.not_eq_true']

/-- R99: RESTART cuts the haze of a sheet that it leaves in WATCH. -/
theorem restartCut_eq {s u : State} (fog : u.fog = restartedFog s.mode s.fog) (mode : u.mode = s.mode) (sh : Sheet) :
    restartCut sh u = if restartWatches s sh then cutHaze sh u else u := by
  have cut : ((sheetRec u.fog sh).state = .enabled ∧ !covered u sh) ↔ restartWatches s sh = true := by
    rw [fog, sheetRec_restartedFog, restartedSheet_state, covered_congr mode, restartWatches, Bool.and_eq_true,
      decide_eq_true_iff]
  simp only [restartCut, cut]

/-! ### One group -/

/-- The group is a haze source of one of the sheets whose haze is cut. -/
def underCut (cut : Sheet → Bool) (d : GroupDef) : Bool := d.hazeSource && d.sheet.any cut

theorem underCut_or {cut : Sheet → Bool} {d : GroupDef} {sh : Sheet} :
    underCut (fun x => decide (x = sh) || cut x) d = true ↔
      d.hazeSource = true ∧ d.sheet = some sh ∨ underCut cut d = true := by
  cases hd : d.sheet with
  | none => simp [underCut, hd]
  | some x => simp [underCut, hd, and_or_left]

/-- R155, R159: a group record as RESTART leaves it when it cuts the haze of these sheets. -/
def restartedUnder (cut : Sheet → Bool) (g : Group) : Group :=
  if g.state = .enabled ∧ underCut cut g.defn = true then
    ⟨g.defn, .enabled, 0, none, none, true, some 0⟩
  else restartedGroup g

section
variable {cut : Sheet → Bool} {g : Group} {sh : Sheet}

theorem restartedUnder_none (g : Group) : restartedUnder (fun _ => false) g = restartedGroup g := by
  cases h : g.defn.sheet <;> simp [restartedUnder, underCut, h]

theorem restartedUnder_defn (cut : Sheet → Bool) (g : Group) :
    (restartedUnder cut g).defn = g.defn ∧ (restartedUnder cut g).state = g.state := by
  unfold restartedUnder
  split
  · next h => exact ⟨rfl, h.1.symm⟩
  · exact ⟨rfl, rfl⟩

theorem hazeGroup_restartedUnder : HazeGroup sh (restartedUnder cut g) ↔ HazeGroup sh g := by
  obtain ⟨defn, state⟩ := restartedUnder_defn cut g
  rw [HazeGroup, HazeGroup, defn, state]

theorem cutCommands_restartedUnder : cutCommands sh (restartedUnder cut g) = cutCommands sh g := by
  obtain ⟨defn, state⟩ := restartedUnder_defn cut g
  rw [cutCommands, cutCommands, defn, state]

/-- R155: a further sheet cut. -/
theorem cutRecord_restartedUnder (cut : Sheet → Bool) (g : Group) (sh : Sheet) :
    cutRecord sh (restartedUnder cut g) = restartedUnder (fun x => decide (x = sh) || cut x) g := by
  rcases Classical.em (HazeGroup sh g) with haze | other
  · obtain ⟨defn, state⟩ := restartedUnder_defn cut g
    have enabled : g.state = .enabled := haze.1
    rw [cutRecord_haze (hazeGroup_restartedUnder.2 haze), darkGroup, defn, state, enabled]
    exact (if_pos ⟨enabled, underCut_or.2 (.inl haze.2)⟩).symm
  · have same : (g.state = .enabled ∧ underCut (fun x => decide (x = sh) || cut x) g.defn = true) ↔
        (g.state = .enabled ∧ underCut cut g.defn = true) :=
      and_congr_right fun enabled => underCut_or.trans (or_iff_right fun here => other ⟨enabled, here⟩)
    rw [cutRecord_other (mt hazeGroup_restartedUnder.1 other)]
    simp only [restartedUnder, same]

/-- R158: what a group adds to the load after the cuts. -/
theorem groupLoad_restartedUnder (cut : Sheet → Bool) (g : Group) : groupLoad (restartedUnder cut g) =
    if g.state = .enabled ∧ underCut cut g.defn = false then g.defn.rated * g.level / 1000
    else 0 := by
  unfold restartedUnder
  split
  · next dark => simp [groupLoad, dark.2]
  · next lit =>
    have same : (g.state = .enabled ∧ underCut cut g.defn = false) ↔ g.state = .enabled :=
      and_iff_left_of_imp fun enabled => Bool.eq_false_iff.2 fun h => lit ⟨enabled, h⟩
    simp only [same]
    rfl

end

/-! ### The cuts one after the other -/

/-- R155, R159: the groups stand as RESTART leaves those of s when it cuts the haze of these sheets. -/
def GroupsUnder (cut : Sheet → Bool) (s u : State) : Prop :=
  ∀ i : GroupIx, u.scene.groups[i] = restartedUnder cut s.scene.groups[i]

/-- R158: the lighting load once the haze of these sheets is cut. -/
def loadUnder (cut : Sheet → Bool) (s : State) : Nat :=
  ((List.finRange 32).map fun i : GroupIx =>
    let g := s.scene.groups[i]
    if g.state = .enabled ∧ underCut cut g.defn = false then g.defn.rated * g.level / 1000
    else 0).sum

section
variable {cut : Sheet → Bool} {s u : State} (groups : GroupsUnder cut s u)
include groups

theorem GroupsUnder.load : lightingLoad u = loadUnder cut s := by
  rw [lightingLoad, toList_map_eq_ofFn, List.ofFn_eq_map]
  simp only [groups _, groupLoad_restartedUnder, loadUnder]

theorem GroupsUnder.cutHaze (sh : Sheet) : GroupsUnder (fun x => decide (x = sh) || cut x) s (cutHaze sh u) := fun i => by
  rw [cutHaze_group, groups i, cutRecord_restartedUnder]

theorem GroupsUnder.cutHaze_queue (sh : Sheet) : (Machine.cutHaze sh u).line.queue =
    enqueueAll ((List.finRange 32).flatMap fun i : GroupIx => cutCommands sh s.scene.groups[i]) u.line.queue := by
  rw [Machine.cutHaze_queue]
  simp only [groups _, cutCommands_restartedUnder]

end

/-! ### RESTART's cuts -/

/-- The sheets cut so far, and this one if it is in WATCH. -/
def withCut (s : State) (sh : Sheet) (cut : Sheet → Bool) : Sheet → Bool :=
  fun x => decide (x = sh) && restartWatches s x || cut x

section
variable {cut : Sheet → Bool} {s u : State} (fog : u.fog = restartedFog s.mode s.fog) (mode : u.mode = s.mode)
  (groups : GroupsUnder cut s u) (sh : Sheet)

theorem withCut_of_watch (watch : restartWatches s sh = true) :
    withCut s sh cut = fun x => decide (x = sh) || cut x := by
  funext x
  rcases eq_or_ne x sh with rfl | apart
  · simp [withCut, watch]
  · simp [withCut, apart]

theorem withCut_of_not (still : restartWatches s sh = false) : withCut s sh cut = cut := by
  funext x
  rcases eq_or_ne x sh with rfl | apart
  · simp [withCut, still]
  · simp [withCut, apart]

include fog mode groups

/-- What RESTART's cut of a sheet leaves of the groups, of the Command Queue, of the load and of what is handed. -/
theorem GroupsUnder.restartCut :
    GroupsUnder (withCut s sh cut) s (restartCut sh u) ∧
    (restartCut sh u).line.queue = enqueueAll (if restartWatches s sh then
      (List.finRange 32).flatMap fun i : GroupIx => cutCommands sh s.scene.groups[i] else []) u.line.queue ∧
    (restartCut sh u).scene.loadReported =
      (if restartWatches s sh then loadUnder (withCut s sh cut) s else u.scene.loadReported) ∧
    (restartCut sh u).handed = u.handed ++
      if restartWatches s sh then [.lightingLoadUpdate (loadUnder (withCut s sh cut) s)] else [] := by
  rw [restartCut_eq fog mode]
  cases watch : restartWatches s sh with
  | false =>
    rw [withCut_of_not sh watch]
    exact ⟨groups, rfl, rfl, (List.append_nil _).symm⟩
  | true =>
    have cutGroups := groups.cutHaze sh
    have load : (Machine.cutHaze sh u).scene.loadReported = loadUnder (withCut s sh cut) s := by
      rw [cutHaze_load, cutGroups.load, withCut_of_watch sh watch]
    rw [withCut_of_watch sh watch] at load ⊢
    refine ⟨cutGroups, groups.cutHaze_queue sh, load, ?_⟩
    rw [← load]
    exact congrArg State.handed (cutHaze_eq sh u)

end

/-! ### The cut of both sheets -/

section
variable (s : State)

theorem restartCapped_scene : (restartCapped s).scene = (checkTransfers (restartedBlocks s)).scene := by
  simp [restartCapped]

theorem restartCapped_groups : GroupsUnder (fun _ => false) s (restartCapped s) := fun i => by
  have capped : (restartCapped s).scene.groups = s.scene.groups.map restartedGroup :=
    (congrArg SceneUnit.groups (restartCapped_scene s)).trans (checkTransfers_buffersKept _).groups
  rw [capped, restartedUnder_none]
  exact get_map ..

/-- R155: from u to v the groups and the load of the Scene Unit have changed alone. -/
def LightsOnly (u v : SceneUnit) : Prop := v = { u with groups := v.groups, loadReported := v.loadReported }

theorem LightsOnly.trans {u v w : SceneUnit} (h : LightsOnly u v) (k : LightsOnly v w) : LightsOnly u w := by
  have moved := congrArg (fun x : SceneUnit => { x with groups := w.groups, loadReported := w.loadReported }) h
  exact Eq.trans k moved

theorem restartCut_lights (sh : Sheet) (u : State) : LightsOnly u.scene (restartCut sh u).scene := by
  rcases Classical.em ((sheetRec u.fog sh).state = .enabled ∧ !covered u sh) with cut | still
  · have scene := congrArg State.scene (cutHaze_eq sh u)
    have same : restartCut sh u = cutHaze sh u := if_pos cut
    rw [same]
    exact scene
  · have same : restartCut sh u = u := if_neg still
    rw [same]
    rfl

/-- The state RESTART's haze cuts leave. -/
def restartDarkened : State := restartCut .two (restartCut .one (restartCapped s))

theorem restartEffect_eq : restartEffect s = recomputeElectricSilently (restartDarkened s) := rfl

theorem withCut_first (watch : restartWatches s .one = true) :
    withCut s .one (fun _ => false) = fun sh => decide (sh = .one) := by
  simp [withCut_of_watch .one watch]

theorem withCut_both : withCut s .two (withCut s .one fun _ => false) = restartWatches s := by
  funext sh
  cases sh <;> simp [withCut]

/-- The loads the cuts report: that of sheet 1 with its own haze cut, that of sheet 2 with the haze of both. -/
def restartLoads : List Nat :=
  (if restartWatches s .one then [loadUnder (fun sh => sh = .one) s] else []) ++
    if restartWatches s .two then [loadUnder (restartWatches s) s] else []

/-- R99, R155: what both cuts leave of the groups, of the Command Queue, of the load and of what is handed. -/
theorem restartDarkened_leaves : GroupsUnder (restartWatches s) s (restartDarkened s) ∧
    (restartDarkened s).line.queue = enqueueAll ([Sheet.one, .two].flatMap fun sh => if restartWatches s sh then
      (List.finRange 32).flatMap fun i : GroupIx => cutCommands sh s.scene.groups[i] else []) [] ∧
    (restartDarkened s).scene.loadReported = (restartLoads s).getLastD s.scene.loadReported ∧
    (restartDarkened s).handed = s.handed.filter isLoadUpdate ++ (restartLoads s).map .lightingLoadUpdate := by
  obtain ⟨groups1, queue1, load1, handed1⟩ :=
    (restartCapped_groups s).restartCut (restartCapped_fog s) (restartCapped_mode s) .one
  obtain ⟨groups2, queue2, load2, handed2⟩ := groups1.restartCut ((restartCut_fog .one _).trans (restartCapped_fog s))
    ((restartCut_mode .one _).trans (restartCapped_mode s)) .two
  have load0 : (restartCapped s).scene.loadReported = s.scene.loadReported := by
    rw [restartCapped_scene, checkTransfers_eq]
    rfl
  have handed0 : (restartCapped s).handed = s.handed.filter isLoadUpdate := by simp [restartCapped, restartedBlocks]
  rw [withCut_both] at groups2 load2 handed2
  refine ⟨groups2, ?_, ?_, ?_⟩
  · rw [restartDarkened, queue2, queue1, restartCapped_queue, ← enqueueAll_append]
    simp
  · rw [restartDarkened, load2, load1, load0, restartLoads]
    cases one : restartWatches s .one <;> cases two : restartWatches s .two <;> simp [withCut_first, one]
  · rw [restartDarkened, handed2, handed1, handed0, restartLoads]
    cases one : restartWatches s .one <;> cases two : restartWatches s .two <;> simp [withCut_first, one]

end

end Sys2Proof.Machine
end

section
/-! SUPPORT. The buffers and the transfer engine under RESTART (R130, R131, R140). -/

namespace Sys2Proof.Machine

/-! ### A check that finds the engine IDLE -/

section
variable {s : State} (idle : s.scene.engine = none)
include idle

theorem checkTransfers_found : (checkTransfers s).scene.engine = (List.finRange 32).find? (eligible s.scene) := by
  unfold checkTransfers
  rw [idle]
  dsimp only
  split
  · next n found => exact found.symm
  · next none => exact idle.trans none.symm

/-- R131: the engine is then busy with the lowest eligible pair. -/
theorem checkTransfers_engine {n : PairIx} : (checkTransfers s).scene.engine = some n ↔
    eligible s.scene n = true ∧ ∀ m, m < n → ¬eligible s.scene m = true := by
  rw [checkTransfers_found idle, List.find?_eq_some_iff_getElem]
  refine and_congr_right fun _ => ⟨?_, fun lowest => ⟨n.val, by simp, by simp, fun j hj => ?_⟩⟩
  · rintro ⟨k, hk, rfl, before⟩ m hm
    have below : m.val < k := by simpa [Fin.lt_def] using hm
    simpa using before m.val below
  · simpa using lowest ⟨j, by omega⟩ hj

/-- R131: a check brings the two sides of the pair it starts to TRANSFER, and leaves every other buffer. -/
theorem checkTransfers_buffer (i : BufferIx) : (checkTransfers s).scene.buffers[i] = { s.scene.buffers[i] with
    state := if ∃ n, (checkTransfers s).scene.engine = some n ∧ (i = commitSide n ∨ i = outputSide n) then .transfer
      else s.scene.buffers[i].state } := by
  obtain same | ⟨n, -, -, started⟩ := checkTransfers_cases s
  · rw [same, if_neg (by simp [idle])]
  · rw [started]
    have engine : (startTransfer n s).scene.engine = some n := rfl
    rcases Classical.em (i = commitSide n ∨ i = outputSide n) with side | other
    · rw [if_pos ⟨n, engine, side⟩, startTransfer_side side]
    · have apart : ¬∃ m, (startTransfer n s).scene.engine = some m ∧ (i = commitSide m ∨ i = outputSide m) := by
        rintro ⟨m, started, side⟩
        cases engine.symm.trans started
        exact other side
      rw [if_neg apart, startTransfer_other (fun h => other (.inl h)) fun h => other (.inr h)]

end

/-! ### RESTART -/

section
variable (s : State)

theorem restartedBlocks_buffer (i : BufferIx) :
    (restartedBlocks s).scene.buffers[i] = restartedBuffer s.scene.buffers[i] := get_map ..

theorem restartedBuffer_idle_iff {b : Buffer} :
    (restartedBuffer b).state = .idle ↔ b.state ≠ .disabled ∧ b.state ≠ .disabledLocked := by
  rw [restartedBuffer_state, ← not_or, ← bufferEnabled_iff]
  split
  · next on => exact iff_of_true rfl on
  · next off => exact iff_of_false nofun off

/-- R130, R140: what makes a pair eligible once RESTART has reset its sides. -/
def ReadyAtRestart (n : PairIx) : Prop :=
  let c := s.scene.buffers[commitSide n]
  let o := s.scene.buffers[outputSide n]
  c.type = .paired ∧ c.committed = true ∧ c.state ≠ .disabled ∧ c.state ≠ .disabledLocked ∧
    o.state ≠ .disabled ∧ o.state ≠ .disabledLocked ∧ (c.commitMode = .streaming → o.committed = false)

theorem restarted_eligible_iff {n : PairIx} : eligible (restartedBlocks s).scene n = true ↔ ReadyAtRestart s n := by
  rw [eligible_iff, restartedBlocks_buffer, restartedBlocks_buffer, restartedBuffer_idle_iff, restartedBuffer_idle_iff]
  have unplayed (b : Buffer) : (restartedBuffer b).played = false := rfl
  simp only [unplayed, Bool.false_eq_true, or_false]
  dsimp only [restartedBuffer, ReadyAtRestart]
  tauto

/-- R140: what RESTART leaves of the Scene Unit besides the groups and the load. -/
theorem restartEffect_scene : (restartEffect s).scene = { restartedScene s.scene with
    engine := (checkTransfers (restartedBlocks s)).scene.engine
    buffers := (checkTransfers (restartedBlocks s)).scene.buffers
    groups := (restartEffect s).scene.groups
    loadReported := (restartEffect s).scene.loadReported } := by
  have checked : (restartCapped s).scene = { restartedScene s.scene with
      engine := (checkTransfers (restartedBlocks s)).scene.engine
      buffers := (checkTransfers (restartedBlocks s)).scene.buffers } :=
    (restartCapped_scene s).trans (congrArg State.scene (checkTransfers_eq (restartedBlocks s)))
  have one := restartCut_lights .one (restartCapped s)
  have both := one.trans (restartCut_lights .two (restartCut .one (restartCapped s)))
  have darkened : (restartEffect s).scene = (restartDarkened s).scene := by simp [restartEffect_eq]
  rw [checked, ← restartDarkened, ← darkened] at both
  exact both

theorem restartEffect_sceneFields :
    (restartEffect s).scene.engine = (checkTransfers (restartedBlocks s)).scene.engine ∧
    (restartEffect s).scene.buffers = (checkTransfers (restartedBlocks s)).scene.buffers ∧
    (restartEffect s).scene.store = s.scene.store ∧ (restartEffect s).scene.view = [] ∧
    (restartEffect s).scene.search = none ∧ (restartEffect s).scene.stepCounter = 0 ∧
    (restartEffect s).scene.stepPeriod = s.scene.stepPeriod ∧
    (restartEffect s).scene.stepTimer = some s.scene.stepPeriod ∧
    (restartEffect s).scene.results = Vector.replicate 32 .none := by
  have scene := restartEffect_scene s
  generalize (restartEffect s).scene = u at scene ⊢
  rw [scene]
  exact ⟨rfl, rfl, rfl, rfl, rfl, rfl, rfl, rfl, rfl⟩

/-- R131, R140: the engine is busy with the lowest pair that is ready, if any. -/
theorem restartEffect_engine {n : PairIx} : (restartEffect s).scene.engine = some n ↔
    ReadyAtRestart s n ∧ ∀ m, m < n → ¬ReadyAtRestart s m := by
  obtain ⟨engine, -⟩ := restartEffect_sceneFields s
  have idle : (restartedBlocks s).scene.engine = none := rfl
  simp only [engine, checkTransfers_engine idle, restarted_eligible_iff]

theorem restartEffect_buffer (i : BufferIx) : (restartEffect s).scene.buffers[i] = { restartedBuffer s.scene.buffers[i] with
    state := if ∃ n, (restartEffect s).scene.engine = some n ∧ (i = commitSide n ∨ i = outputSide n) then .transfer
      else (restartedBuffer s.scene.buffers[i]).state } := by
  obtain ⟨engine, buffers, -⟩ := restartEffect_sceneFields s
  rw [engine, buffers, checkTransfers_buffer rfl, restartedBlocks_buffer]

/-- R140: RESTART clears the record of the last play of a buffer and leaves what it holds. -/
theorem restartEffect_bufferRest (i : BufferIx) : (restartEffect s).scene.buffers[i] = { s.scene.buffers[i] with
    state := (restartEffect s).scene.buffers[i].state, played := false, lastPlayed := none } := by
  have buffer := restartEffect_buffer s i
  generalize (restartEffect s).scene.engine = engine at buffer
  generalize (restartEffect s).scene.buffers[i] = b at buffer ⊢
  rw [buffer]
  rfl

/-- R140: a buffer stands DISABLED, or in TRANSFER on a side of the pair that is started, or IDLE. -/
theorem restartEffect_bufferState (i : BufferIx) : (restartEffect s).scene.buffers[i].state =
    if s.scene.buffers[i].state = .disabled ∨ s.scene.buffers[i].state = .disabledLocked then .disabled
    else if ∃ n, (restartEffect s).scene.engine = some n ∧ (i = commitSide n ∨ i = outputSide n) then .transfer
    else .idle := by
  rw [restartEffect_buffer]
  dsimp only
  rw [restartedBuffer_state]
  by_cases off : s.scene.buffers[i].state = .disabled ∨ s.scene.buffers[i].state = .disabledLocked
  · have apart : ¬∃ n, (restartEffect s).scene.engine = some n ∧ (i = commitSide n ∨ i = outputSide n) := by
      rintro ⟨n, started, side⟩
      obtain ⟨⟨-, -, c1, c2, o1, o2, -⟩, -⟩ := (restartEffect_engine s).1 started
      rcases side with rfl | rfl
      · exact off.elim c1 c2
      · exact off.elim o1 o2
    rw [if_neg apart, if_pos off, if_neg fun on => bufferEnabled_iff.1 on off]
  · rw [if_neg off, if_pos (bufferEnabled_iff.2 off)]

end

end Sys2Proof.Machine
end

section
/-! SUPPORT. RESTART as a whole (R23, R77, R99, R117, R183): the electric recomputation that ends it, and what it leaves
of each block. -/

namespace Sys2Proof.Machine

/-! ### The electric recomputation (R75 to R77) -/

section
variable (s : State)

/-- R77: no consumer holds a grant, so that no fan runs. -/
theorem restartedBudget_fans (period : Nat) (u : BudgetUnit) : fanPowerNow (restartedBudget period u) = 0 := by
  have still (c : Consumer) : fanOf (clearedConsumer c.defn c.state) = 0 := by simp [fanOf, clearedConsumer]
  rw [fanPowerNow, toList_map_eq_ofFn]
  refine List.sum_eq_zero fun x hx => ?_
  obtain ⟨i, rfl⟩ := List.mem_ofFn.1 hx
  dsimp only [restartedBudget]
  rw [get_map, still]

theorem restartEffect_figures : (restartEffect s).budget =
    electricFigures (profileInForce s).eMax (restartedBudget (profileInForce s).period s.budget) := by
  have budget : (restartDarkened s).budget = restartedBudget (profileInForce s).period s.budget := by
    simp [restartDarkened, restartCapped, restartedBlocks]
  have mode : (restartDarkened s).mode = s.mode := by simp [restartDarkened, restartCapped_mode]
  rw [restartEffect_eq, recomputeElectricSilently_budget, budget, profileInForce, mode, ← profileInForce]

/-- R77: the Budget Unit after RESTART, but for its consumer records. -/
theorem restartEffect_budget : (restartEffect s).budget = { s.budget with
    rawHeat := 0, smoothed := 0, reserveUsed := 0, usable := 0, inputLost := false, degraded := false
    consumers := (restartEffect s).budget.consumers
    allocation := none, pendingFlag := false
    periodTimer := some ((profileInForce s).period * 1000), fanPower := 0
    allowance := (profileInForce s).eMax - s.budget.load
    overDemand := decide ((profileInForce s).eMax < s.budget.load) } := by
  have figures := restartEffect_figures s
  rw [electricFigures, restartedBudget_fans] at figures
  generalize (restartEffect s).budget = b at figures ⊢
  rw [figures]
  rfl

theorem restartEffect_consumer (i : ConsumerIx) : (restartEffect s).budget.consumers[i] =
    clearedConsumer s.budget.consumers[i].defn s.budget.consumers[i].state := by
  rw [restartEffect_figures]
  exact get_map ..

end

section
variable {s u : State} (cleared : ZonesCleared s u.zones)
include cleared

/-- R77, R113: over zones that request nothing, the recomputation works out the Budget Unit's figures, and its allowance
is taken and left over. -/
theorem ZonesCleared.recomputeElectricSilently_eq : recomputeElectricSilently u =
    let b := electricFigures (profileInForce u).eMax u.budget
    { u with budget := b, zones.taken := b.allowance, zones.left := b.allowance } := by
  have figured : ZonesCleared s
      { u with budget := electricFigures (profileInForce u).eMax u.budget }.zones := cleared
  exact figured.distributeBoost_eq _

theorem ZonesCleared.recomputeElectricSilently_line : (recomputeElectricSilently u).line = u.line := by
  rw [cleared.recomputeElectricSilently_eq]

theorem ZonesCleared.recomputeElectricSilently_zones : (recomputeElectricSilently u).zones = { u.zones with
    taken := (recomputeElectricSilently u).budget.allowance
    left := (recomputeElectricSilently u).budget.allowance } := by
  rw [recomputeElectricSilently_budget, cleared.recomputeElectricSilently_eq]

end

theorem restartDarkened_zones (s : State) : (restartDarkened s).zones = (restartCapped s).zones := by
  simp [restartDarkened]

theorem restartDarkened_cleared (s : State) : ZonesCleared s (restartDarkened s).zones := by
  rw [restartDarkened_zones]
  exact restartCapped_cleared s

/-! ### The zones (R117) -/

section
variable (s : State)

theorem restartEffect_zones : (restartEffect s).zones = { (restartCapped s).zones with
    taken := (restartEffect s).budget.allowance, left := (restartEffect s).budget.allowance } := by
  rw [restartEffect_eq, (restartDarkened_cleared s).recomputeElectricSilently_zones, restartDarkened_zones]

theorem restartEffect_capSet (sh : Sheet) : capSet (restartEffect s).zones sh =
    capsOf s.fog.caps (fogOf (restartEffect s) sh) := by
  have kept (u : ZoneController) (a : Nat) : capSet { u with taken := a, left := a } sh = capSet u sh := by
    cases sh <;> rfl
  rw [← restartCapped_capSet, restartEffect_zones]
  exact kept ..

/-- R113, R117: no spectator grant is in force, and the whole allowance is left. -/
theorem restartEffect_shares : (restartEffect s).zones.grant = none ∧
    (restartEffect s).zones.taken = (restartEffect s).budget.allowance ∧
    (restartEffect s).zones.left = (restartEffect s).budget.allowance := by
  simp only [restartEffect_zones, restartCapped_grant, and_self]

theorem restartEffect_zone (i : ZoneIx) : (restartEffect s).zones.zones[i] =
    clearedZone s.zones.zones[i].defn s.zones.zones[i].state (match s.zones.zones[i].defn.sheet with
      | none => 1000
      | some sh => capOf (capsOf s.fog.caps (fogOf (restartEffect s) sh)) s.zones.zones[i].defn.ring) := by
  have zones : (restartEffect s).zones.zones = (restartCapped s).zones.zones := by rw [restartEffect_zones]
  rw [zones, restartCapped_cleared s i, fogCapOf_eq]
  cases s.zones.zones[i].defn.sheet with
  | none => rfl
  | some sh => exact congrArg (fun c => clearedZone _ _ (capOf c _)) (restartCapped_capSet s sh)

end

/-! ### The sheets (R99) -/

theorem restartEffect_sheetRec (s : State) (sh : Sheet) : sheetRec (restartEffect s).fog sh =
    let r := sheetRec s.fog sh
    ⟨r.defn, r.state, if r.state = .enabled ∧ covered s sh = false then .watch else .clear, 0, 0, 0, 0, false, false,
      false, false, false, false, if r.state = .enabled then some (r.defn.fogPeriod * 1000) else none, none⟩ := by
  rw [restartEffect_sheet, restartedSheet]
  dsimp only
  split
  · next enabled => cases hc : covered s sh <;> simp [clearedSheet, enabled]
  · next idle => simp [clearedSheet, idle]

/-! ### The groups, the line and what is handed -/

section
variable (s : State)

theorem restartEffect_darkened : (restartEffect s).scene = (restartDarkened s).scene := by simp [restartEffect_eq]

theorem restartEffect_group (i : GroupIx) :
    (restartEffect s).scene.groups[i] = restartedUnder (restartWatches s) s.scene.groups[i] := by
  rw [restartEffect_darkened]
  exact (restartDarkened_leaves s).1 i

/-- R155: the commands of a cut are zeros for the dimmers of the groups it darkens. -/
theorem flatMap_cutCommands (sh : Sheet) (l : List GroupIx) :
    (l.flatMap fun i => cutCommands sh s.scene.groups[i]) =
      (l.filter fun i => s.scene.groups[i].state = .enabled && s.scene.groups[i].defn.hazeSource &&
        s.scene.groups[i].defn.sheet = some sh).map fun i => (s.scene.groups[i].defn.dimmer, 0) := by
  induction l with
  | nil => rfl
  | cons i l ih =>
    rw [List.flatMap_cons, ih, List.filter_cons, cutCommands]
    simp only [Bool.and_eq_true, decide_eq_true_iff, and_assoc]
    split <;> rfl

theorem restartEffect_queue : (restartEffect s).line.queue =
    enqueueAll ([Sheet.one, .two].flatMap fun sh =>
      ((List.finRange 32).filter fun i : GroupIx =>
        fogOf (restartEffect s) sh = .watch && s.scene.groups[i].state = .enabled &&
          s.scene.groups[i].defn.hazeSource && s.scene.groups[i].defn.sheet = some sh).map
        fun i => (s.scene.groups[i].defn.dimmer, 0)) [] := by
  have line : (restartEffect s).line = (restartDarkened s).line := by
    rw [restartEffect_eq, (restartDarkened_cleared s).recomputeElectricSilently_line]
  obtain ⟨-, queue, -, -⟩ := restartDarkened_leaves s
  rw [line, queue]
  refine congrArg (enqueueAll · []) (List.flatMap_congr fun sh _ => ?_)
  simp only [← restartWatches_iff]
  cases restartWatches s sh with
  | false => simp
  | true => simp only [if_true, flatMap_cutCommands, decide_true, Bool.true_and]

/-- R23: the Line Interface after RESTART, but for its Node Table and its Command Queue. -/
theorem restartEffect_line : (restartEffect s).line = { s.line with
    nodes := (restartEffect s).line.nodes, queue := (restartEffect s).line.queue, runCount := 0
    statusTimer := some 1000, lineErrors := 0, overruns := 0, drops := 0, overrunArmed := true } := by
  have line := (restartEffect_lineKept s).rest
  generalize (restartEffect s).line = l at line ⊢
  rw [line]
  rfl

theorem restartEffect_node (i : Fin 64) :
    (restartEffect s).line.nodes[i] = ⟨false, 0, 0, 0, s.line.nodes[i].rights⟩ := by
  rw [(restartEffect_lineKept s).rest]
  exact get_map ..

theorem restartEffect_handed : (restartEffect s).handed =
    s.handed.filter isLoadUpdate ++ (restartLoads s).map .lightingLoadUpdate := by
  obtain ⟨-, -, -, handed⟩ := restartDarkened_leaves s
  rw [← handed, restartEffect_eq]
  simp

theorem restartEffect_load :
    (restartEffect s).scene.loadReported = (restartLoads s).getLastD s.scene.loadReported := by
  rw [restartEffect_darkened]
  obtain ⟨-, -, load, -⟩ := restartDarkened_leaves s
  exact load

/-- R155, R158: the loads the cuts report, by the fog states RESTART leaves. -/
theorem restartEffect_loads :
    let first := loadUnder (fun sh => sh = .one) s
    let second := loadUnder (fun sh => sh = .two || fogOf (restartEffect s) .one = .watch) s
    (restartEffect s).handed = s.handed.filter isLoadUpdate ++
        (if fogOf (restartEffect s) .one = .watch then [.lightingLoadUpdate first] else []) ++
        (if fogOf (restartEffect s) .two = .watch then [.lightingLoadUpdate second] else []) ∧
      (restartEffect s).scene.loadReported =
        if fogOf (restartEffect s) .two = .watch then second
        else if fogOf (restartEffect s) .one = .watch then first
        else s.scene.loadReported := by
  have both (watch : restartWatches s .two = true) :
      (fun sh : Sheet => decide (sh = .two) || decide (restartWatches s .one = true)) = restartWatches s := by
    funext sh
    cases sh <;> simp [watch]
  simp only [restartEffect_handed, restartEffect_load, restartLoads, ← restartWatches_iff]
  cases two : restartWatches s .two with
  | false => cases one : restartWatches s .one <;> simp
  | true =>
    rw [both two]
    cases one : restartWatches s .one <;> simp

/-- Nothing but loads is left to be taken. -/
theorem restartEffect_handed_loads {e : Instr} (he : e ∈ (restartEffect s).handed) :
    ∃ load, e = .lightingLoadUpdate load := by
  rw [restartEffect_handed, List.mem_append, List.mem_filter, List.mem_map] at he
  obtain ⟨-, update⟩ | ⟨load, -, rfl⟩ := he
  · cases e with
    | lightingLoadUpdate load => exact ⟨load, rfl⟩
    | _ => cases update
  · exact ⟨load, rfl⟩

/-- R99, R159: a group is dark where RESTART leaves its sheet in WATCH, and has lost its fade and its driver elsewhere. -/
theorem restartEffect_groupCut (i : GroupIx) : (restartEffect s).scene.groups[i] =
    if ∃ sh ∈ [Sheet.one, Sheet.two], fogOf (restartEffect s) sh = .watch ∧ s.scene.groups[i].state = .enabled ∧
        s.scene.groups[i].defn.hazeSource = true ∧ s.scene.groups[i].defn.sheet = some sh then
      ⟨s.scene.groups[i].defn, .enabled, 0, none, none, true, some 0⟩
    else { s.scene.groups[i] with fade := none, driver := none, lastSent := none } := by
  have listed (sh : Sheet) : sh ∈ [Sheet.one, Sheet.two] := by cases sh <;> simp
  rw [restartEffect_group]
  generalize s.scene.groups[i] = g
  rw [restartedUnder, underCut]
  split
  · next cut =>
    obtain ⟨enabled, under⟩ := cut
    obtain ⟨source, sheet⟩ := Bool.and_eq_true_iff.1 under
    obtain ⟨sh, on, watch⟩ := (Option.any_eq_true _ _).1 sheet
    exact (if_pos ⟨sh, listed sh, restartWatches_iff.1 watch, enabled, source, on⟩).symm
  · next lit =>
    refine (if_neg ?_).symm
    rintro ⟨sh, -, watch, enabled, source, on⟩
    exact lit ⟨enabled, by simp [source, on, restartWatches_iff.2 watch]⟩

/-- R49, R77, R160: the points after RESTART; the mode and the time base are kept. -/
theorem restartEffect_kept : (restartEffect s).points = s.points.map restartedPoint ∧
    (restartEffect s).mode = s.mode ∧ (restartEffect s).timeBase = s.timeBase := by
  simp [restartEffect, restartedBlocks]

end

end Sys2Proof.Machine
end

section
/-! THEOREMS. RESTART. -/

namespace Sys2Proof.Machine

/-- R183: the sending of the DONE reply of a pending RESTART completes. -/
theorem completeSending_restart {s : State} {f : List Byte} {slot : SlotIx}
    (sent : s.line.sending = some ⟨f, .reply slot true⟩) (pending : s.responder.restartPending = true) :
    completeSending s = restartEffect (setSlot slot .free { s with line.sending := none }) := by
  rw [completeSending_reply sent, pending]
  rfl

/-- R177, R183: the take of a RESTART. -/
theorem exec_restart {slot : SlotIx} {q : Request} {s : State} (h : CanTake .restart slot q s) :
    exec (.restart slot) s = .next (arbitrate (setSlot slot .replying { s with
      responder.restartPending := true
      line.queue := s.line.queue ++ [.reply slot q.source [q.code, q.handle, 0] true]
      handed := s.handed.erase (.restart slot) })) := by
  have answer : answerOf .restart q.args (taken .restart slot s) =
      done { taken .restart slot s with responder.restartPending := true } := rfl
  have payload : replyPayload q.code q.handle .done [] = [q.code, q.handle, 0] := rfl
  have run := h.exec_eq answer
  rw [answered, placeReply, payload] at run
  exact run

/-- Settles O6: the take by what the owner answers, and the effect block by block. -/
theorem restartTakesEffectAtItsReply : Obligations.RestartTakesEffectAtItsReply := by
  refine ⟨fun slot q s h => exec_restart h, fun s f slot awake sent pending => ?_⟩
  have run : exec .lineOutSendComplete s =
      .next (arbitrate (restartEffect (setSlot slot .free { s with line.sending := none }))) := by
    rw [exec_awake .lineOutSendComplete awake, completeSending_restart sent pending]
  rw [setSlot_eq] at run
  generalize (setSlot slot .free { s with line.sending := none }).responder.slot0 = slot0,
    (setSlot slot .free { s with line.sending := none }).responder.slot1 = slot1 at run
  let r : State := { s with line.sending := none, responder.slot0 := slot0, responder.slot1 := slot1 }
  obtain ⟨points, mode, time⟩ := restartEffect_kept r
  obtain ⟨grant, taken, left⟩ := restartEffect_shares r
  obtain ⟨-, -, store, view, search, counter, period, timer, results⟩ := restartEffect_sceneFields r
  have fog := restartEffect_fog r
  refine ⟨restartEffect r, run, restartEffect_responder r, restartEffect_queue r, restartEffect_node r,
    restartEffect_line r, fun i => ?_, restartEffect_consumer r, restartEffect_budget r, restartEffect_sheetRec r,
    ?_, ?_, ?_, restartEffect_capSet r, restartEffect_zone r, grant, taken, left, store, view, search, counter, period,
    timer, fun n => restartEffect_engine r, restartEffect_bufferRest r, restartEffect_bufferState r,
    restartEffect_groupCut r, fun i => ?_, restartEffect_loads r, mode, time, restartEffect_notices r,
    fun e => restartEffect_handed_loads r⟩
  · rw [points]
    exact get_map ..
  · rw [fog]
    rfl
  · rw [fog]
    rfl
  · rw [fog]
    rfl
  · rw [results]
    exact Vector.getElem_replicate ..

end Sys2Proof.Machine
end
